-- ==== Sys2Proof/Word.lean ====
section
/-! DEFINITION. The word types of the Volinar model and their plainest arithmetic (spec/00 R4: bit 0 is the least
significant bit, multi-byte protocol fields are big-endian, registers are 32 bits wide). -/

namespace Sys2Proof

/-- One byte of a frame, an image or pool memory. -/
abbrev Byte := BitVec 8

/-- One register of the management address space (R4). -/
abbrev Word := BitVec 32

/-- A 64-bit quantity: Almanac time, a counter pair, a pool address field. -/
abbrev DWord := BitVec 64

/-- The number of values a 64-bit counter takes before it wraps to zero (R594). -/
abbrev two64 : Nat := 18446744073709551616

/-- The number of values a 32-bit field takes. -/
abbrev two32 : Nat := 4294967296

/-- The number of values a 16-bit field takes. -/
abbrev two16 : Nat := 65536

end Sys2Proof
end

