-- ==== Sys2Proof/Syntax.lean ====
section
/-! DEFINITION. The commands of the block: one constructor of `Instr` per row of spec/opcode_table.json, with the operands
the row's event brings from outside. The rows give no operands and no bits, so each operand list is the model's own (log
entry 1): what the rule named with the constructor says the event carries. Wire fields are bit vectors of their wire width;
indices and times are naturals. -/

namespace Sys2Proof

/-- A PMT message as it arrives (R174, R175): the fields of its 32-byte header but for the opcode, which the command's
constructor names; its payload bytes; its CRC-32C trailer. `port` is the ingress port (1,024 where there is none, R44). -/
structure Msg where
  port : Nat
  version : BitVec 4
  cls : BitVec 4
  flags : BitVec 16
  source : BitVec 24
  dest : BitVec 24
  tag : BitVec 16
  seq : BitVec 32
  length : BitVec 16
  wt : BitVec 16
  job : BitVec 16
  epoch : BitVec 16
  address : BitVec 64
  payload : List Byte
  crc : BitVec 32
deriving DecidableEq, Repr

/-- The payload of a beacon or of a grandmaster claim (R28). -/
structure Beacon where
  version : BitVec 4
  typ : BitVec 4
  priority : BitVec 8
  clockClass : BitVec 8
  holdover : Bool
  island : Bool
  domain : BitVec 32
  gmEui : BitVec 64
  origin : BitVec 64
  correction : BitVec 64
  steps : BitVec 16
  seq : BitVec 16
deriving DecidableEq, Repr

/-- A link-level replay header (R66). -/
structure LlrHdr where
  version : BitVec 4
  typ : BitVec 4
  ackValid : Bool
  retx : Bool
  seq : BitVec 16
  ackSeq : BitVec 16
  lane : BitVec 4
deriving DecidableEq, Repr

/-- An IEEE 802.1Q tag (R102). -/
structure VTag where
  vid : BitVec 12
  pcp : BitVec 3
  dei : Bool
deriving DecidableEq, Repr

/-- The IPv4 or IPv6 header fields the parser reads (R102), with the transport ports (zero where there are none). -/
structure Ip where
  v6 : Bool
  src : Nat
  dst : Nat
  proto : BitVec 8
  sport : BitVec 16
  dport : BitVec 16
  dscp : BitVec 6
  ecn : BitVec 2
deriving DecidableEq, Repr

/-- How a received frame ended: its FCS and FEC codewords good, bad, or a stomped FCS (R62, R122, R123). -/
inductive FcsKind where
  | good
  | bad
  | stomped
deriving DecidableEq, Repr

/-- A PMT message inside a UDP datagram: its opcode (R178) and the message. -/
structure PmtFrame where
  opcode : BitVec 8
  msg : Msg
deriving DecidableEq, Repr

/-- The SecTAG and ICV of a MACsec frame (R86): association number, packet number, integrity check value. -/
structure SecTag where
  an : BitVec 2
  pn : BitVec 64
  icv : Nat
deriving DecidableEq, Repr

/-- A frame at a fabric port: what its first 256 bytes show the parser (R102), its length from destination address to FCS,
how it ended, and the rest as opaque bytes. `pmt` holds the datagram's message where the UDP payload is one (at least the 32
bytes of a PMT header, R108). `sec` is the frame's MACsec protection, if it has any; the other fields are then those of the frame it
protects (R86). -/
structure Frame where
  dst : BitVec 48
  src : BitVec 48
  len : Nat
  fcs : FcsKind
  tag : Option VTag
  inner : Option VTag
  etherType : BitVec 16
  ip : Option Ip
  pmt : Option PmtFrame
  body : List Byte
  sec : Option SecTag := none
deriving DecidableEq, Repr

/-- What one lane showed in a window of 1 ms: symbols received, symbol errors before FEC, symbols corrected (R78, R79). -/
structure LaneWin where
  lane : Nat
  symbols : Nat
  errors : Nat
  corrected : Nat
deriving DecidableEq, Repr

/-- What a cage answered to a probe (R83 to R85): nothing; a module with its CMIS state and the port modes its applications
offer. -/
inductive CageAnswer where
  | silent
  | module (modState : BitVec 4) (modes : List Nat)
deriving DecidableEq, Repr

/-- An EAPOL-MKA frame, as far as the model follows it (R491): the CKN it speaks for, the key server's priority and
identifier, the live members, and the secure association key it distributes, if any. -/
structure Mka where
  ckn : Nat
  serverPriority : BitVec 8
  serverId : Nat
  live : List Nat
  sak : Option Nat
deriving DecidableEq, Repr

/-- The kinds of IEEE 1588 frame of R91. -/
inductive PtpKind where
  | sync
  | delayReq
  | pdelayReq
  | pdelayResp
  | followUp
  | delayResp
deriving DecidableEq, Repr

/-- An IEEE 1588 event frame: kind, sequence number, correction field, residence time until it leaves (R91). -/
structure Ptp where
  kind : PtpKind
  seqId : BitVec 16
  correction : Int
  residence : Nat
deriving DecidableEq, Repr

/-- An SPDM request (R472 to R475, R481, R613), decoded: DMTF's message layout is outside the manual. -/
inductive SpdmReq where
  | getVersion
  | getCapabilities
  | negotiateAlgorithms
  | getDigests
  | getCertificate (slot : Nat)
  | challenge
  | getMeasurements (index : Nat) (signed : Bool)
  | keyExchange
  | finish (requesterKey : Option Nat)
  | endSession
  | heartbeat
  | keyUpdate
  | vendor (payload : List Byte)
  | other (code : Nat)
deriving DecidableEq, Repr, Inhabited

/-- An SPDM message: the session it is secured under, if any, and the request. -/
structure SpdmMsg where
  session : Option Nat
  req : SpdmReq
deriving DecidableEq, Repr, Inhabited

/-- A snoop-filter record of one (set, way) (R208): the line's number (address bits [55:7]), STATE 0 Invalid, 1 Shared,
2 Forwarder, 3 Owner, and STALE. -/
structure SfRec where
  line : Nat
  state : Nat
  stale : Bool
deriving DecidableEq, Repr

/-- A completion as kept (R181) and sent (R8, R657): the echoed request fields, status, completion flags, payload. -/
structure Cpl where
  source : Nat
  tag : Nat
  seq : Nat
  status : Nat
  flags : Nat
  wt : Nat
  job : Nat
  epoch : Nat
  address : Nat
  payload : List Byte
deriving DecidableEq, Repr

/-- A commit record between twins (R513, R514). Besides what R513 lists it carries the lines whose dirty-shadow entries are freed, and
the slots whose registration changed: slot, endpoint, SETS_LOG2, ways, whether it is registered (log entry 101). -/
structure Commit where
  id : Nat
  lines : List (Nat × List Byte)
  pinned : List (Nat × List Byte)
  records : List (Nat × Nat × SfRec)
  poison : List (Nat × Bool)
  pairE : List (Nat × Nat)
  kept : List Cpl
  gauges : List (Nat × Nat × Nat × Nat × Nat)
  freed : List Nat
  slots : List (Nat × Nat × Nat × Nat × Bool)
deriving DecidableEq, Repr

/-- A control transaction across the bridge (R516). -/
inductive CtlKind where
  | stagePatch
  | sheetNotice
  | regAccess
  | shadowStream
  | handback
deriving DecidableEq, Repr

/-- An access path of R614: PCIe (BAR0 and the mailbox), a source of the management list, a secure session, firmware. -/
inductive Path where
  | pcie
  | source (ep : Nat)
  | session (id : Nat)
  | firmware
deriving DecidableEq, Repr

/-- The commands of the block, in the order of spec/opcode_table.json. -/
inductive Instr where
  /-- R628, R630: RESET_N has risen and every monitor reports good; the straps as sampled. -/
  | resetRelease (straps : BitVec 4)
  /-- R628: PERST_N. -/
  | pcieReset
  /-- R628: TRST_N. -/
  | tapReset
  /-- R626: a rail (index of R625) more than 5 % from its voltage for 1 µs, over or under it. -/
  | railFault (rail : Nat) (ovr : Bool)
  /-- R632. -/
  | clockLost
  /-- R638. -/
  | thermtrip
  /-- R632: the SerDes reference of one chiplet fails. -/
  | refclkSdsFail (chiplet : Nat)
  /-- R534. -/
  | boot
  /-- R22. -/
  | almStart
  /-- R633: a 1PPS edge, `intervalNs` after the last as counted on ALM_10M, and whether ALM_10M is within 2 ppm. -/
  | extRefEdge (intervalNs : Nat) (tenMOk : Bool)
  /-- R31: a beacon on a port, with its ingress timestamp on the device's own time in 1/16 ns (R89). -/
  | beaconRx (port : Nat) (stamp16 : Nat) (b : Beacon)
  /-- R39. -/
  | claimRx (port : Nat) (b : Beacon)
  /-- R32. -/
  | beaconWindowClose
  /-- R26. -/
  | holdoverLimitExpiry
  /-- R24. -/
  | almanacStartTimeout
  /-- R24. -/
  | islandGmTimeout
  /-- R27. -/
  | timeStepped
  /-- R25, R35. -/
  | beaconSend
  /-- R37, R25. -/
  | claimFlood
  /-- R90: a completed peer-delay measurement of a port, in 1/16 ns. -/
  | pdelayMeasure (port : Nat) (delay16 : Nat)
  /-- R90. -/
  | pdelayReqRx (port : Nat) (seqId : BitVec 16)
  /-- R91. -/
  | ptpFrameRx (port : Nat) (f : Ptp)
  /-- R92: the ESMC quality level seen on each port. -/
  | synceSelect (levels : List (Nat × Nat))
  /-- R508: the left twin's time and state code. -/
  | twinTimeSync (leftTime : BitVec 64) (leftState : BitVec 3)
  /-- R48. -/
  | forecastEntryStart (group entry : Nat)
  /-- R48. -/
  | forecastEntryEnd (group entry : Nat)
  /-- R51. -/
  | forecastPeriodBoundary (group : Nat)
  /-- R143. -/
  | slotAllowanceSet (port : Nat)
  /-- R144. -/
  | redGrantSet (port : Nat)
  /-- R149. -/
  | shaperRefill (port : Nat)
  /-- R152. -/
  | policerRefill (policer : Nat)
  /-- R63. -/
  | portTrainDone (port : Nat) (ok : Bool)
  /-- R81. -/
  | degradeTimeout (port : Nat)
  /-- R67. -/
  | llrInitRx (port : Nat) (h : LlrHdr)
  /-- R67. -/
  | llrInitTimeout (port : Nat)
  /-- R68, R123. -/
  | llrDataRx (port : Nat) (h : LlrHdr) (f : Frame)
  /-- R68. -/
  | llrAckTimer (port : Nat)
  /-- R69. -/
  | llrAckRx (port : Nat) (h : LlrHdr)
  /-- R69. -/
  | llrNakRx (port : Nat) (h : LlrHdr)
  /-- R69. -/
  | llrReplayTimeout (port : Nat)
  /-- R78. -/
  | losHoldExpiry (lane : Nat)
  /-- R78: a 1 ms window of a port ends; `second` where a 1 s window ends with it. -/
  | linkErrorWindow (port : Nat) (lanes : List LaneWin) (uncorr : Nat) (second : Bool)
  /-- R73: with the endpoint ID of the partner (R74). -/
  | spareReqRx (port : Nat) (h : LlrHdr) (partner : Nat)
  /-- R73. -/
  | spareAckRx (port : Nat) (h : LlrHdr)
  /-- R73. -/
  | spareAlignLock (port : Nat)
  /-- R73. -/
  | spareDoneRx (port : Nat) (h : LlrHdr)
  /-- R72. -/
  | spareLost (group : Nat)
  /-- R84. -/
  | cageRetryExpiry (group : Nat) (busB : Bool) (acked : Bool)
  /-- R84. -/
  | cagePresenceChange (group : Nat) (busB : Bool) (present : Bool) (answer : CageAnswer)
  /-- R84. -/
  | cageProbe (group : Nat) (busB : Bool) (answer : CageAnswer)
  /-- R491. -/
  | mkaFrameRx (port : Nat) (f : Mka)
  /-- R102. -/
  | frameArrival (port : Nat) (f : Frame)
  /-- R104. -/
  | macAgeOut (vlan : Nat) (mac : BitVec 48)
  /-- R118: the class-enable vector and the quanta of the eight priorities. -/
  | pfcRx (port : Nat) (enable : BitVec 8) (quanta : List Nat)
  /-- R116. -/
  | pfcRefresh (port prio : Nat)
  /-- R118. -/
  | pfcQuantaExpiry (port prio : Nat)
  /-- R119. -/
  | pfcWdExpiry (port prio : Nat)
  /-- R142. -/
  | schedSelect (port : Nat)
  /-- R121: the (input, output) pair, the missing cell's crossbar sequence and the plane that lost it. -/
  | reseqTimeout (inPort outPort seq plane : Nat)
  /-- R114: an uncorrectable cell of a stored frame. -/
  | bufUncorr (frame : Nat) (cell : Nat)
  /-- R178. -/
  | read (m : Msg)
  /-- R178. -/
  | write (m : Msg)
  /-- R178. -/
  | writeMasked (m : Msg)
  /-- R178. -/
  | flush (m : Msg)
  /-- R178. -/
  | discard (m : Msg)
  /-- R230. -/
  | atomic (m : Msg)
  /-- R188. -/
  | mirrorWrite (m : Msg)
  /-- R188. -/
  | mirrorMasked (m : Msg)
  /-- R188. -/
  | mirrorDiscard (m : Msg)
  /-- R188. -/
  | mirrorFlush (m : Msg)
  /-- R190. -/
  | mirrorRead (m : Msg)
  /-- R182. -/
  | pairReset (m : Msg)
  /-- R187. -/
  | completion (m : Msg)
  /-- R187: the target and tag of the request whose timer expires. -/
  | poolTimeout (target tag : Nat)
  /-- R191. -/
  | trayBusyRetry (target tag : Nat)
  /-- R186. -/
  | holdExpiry (source tag : Nat)
  /-- R173. -/
  | shortWaitExpiry (source tag : Nat)
  /-- R171: the unit's number, pool address bits [55:16]. -/
  | unitMigrate (unit : Nat)
  /-- R172. -/
  | pairRestore (unit : Nat)
  /-- R189. -/
  | mirrorResyncStep (window : Nat)
  /-- R216. -/
  | rdShared (m : Msg)
  /-- R216. -/
  | rdAny (m : Msg)
  /-- R216. -/
  | rdOwn (m : Msg)
  /-- R219. -/
  | upgrade (m : Msg)
  /-- R219. -/
  | wbDirty (m : Msg)
  /-- R213. -/
  | evictClean (m : Msg)
  /-- R204. -/
  | register (m : Msg)
  /-- R206. -/
  | deregister (m : Msg)
  /-- R217: a COMPLETION that answers a snoop. -/
  | snoopResponse (m : Msg)
  /-- R232: the endpoint and line of the snoop whose timer expires. -/
  | recallTimeout (ep line : Nat)
  /-- R224. -/
  | lineFreeGrant (line : Nat)
  /-- R570. -/
  | poisonTableCopy
  /-- R263. -/
  | rollbackDrainEnd
  /-- R270. -/
  | brDone (m : Msg)
  /-- R274. -/
  | brNotify (m : Msg)
  /-- R270: the tray and tag of the media command whose MEDIA_MS runs out. -/
  | mediaTimeout (tray tag : Nat)
  /-- R267. -/
  | bridgeBusyRetry (tray tag : Nat)
  /-- R285. -/
  | gcStep
  /-- R292. -/
  | refresh (unit : Nat)
  /-- R293. -/
  | patrolStep
  /-- R294. -/
  | rebuildStep
  /-- R301. -/
  | mapCheckpoint
  /-- R302. -/
  | denseRecovery
  /-- R302. -/
  | recoveryDone
  /-- R330. -/
  | redContrib (m : Msg)
  /-- R334. -/
  | spillReadback (group epoch chunk : Nat)
  /-- R332. -/
  | stageWaitExpiry (source tag : Nat)
  /-- R341. -/
  | lateExpiry (group epoch chunk : Nat)
  /-- R342. -/
  | failExpiry (group epoch chunk : Nat)
  /-- R338. -/
  | gaugeInc (m : Msg)
  /-- R340. -/
  | gaugeRead (m : Msg)
  /-- R344: a Trowel unit. -/
  | unitRetired (unit : Nat)
  /-- R345. -/
  | stageUncorr (group epoch chunk : Nat)
  /-- R355. -/
  | gather (m : Msg)
  /-- R362. -/
  | sieve (m : Msg)
  /-- R360: a Gather unit, or a Sieve unit. -/
  | gatherUnitRetired (isSieve : Bool) (unit : Nat)
  /-- R371: a tile of the group's set takes the oldest ring chunk. -/
  | rubUpdate (group tile : Nat)
  /-- R404. -/
  | tileInvoke (m : Msg)
  /-- R401. -/
  | lowerDone (slot : Nat)
  /-- R407. -/
  | partDispatch (tile : Nat)
  /-- R409. -/
  | tileOpEnd (tile : Nat)
  /-- R411. -/
  | tileRetired (tile : Nat)
  /-- R412. -/
  | noTileWaitExpiry (source tag : Nat)
  /-- R402. -/
  | hostOpRun (core : Nat)
  /-- R453. -/
  | residentStart (slot : Nat)
  /-- R454, a7 = 0. -/
  | exit (core : Nat)
  /-- R454, a7 = 1. -/
  | poolRead (core home : Nat) (address : BitVec 64) (size : Nat) (acq vol : Bool)
  /-- R454, a7 = 2. -/
  | poolWrite (core home : Nat) (address : BitVec 64) (data : List Byte) (rel : Bool)
  /-- R454, a7 = 3. -/
  | poolAtomic (core home : Nat) (address : BitVec 64) (payload : List Byte)
  /-- R454, a7 = 4. -/
  | poolFlush (core home : Nat) (address : BitVec 64) (bytes : BitVec 64)
  /-- R454, a7 = 5. -/
  | ecallTileInvoke (core slot : Nat) (bases : List (BitVec 64))
  /-- R454, a7 = 6. -/
  | mbxRecv (core : Nat) (wait : Bool)
  /-- R454, a7 = 7. -/
  | mbxSend (core dest mailbox : Nat) (cookie : BitVec 32) (message : List Byte)
  /-- R454, a7 = 8. -/
  | time (core : Nat)
  /-- R454, a7 = 9. -/
  | random (core n : Nat)
  /-- R454, any other a7. -/
  | ecallUnknown (core a7 : Nat)
  /-- R455. -/
  | mbxPost (m : Msg)
  /-- R456: an exception other than ecall. -/
  | resFaulted (core cause : Nat) (pc : BitVec 64)
  /-- R452. -/
  | firmwareCoreRetired (core : Nat)
  /-- R452. -/
  | hostCoreFault (core : Nat)
  /-- R473: the message as PMT carries it, and the SPDM message its payload decodes to. -/
  | spdmMsg (m : Msg) (p : SpdmMsg)
  /-- R483: the session and the command payload of R481. -/
  | keyLoad (session : Nat) (payload : List Byte)
  /-- R483. -/
  | keyErase (session : Nat) (payload : List Byte)
  /-- R491. -/
  | linkCak (session : Nat) (payload : List Byte)
  /-- R484. -/
  | keyApplied (slot : Nat)
  /-- R487. -/
  | rekeyStep (slot : Nat)
  /-- R478. -/
  | rngStartupTest (pass : Bool)
  /-- R479. -/
  | rngRetest
  /-- R477. -/
  | drbgReseed
  /-- R493. -/
  | debugNonceRead
  /-- R494: the signature the debugger returns, within 60 s of its nonce or not. -/
  | debugUnlocked (signature : List Byte) (inTime : Bool)
  /-- R507: which of the eight groups aligned. -/
  | bridgeTrainDone (groups : BitVec 8)
  /-- R507. -/
  | hello (role : BitVec 2) (devid : Nat) (serial : BitVec 32) (digest : Nat)
  /-- R507. -/
  | pairTimeout
  /-- R504. -/
  | groupRetired (group : Nat)
  /-- R517. -/
  | heartbeat
  /-- R517: whether ALIVE still toggles. -/
  | partnerSilence (alive : Bool)
  /-- R518. -/
  | takeover
  /-- R513. -/
  | commitRecord (c : Commit)
  /-- R513. -/
  | commitAck (id : Nat)
  /-- R514. -/
  | shadowWaitExpiry (source tag : Nat)
  /-- R516: what it carries, whether this twin starts it, whether the partner starts one in the same tick. -/
  | controlTransaction (kind : CtlKind) (mine partnerToo : Bool)
  /-- R519. -/
  | shadowStream (count : Nat)
  /-- R519. -/
  | handback
  /-- R537. -/
  | coatWrite (m : Msg)
  /-- R538. -/
  | coatSubmit (m : Msg)
  /-- R537. -/
  | coatAssemblyTimeout
  /-- R539. -/
  | journalStaged
  /-- R542. -/
  | patchApply
  /-- R544. -/
  | cure (m : Msg)
  /-- R543: the check's bit. -/
  | healthCheckFail (check : Nat)
  /-- R545. -/
  | cureEnd
  /-- R545. -/
  | strip
  /-- R548: kind and index of R547. -/
  | unitReturn (kind index : Nat)
  /-- R571. -/
  | selftestStart (kind index : Nat)
  /-- R572. -/
  | selftestEnd (kind index : Nat) (pass : Bool)
  /-- R572. -/
  | selftestWaitExpiry (source tag : Nat)
  /-- R558. -/
  | unitFault (kind index : Nat)
  /-- R559: the pseudo-channel, its row, and the lines of it that cannot be read. -/
  | hbmUe (pc row : Nat) (unreadable : List Nat)
  /-- R559: corrected errors of a 1 s window, the row with the most, and its unreadable lines. -/
  | hbmCeWindow (pc count row : Nat) (unreadable : List Nat)
  /-- R559. -/
  | hbmRowRepaired (pc row : Nat)
  /-- R562. -/
  | pcMoveDone (pc : Nat)
  /-- R566. -/
  | frostNotice (m : Msg)
  /-- R567. -/
  | thaw (m : Msg)
  /-- R567. -/
  | thawApply (job : Nat)
  /-- R573. -/
  | calibration (lane : Nat)
  /-- R601. -/
  | snapshot
  /-- R602. -/
  | snapshotSend
  /-- R611. -/
  | regRead (m : Msg)
  /-- R611. -/
  | regWrite (m : Msg)
  /-- R617: one word written to a register by a path. -/
  | registerWrite (path : Path) (address : BitVec 32) (value : BitVec 32)
  /-- R610: the value written to the doorbell and the request that stands in the request area. -/
  | mbxDoorbell (value : BitVec 32) (opcode : BitVec 8) (m : Msg) (p : SpdmMsg)
  /-- R593. -/
  | loReadLatch (path : Path) (address : BitVec 32)
  /-- R648: the word written to PWR_FUSE_CTRL. -/
  | fuseProgram (value : BitVec 32)
  /-- R648: whether the fuses read back as written. -/
  | fuseProgramDone (matched : Bool)
  /-- R636: the window's average package power, and whether a VDD_TILE rail exceeded 420 A for 10 µs. -/
  | powerWindow (watts : Nat) (tileOver : Bool)
  /-- R636: the junction sensors' and the stacks' temperatures in °C. -/
  | thermalCheck (tj : List Int) (hbm : List Int)
  /-- R636. -/
  | throttleNChange (low : Bool)
  /-- R637. -/
  | hostSlowed
  /-- R637: package power 10 ms after the host cores slowed. -/
  | powerUncontrolled (watts : Nat)
  /-- R628. -/
  | resetNAsserted
  /-- R633. -/
  | extRefLost
  /-- R78. -/
  | lossOfSignal (lane : Nat)
  /-- R78. -/
  | laneLockRegained (lane : Nat)
  /-- R451. -/
  | firmwareCoreUpdateDone (core : Nat)
deriving DecidableEq, Repr

end Sys2Proof
end

