-- ==== Sys2Proof/WellFormed.lean ====
section
/-! DEFINITION. Which commands can arise: every index within the range the spec gives its kind. Message fields are bit vectors of
their wire width and any value of theirs can arrive. -/

namespace Sys2Proof

/-- A port, 0 to 1,023 (R509). -/
def okPort (p : Nat) : Bool := p < 1024

/-- A lane of one device, 0 to 575, or of its twin, 576 to 1,151 (R58, R509). -/
def okLane (l : Nat) : Bool := l < 1152

/-- A port group, 0 to 63 (R58). -/
def okGroup (g : Nat) : Bool := g < 64

/-- A collective group, gauge or window, 0 to 16,383. -/
def okIndex (g : Nat) : Bool := g < 16384

/-- An endpoint ID of 20 bits. -/
def okEp (e : Nat) : Bool := e < 1048576

/-- A tag of 16 bits. -/
def okTag (t : Nat) : Bool := t < 65536

/-- A host core, 0 to 23 (R448). -/
def okCore (c : Nat) : Bool := c < 24

/-- A tile, 0 to 79 (R386). -/
def okTile (t : Nat) : Bool := t < 80

/-- A key slot, 0 to 4,095 (R480). -/
def okSlot (n : Nat) : Bool := n < 4096

/-- A pseudo-channel, 0 to 511 (R166). -/
def okPc (n : Nat) : Bool := n < 512

/-- An ingress port of a message, or 1,024 where there is none (R44). -/
def Msg.ok (m : Msg) : Bool := m.port ≤ 1024

/-- How many units a kind of R547 has, and the first index. -/
def kindRange (kind : Nat) : Nat × Nat :=
  match kind with
  | 0 => (0, 1152)
  | 1 => (0, 1024)
  | 2 => (0, 80)
  | 3 => (0, 64)
  | 4 => (0, 16)
  | 5 => (0, 16)
  | 6 => (0, 8)
  | 7 => (0, 16)
  | 8 => (0, 48)
  | 9 => (4, 24)
  | 10 => (0, 4)
  | 11 => (0, 8)
  | _ => (0, 0)

/-- A unit's kind and index within the ranges of R547. -/
def okUnit (kind index : Nat) : Bool := (kindRange kind).1 ≤ index && index < (kindRange kind).2

/-- A unit of self-test or of a fault: as `okUnit`, host cores 0 to 3 included (R450). -/
def okTestUnit (kind index : Nat) : Bool := okUnit kind index || (kind == 9 && index < 4)

/-- A window of the parts of a frame: a frame of any length arrives; its 802.1Q fields are bit vectors. -/
def Frame.ok (f : Frame) : Bool := f.len ≤ 65535

/-- A command that can arise. -/
def Instr.wf : Instr → Bool
  | .resetRelease _ | .pcieReset | .tapReset | .clockLost | .thermtrip | .boot | .almStart | .extRefEdge _ _ => true
  | .railFault rail _ => rail < 14
  | .refclkSdsFail c => c < 8
  | .beaconRx p _ _ | .claimRx p _ => okPort p
  | .beaconWindowClose | .holdoverLimitExpiry | .almanacStartTimeout | .islandGmTimeout | .timeStepped | .beaconSend
  | .claimFlood => true
  | .pdelayMeasure p _ | .pdelayReqRx p _ | .ptpFrameRx p _ => okPort p
  | .synceSelect ls => ls.all fun x => okPort x.1
  | .twinTimeSync _ _ => true
  | .forecastEntryStart g e | .forecastEntryEnd g e => okIndex g && e < 4096
  | .forecastPeriodBoundary g => okIndex g
  | .slotAllowanceSet p | .redGrantSet p | .shaperRefill p => okPort p
  | .policerRefill n => n < 16384
  | .portTrainDone p _ | .degradeTimeout p | .llrInitRx p _ | .llrInitTimeout p | .llrAckTimer p | .llrAckRx p _
  | .llrNakRx p _ | .llrReplayTimeout p => okPort p
  | .llrDataRx p _ f => okPort p && f.ok
  | .losHoldExpiry l => okLane l
  | .linkErrorWindow p ls _ _ => okPort p && ls.all fun w => okLane w.lane
  | .spareReqRx p _ e => okPort p && okEp e
  | .spareAckRx p _ | .spareAlignLock p | .spareDoneRx p _ => okPort p
  | .spareLost g => okGroup g
  | .cageRetryExpiry g _ _ | .cagePresenceChange g _ _ _ | .cageProbe g _ _ => okGroup g
  | .mkaFrameRx p _ => okPort p
  | .frameArrival p f => okPort p && f.ok
  | .macAgeOut v _ => v < 4096
  | .pfcRx p _ q => okPort p && q.length == 8
  | .pfcRefresh p q | .pfcQuantaExpiry p q | .pfcWdExpiry p q => okPort p && q < 8
  | .schedSelect p => okPort p
  | .reseqTimeout i o q pl => okPort i && okPort o && q < 4096 && pl < 4
  | .bufUncorr _ _ => true
  | .read m | .write m | .writeMasked m | .flush m | .discard m | .atomic m | .mirrorWrite m | .mirrorMasked m
  | .mirrorDiscard m | .mirrorFlush m | .mirrorRead m | .pairReset m | .completion m => m.ok
  | .poolTimeout e t | .trayBusyRetry e t | .holdExpiry e t | .shortWaitExpiry e t => okEp e && okTag t
  | .unitMigrate u | .pairRestore u | .refresh u => u < 2 ^ 40
  | .mirrorResyncStep w => okIndex w
  | .rdShared m | .rdAny m | .rdOwn m | .upgrade m | .wbDirty m | .evictClean m | .register m | .deregister m
  | .snoopResponse m => m.ok
  | .recallTimeout e l => okEp e && decide (l < 2 ^ 49)
  | .lineFreeGrant l => l < 2 ^ 49
  | .poisonTableCopy | .rollbackDrainEnd => true
  | .brDone m | .brNotify m => m.ok
  | .mediaTimeout t g | .bridgeBusyRetry t g => t < 48 && okTag g
  | .gcStep | .patrolStep | .rebuildStep | .mapCheckpoint | .denseRecovery | .recoveryDone => true
  | .redContrib m | .gaugeInc m | .gaugeRead m | .gather m | .sieve m | .tileInvoke m => m.ok
  | .spillReadback g e c | .lateExpiry g e c | .failExpiry g e c | .stageUncorr g e c =>
      okIndex g && e < 65536 && c < 2 ^ 41
  | .stageWaitExpiry e t => okEp e && okTag t
  | .unitRetired u => u < 64
  | .gatherUnitRetired _ u => u < 16
  | .rubUpdate g t => okIndex g && okTile t
  | .lowerDone n => n < 1024
  | .partDispatch t | .tileOpEnd t | .tileRetired t => okTile t
  | .noTileWaitExpiry e t => okEp e && okTag t
  | .hostOpRun c => okCore c
  | .residentStart n => n < 64
  | .exit c => okCore c
  | .poolRead c h _ n _ _ => okCore c && okEp h && n < 65536
  | .poolWrite c h _ d _ => okCore c && okEp h && d.length < 65536
  | .poolAtomic c h _ _ | .poolFlush c h _ _ => okCore c && okEp h
  | .ecallTileInvoke c n _ => okCore c && n < 65536
  | .mbxRecv c _ => okCore c
  | .mbxSend c d _ _ _ => okCore c && okEp d
  | .time c => okCore c
  | .random c _ => okCore c
  | .ecallUnknown c a => okCore c && 10 ≤ a
  | .mbxPost m => m.ok
  | .resFaulted c _ _ => okCore c
  | .firmwareCoreRetired c => c < 4
  | .hostCoreFault c => okCore c && 4 ≤ c
  | .spdmMsg m _ => m.ok
  | .keyLoad _ _ | .keyErase _ _ | .linkCak _ _ => true
  | .keyApplied n | .rekeyStep n => okSlot n
  | .rngStartupTest _ | .rngRetest | .drbgReseed | .debugNonceRead | .debugUnlocked _ _ => true
  | .bridgeTrainDone _ => true
  | .hello _ _ _ _ | .pairTimeout => true
  | .groupRetired g => g < 8
  | .heartbeat | .partnerSilence _ | .takeover | .commitRecord _ | .commitAck _ => true
  | .shadowWaitExpiry e t => okEp e && okTag t
  | .controlTransaction _ _ _ | .shadowStream _ | .handback => true
  | .coatWrite m | .coatSubmit m => m.ok
  | .coatAssemblyTimeout | .journalStaged | .patchApply => true
  | .cure m => m.ok
  | .healthCheckFail c => c < 6
  | .cureEnd | .strip => true
  | .unitReturn k i => okUnit k i
  | .selftestStart k i | .selftestEnd k i _ | .unitFault k i => okTestUnit k i
  | .selftestWaitExpiry e t => okEp e && okTag t
  | .hbmUe p _ _ => okPc p
  | .hbmCeWindow p _ _ _ => okPc p
  | .hbmRowRepaired p _ => okPc p
  | .pcMoveDone p => okPc p
  | .frostNotice m | .thaw m => m.ok
  | .thawApply j => j < 65536
  | .calibration l => okLane l
  | .snapshot | .snapshotSend => true
  | .regRead m | .regWrite m => m.ok
  | .registerWrite _ _ _ => true
  | .mbxDoorbell _ _ m _ => m.ok
  | .loReadLatch _ _ => true
  | .fuseProgram _ => true
  | .fuseProgramDone _ => true
  | .powerWindow w _ => w < 4096
  | .thermalCheck tj hbm => tj.length == 32 && hbm.length == 8
  | .throttleNChange _ | .hostSlowed | .powerUncontrolled _ | .resetNAsserted | .extRefLost => true
  | .lossOfSignal l | .laneLockRegained l => okLane l
  | .firmwareCoreUpdateDone c => c < 4

end Sys2Proof
end

