-- ==== Sys2Proof/Machine/Coat.lean ====
section
/-! DEFINITION. The data a coat carries (spec/17 R530, R531), section by section. The byte layouts of the header, the section
table, REGISTERS, SCRUB, SHEET and REVOKE are the spec's; of the other sections the spec gives the content and no byte layout, so
the content is held decoded and the decoding is an uninterpreted constant of Config (log entry 5). -/

namespace Sys2Proof.Machine

/-- A record of the REGISTERS section (R531): register address, selector value, value of its COAT fields. -/
structure RegRec where
  addr : Nat
  sel : Nat
  val : Word
deriving DecidableEq, Repr, Inhabited

/-- A Forecast calendar of a group (R48): anchor slot, period, entries of 64 bits laid out as R49. -/
structure Cal where
  group : Nat := 0
  anchor : Nat := 0
  period : Nat := 0
  entries : List DWord := []
deriving DecidableEq, Repr, Inhabited

/-- The IEEE 1588 roles of R91. -/
inductive PtpRole where
  | off
  | boundary
  | transparent (oneStep peerToPeer : Bool)
deriving DecidableEq, Repr, Inhabited

/-- A port's role in the Almanac section (R29, R55): Almanac-enabled, endpoint-facing, and its PTP role (R91). -/
structure PortRole where
  port : Nat
  almanac : Bool := false
  facing : Bool := false
  ptp : PtpRole := .off
deriving DecidableEq, Repr, Inhabited

/-- Section 0x03 ALMANAC: EtherType, address, DOMAIN, port roles, calendars; the PTP offset of R91. -/
structure CoatAlmanac where
  etherType : BitVec 16 := 0x88B5
  dest : BitVec 48 := 0x03000000A14C
  domain : BitVec 32 := 0
  roles : List PortRole := []
  cals : List Cal := []
  ptpOffset : Int := 0
deriving DecidableEq, Repr, Inhabited

/-- Where a table entry sends a frame: a port, a member set (R106), a replication list (R124). -/
inductive Target where
  | port (p : Nat)
  | set (n : Nat)
  | list (n : Nat)
deriving DecidableEq, Repr, Inhabited

/-- A VLAN: its member ports and whether its addresses are learned (R104). -/
structure Vlan where
  vid : Nat
  members : List Nat := []
  learn : Bool := false
deriving DecidableEq, Repr, Inhabited

/-- A static MAC entry (R104). -/
structure MacEnt where
  vlan : Nat
  mac : BitVec 48
  target : Target
deriving DecidableEq, Repr, Inhabited

/-- A route (R103): longest prefix match over IPv4 or IPv6. -/
structure Route where
  v6 : Bool
  pfx : Nat
  len : Nat
  target : Target
deriving DecidableEq, Repr, Inhabited

/-- What an ACL entry does (R102, R105, R107): drop, redirect, set the internal class, mirror, count. -/
structure AclAct where
  drop : Bool := false
  redirect : Option Target := none
  cls : Option Nat := none
  mirror : Option Nat := none
  count : Bool := false
deriving DecidableEq, Repr, Inhabited

/-- An ACL entry: each field that is given must match. IP addresses match under a prefix length. -/
structure Acl where
  port : Option Nat := none
  vlan : Option Nat := none
  src : Option (BitVec 48) := none
  dst : Option (BitVec 48) := none
  etherType : Option (BitVec 16) := none
  ipSrc : Option (Bool × Nat × Nat) := none
  ipDst : Option (Bool × Nat × Nat) := none
  proto : Option (BitVec 8) := none
  sport : Option (BitVec 16) := none
  dport : Option (BitVec 16) := none
  act : AclAct := {}
deriving DecidableEq, Repr, Inhabited

/-- Section 0x04 SWITCH. `pmtMap` lists the entries the section gives (R107). `ownIps` are the device's own endpoint addresses
(R108), `mgmtIp` its management address (R127). -/
structure CoatSwitch where
  pcpMap : List (Nat × Nat) := []
  dscpMap : List (Nat × Nat) := []
  dscpPorts : List Nat := []
  pmtMap : List (Nat × Nat) := []
  vlans : List Vlan := []
  pvids : List (Nat × Nat) := []
  macs : List MacEnt := []
  routerMacs : List (BitVec 48) := []
  routes : List Route := []
  acls : List Acl := []
  sets : List (Nat × List (Nat × Nat)) := []
  repls : List (Nat × List (Nat × Option Nat)) := []
  ownIps : List Nat := []
  mgmtIp : Nat := 0
deriving DecidableEq, Repr, Inhabited

/-- A subscriber-map entry (R140). -/
structure SubEnt where
  tenant : Nat
  job : Nat
  port : Nat
  node : Nat
deriving DecidableEq, Repr, Inhabited

/-- Section 0x05 SCHEDULE: subscriber map and policer maps, by (tenant, job) and by (ingress port, internal class) (R151). -/
structure CoatSchedule where
  subs : List SubEnt := []
  polJob : List (Nat × Nat × Nat) := []
  polPort : List (Nat × Nat × Nat) := []
deriving DecidableEq, Repr, Inhabited

/-- Section 0x06 POOL: job membership lists (endpoints of a job), the homes of each job (R566) and the capacity tray list (index,
endpoint). -/
structure CoatPool where
  jobs : List (Nat × List Nat) := []
  homes : List (Nat × List Nat) := []
  trays : List (Nat × Nat) := []
deriving DecidableEq, Repr, Inhabited

/-- A dense tray of section 0x07: index, endpoint, FORMAT mark (R300). -/
structure DenseEnt where
  index : Nat
  ep : Nat
  format : Bool := false
deriving DecidableEq, Repr, Inhabited

/-- Section 0x07 DENSE. -/
structure CoatDense where
  trays : List DenseEnt := []
deriving DecidableEq, Repr, Inhabited

/-- An entry of a contributor table (R313): an endpoint, or a child home of the group. -/
structure ContribEnt where
  ep : Nat
  child : Bool := false
deriving DecidableEq, Repr, Inhabited

/-- Section 0x08 REDUCTION: the contributor table of each group, in rank order (R313). -/
structure CoatReduction where
  tables : List (Nat × List ContribEnt) := []
deriving DecidableEq, Repr, Inhabited

/-- A key (tenant, job, world) of a window, group, gauge, program or resident slot; world true is secure. -/
structure Key where
  tenant : Nat := 0
  job : Nat := 0
  world : Bool := false
deriving DecidableEq, Repr, Inhabited

/-- A program of section 0x09 (R400): slot, key, tile set, concurrency, twin (R515), Fresco image. -/
structure ProgEnt where
  slot : Nat
  key : Key
  first : Nat
  count : Nat
  conc : Nat
  twin : Nat := 0
  image : List Byte
deriving DecidableEq, Repr, Inhabited

/-- Section 0x09 TILE. -/
structure CoatTile where
  progs : List ProgEnt := []
deriving DecidableEq, Repr, Inhabited

/-- A resident slot of section 0x0A (R453): `segs` are its PT_LOAD segments (address, size in memory, bytes). -/
structure ResEnt where
  slot : Nat
  key : Key
  ep : Nat
  cores : Nat
  memMib : Nat
  twin : Nat := 0
  entry : Nat := 0
  elfBytes : Nat := 0
  segs : List (Nat × Nat × List Byte) := []
deriving DecidableEq, Repr, Inhabited

/-- Section 0x0A RESIDENT. -/
structure CoatResident where
  slots : List ResEnt := []
deriving DecidableEq, Repr, Inhabited

/-- The role of an SPDM requester (R474). -/
inductive Role where
  | attest
  | tenant (t : Nat)
  | fm
deriving DecidableEq, Repr, Inhabited

/-- A source binding (R469): an endpoint bound to one IP source address and to one ingress port or member set. -/
structure Binding where
  ep : Nat
  ip : Nat
  place : Target
deriving DecidableEq, Repr, Inhabited

/-- Section 0x0B SECURITY: requester entries, bindings, sealed windows (window, key slot), management list (R611), MKA
priority. -/
structure CoatSecurity where
  requesters : List (Nat × Role) := []
  bindings : List Binding := []
  sealed : List (Nat × Nat) := []
  mgmtList : List Nat := []
  mkaPriority : Nat := 0
deriving DecidableEq, Repr, Inhabited

/-- An entry of section 0x0C TWIN (R506): DeviceID digest, security endpoint, role. -/
structure TwinEnt where
  digest : Nat
  ep : Nat
  role : Nat
deriving DecidableEq, Repr, Inhabited

/-- A coat: what its sections say, its header's fields and the digests of its sections (R530, R531). -/
structure Coat where
  serial : Nat := 0
  signer : Nat := 0
  pubkey : List Byte := []
  headerDigest : Nat := 0
  fw : Nat := 0
  regs : List RegRec := []
  almanac : CoatAlmanac := {}
  switch : CoatSwitch := {}
  schedule : CoatSchedule := {}
  pool : CoatPool := {}
  dense : CoatDense := {}
  reduction : CoatReduction := {}
  tile : CoatTile := {}
  resident : CoatResident := {}
  security : CoatSecurity := {}
  twin : Option (List TwinEnt) := none
  digests : List (Nat × Nat) := []
deriving DecidableEq, Repr, Inhabited

/-- SPDM errors that the responder gives (R472, R478, R494). What it answers to a request for an empty certificate slot is DMTF's
(PRESUMED, log entry 232). -/
inductive SpdmErr where
  | busy
  | sessionLimitExceeded
  | unspecified
  | unsupportedRequest
  | invalidSession
  | invalidRequest
deriving DecidableEq, Repr

/-- An SPDM response (R472 to R481, R613). `plain` is what DMTF's documents answer to the request; `measurements` the blocks of R475 by
index. -/
inductive SpdmRsp where
  | plain
  | measurements (blocks : List (Nat × List Byte)) (signed : Bool)
  | challengeAuth
  | digests (slots : Nat)
  | certificate (aliasLives : Bool)
  | keyExchange (session : Nat)
  | finish
  | endSession
  | vendor (payload : List Byte)
  | error (e : SpdmErr)
deriving DecidableEq, Repr

/-- A SHEET record (R546). -/
structure SheetRec where
  kind : Nat
  ret : Bool
  reason : Nat
  index : Nat
deriving DecidableEq, Repr, Inhabited

/-- A coat image read under R530 and R531: header fields, the section types it carries, their content, and the actions of its
SCRUB, SHEET and REVOKE sections. -/
structure Image where
  patch : Bool := false
  base : Nat := 0
  applySlot : Nat := 0
  domain : Nat := 0
  types : List Nat := []
  coat : Coat := {}
  scrub : List (Nat × Nat) := []
  sheet : List SheetRec := []
  revoke : Option Nat := none
deriving DecidableEq, Repr, Inhabited

end Sys2Proof.Machine
end

