-- ==== Sys2Proof/Config.lean ====
section
/-! DEFINITION. What the implementation fixes and the manual leaves open: uninterpreted constants without a body, so that no
proof can rest on a value of theirs. Free values drawn by a step are `freeNat` applied to the counter `State.freeCtr`. -/

namespace Sys2Proof.Config

open Sys2Proof.Machine

/-- A free value: a number the manual does not fix (log entry 6). -/
opaque freeNat : Nat → Nat

/-- SHA-384 of a byte string as a 384-bit number (R530, R470). -/
opaque sha384 : List Byte → Nat

/-- HMAC-SHA-384 of a key and a byte string (R470, R528, R529). -/
opaque hmac384 : Nat → List Byte → Nat

/-- Whether an ECDSA P-384 signature (r then s) by a public key verifies over a digest (R532, R544, R567, R493). -/
opaque ecdsaVerify : List Byte → Nat → List Byte → Bool

/-- The public key of the Milavaub debug authority and of the Milavaub bring-up key (R493, R532). -/
opaque debugAuthority : List Byte

/-- The SHA-384 of the Milavaub bring-up key (R532). -/
opaque bringupKeyDigest : Nat

/-- The 384-bit fused secret UDS (R470). -/
opaque uds : Nat

/-- SHA-384 of the stage-2 ROM (R470, R475). -/
opaque romDigest : Nat

/-- The ECDSA P-384 public key derived from a CDI (R470). -/
opaque publicKeyOf : Nat → List Byte

/-- The device's EUI-64, fused at manufacture (R618). -/
opaque eui64 : BitVec 64

/-- The VendorID of key commands (SEC_SPDM_VENDOR) and the PCIe Vendor ID (PWR_PCIE_ID). -/
opaque spdmVendor : BitVec 32

/-- The PCIe Vendor ID, PWR_PCIE_ID [15:0] (R651). -/
opaque pcieVendor : BitVec 16

/-- AES-256-XTS of one 128-byte line under a key pair and a tweak (R485, R489), and its inverse. -/
opaque xtsEncrypt : List Byte → Nat → List Byte → List Byte

/-- The inverse of `xtsEncrypt`. -/
opaque xtsDecrypt : List Byte → Nat → List Byte → List Byte

/-- The bytes of an SPDM response to a message, whose layout DMTF fixes (R472 to R475): by the message, the response and the session's
keys, which a count stands for. -/
opaque spdmEncode : SpdmMsg → SpdmRsp → Nat → List Byte

/-- The SPDM message that the bytes of an SPDM_MSG in a received frame decode to (R473). -/
opaque spdmDecode : List Byte → SpdmMsg

/-- The section decoders: the manual gives these sections' content and no byte layout (R531, log entry 5). -/
opaque decodeAlmanac : List Byte → CoatAlmanac
opaque decodeSwitch : List Byte → CoatSwitch
opaque decodeSchedule : List Byte → CoatSchedule
opaque decodePool : List Byte → CoatPool
opaque decodeDense : List Byte → CoatDense
opaque decodeReduction : List Byte → CoatReduction
opaque decodeTile : List Byte → CoatTile
opaque decodeResident : List Byte → CoatResident
opaque decodeSecurity : List Byte → CoatSecurity
opaque decodeTwin : List Byte → List TwinEnt

/-- The hash bucket, 0 to 255 before the caller's reduction, that a flow's fields hash to (R106 gives the fields, not the
hash). -/
opaque flowHash : List Nat → Nat

/-- The bucket of a (VLAN, MAC) in the MAC table (R103 gives 8-way buckets, not the hash). -/
opaque macHash : Nat → Nat → Nat

/-- The set of the pool cache that a line falls into: a hash of the line with the window table (R168), by the
bases and sizes of the windows, the number of sets and the line. -/
opaque cacheSet : List (Nat × Nat) → Nat → Nat → Nat

/-- Where the capacity tier places a 64 KiB unit's first and second copy among its trays (R172 gives no placement). -/
opaque trayPick : Nat → Nat → Nat

/-- The twin that a capacity tray is reached through, by its endpoint: 0 left, 1 right (R515; the manual gives no rule). -/
opaque trayTwin : Nat → Nat

/-- The byte address of a 64 KiB unit on a capacity tray: by tray, whether the unit lies in the landing area of R171, and its number
or landing slot. The spec gives the trays' layout no rule. -/
opaque trayAddr : Nat → Bool → Nat → Nat

/-- The dense tray a new stripe's members are taken from first (R288 orders the erase units of a tray, not the trays). -/
opaque stripeStart : Nat → Nat

/-- The 496 LDPC parity bytes of header bytes 4 to 31 and the data of a frame; the code's construction is part of no interface
(spec/09, Media format). -/
opaque ldpcParity : List Byte → List Byte

/-- A frame's header bytes 4 to 31 and data after correction, and how much of the code's correction capability was used, in
sixty-fourths; none where the code cannot correct. -/
opaque ldpcDecode : List Byte → Option (List Byte × Nat)

/-- The Reed–Solomon syndrome of a row's eight data strides (R277 gives the field, not the generator). -/
opaque parityQ : List (List Byte) → List Byte

/-- The Trowel unit whose input a contribution frame is at, by its transaction (R344 names no assignment). -/
opaque trowelOf : Nat → Nat

/-- The die of a dense tray that an erase unit lies on (R274 names no layout). -/
opaque dieOf : Nat → Nat → Nat

/-- A member's bytes rebuilt from eight others of its row (R277), by member number. -/
opaque parityRebuild : Nat → List (Nat × List Byte) → List Byte

/-- EXP, LOG, TANH, SIGMOID, GELU and SILU of an FP32 word, by Fresco opcode: within 1 ulp of the correctly rounded result, no method
given (R396). -/
opaque fresco1 : Nat → Nat → Nat

/-- The exponential of an element of a SOFTMAX row, by the row's FP32 words and the element's index: the manual gives the sum's
rounding, not the exponentials' (R396). -/
opaque softExp : List Nat → Nat → Nat

/-- RSQRT's step from the correctly rounded result, in ulps, modulo 3 less 1 (R396). -/
opaque rsqrtUlp : Nat → Nat

/-- The ICV of AES-256-XPN for a frame's bytes, by key and packet number (R86; IEEE 802.1AE gives it). -/
opaque gcmIcv : Nat → Nat → List Byte → Nat

/-- The IP address of an endpoint that no source binding names, and whether it is an IPv6 address (the spec has no map from endpoints to
addresses). -/
opaque epAddr : Nat → Bool × Nat

/-- The MAC address the device sends from, and the next hop's towards an IP address. -/
opaque ownMac : BitVec 48
opaque hopMac : Nat → BitVec 48

/-- DSCP and ECN of the device's own datagrams, and the UDP source port of its squalls. -/
opaque ownDscp : BitVec 6
opaque ownEcn : BitVec 2
opaque squallSport : BitVec 16

/-- What a register reads that the manual has no command set: a measured current or voltage, what a firmware core is at (log entry
151), by register, index and tick. -/
opaque reading : Nat → Nat → Nat → Nat

/-- The bytes of the stripe table of a checkpoint, and of a root record, by what they tell (R301 lays neither out; log entry 174). -/
opaque stripeTable : List Nat → List Byte
opaque rootRecord : Nat → List Byte

end Sys2Proof.Config
end

