-- ==== Sys2Proof/Machine/Addr.lean ====
section
/-! DEFINITION. Addresses of the registers of the management address space (spec/21 R607, R624 and the register tables of each
chapter), and what each register lets a write do: its access code (R7), the bits of its fields, the value of its COAT fields
after reset (R531). LNK addresses are those of lane 0; lane n adds n x 0x1000 (R93). -/

namespace Sys2Proof.Machine

/-- ALM_TIME_LO. -/
abbrev Reg.almTimeLo : Nat := 0x01000000
/-- ALM_TIME_HI. -/
abbrev Reg.almTimeHi : Nat := 0x01000004
/-- ALM_STATE. -/
abbrev Reg.almState : Nat := 0x01000008
/-- ALM_CONFIG. -/
abbrev Reg.almConfig : Nat := 0x0100000C
/-- ALM_HOLDOVER_LIMIT. -/
abbrev Reg.almHoldoverLimit : Nat := 0x01000010
/-- ALM_OFFSET. -/
abbrev Reg.almOffset : Nat := 0x01000014
/-- ALM_BCN_ACCEPTED_LO. -/
abbrev Reg.almBcnAcceptedLo : Nat := 0x01000018
/-- ALM_BCN_EARLY_LO. -/
abbrev Reg.almBcnEarlyLo : Nat := 0x01000020
/-- ALM_BCN_LATE_LO. -/
abbrev Reg.almBcnLateLo : Nat := 0x01000028
/-- ALM_BCN_MISSED_LO. -/
abbrev Reg.almBcnMissedLo : Nat := 0x01000030
/-- ALM_BCN_MALFORMED_LO. -/
abbrev Reg.almBcnMalformedLo : Nat := 0x01000038
/-- ALM_GM_EUI_LO. -/
abbrev Reg.almGmEuiLo : Nat := 0x01000040
/-- ALM_GM_INFO. -/
abbrev Reg.almGmInfo : Nat := 0x01000048
/-- ALM_START_TIME_LO. -/
abbrev Reg.almStartTimeLo : Nat := 0x0100004C
/-- ALM_START_TIME_HI. -/
abbrev Reg.almStartTimeHi : Nat := 0x01000050
/-- ALM_EVENT_STATUS. -/
abbrev Reg.almEventStatus : Nat := 0x01000054
/-- ALM_FC_SEL. -/
abbrev Reg.almFcSel : Nat := 0x01000100
/-- ALM_FC_ENTRY_LO. -/
abbrev Reg.almFcEntryLo : Nat := 0x01000104
/-- ALM_FC_PERIOD. -/
abbrev Reg.almFcPeriod : Nat := 0x0100010C
/-- ALM_FC_COUNT. -/
abbrev Reg.almFcCount : Nat := 0x01000110
/-- ALM_FC_ANCHOR_LO. -/
abbrev Reg.almFcAnchorLo : Nat := 0x01000114
/-- ALM_FC_OFFSLOT_LO. -/
abbrev Reg.almFcOffslotLo : Nat := 0x0100011C
/-- ALM_FC_USED. -/
abbrev Reg.almFcUsed : Nat := 0x01000124
/-- LNK_LANE_STATUS. -/
abbrev Reg.lnkLaneStatus : Nat := 0x02000000
/-- LNK_LANE_SYM_CORR_LO. -/
abbrev Reg.lnkLaneSymCorrLo : Nat := 0x02000008
/-- LNK_LANE_LOS_COUNT. -/
abbrev Reg.lnkLaneLosCount : Nat := 0x02000010
/-- LNK_LANE_EVENT. -/
abbrev Reg.lnkLaneEvent : Nat := 0x02000014
/-- LNK_PORT_CFG. -/
abbrev Reg.lnkPortCfg : Nat := 0x02000800
/-- LNK_PORT_STATUS. -/
abbrev Reg.lnkPortStatus : Nat := 0x02000804
/-- LNK_RX_BYTES_LO. -/
abbrev Reg.lnkRxBytesLo : Nat := 0x02000808
/-- LNK_TX_BYTES_LO. -/
abbrev Reg.lnkTxBytesLo : Nat := 0x02000810
/-- LNK_RX_ERR_LO. -/
abbrev Reg.lnkRxErrLo : Nat := 0x02000818
/-- LNK_FEC_UNCORR_LO. -/
abbrev Reg.lnkFecUncorrLo : Nat := 0x02000820
/-- LNK_LLR_REPLAY_LO. -/
abbrev Reg.lnkLlrReplayLo : Nat := 0x02000828
/-- LNK_LLR_MALFORMED_LO. -/
abbrev Reg.lnkLlrMalformedLo : Nat := 0x02000830
/-- LNK_PORT_DROP_LO. -/
abbrev Reg.lnkPortDropLo : Nat := 0x02000838
/-- LNK_LLR_CFG. -/
abbrev Reg.lnkLlrCfg : Nat := 0x02000840
/-- LNK_PDELAY. -/
abbrev Reg.lnkPdelay : Nat := 0x02000844
/-- LNK_PORT_EVENT. -/
abbrev Reg.lnkPortEvent : Nat := 0x02000848
/-- LNK_GRP_CFG. -/
abbrev Reg.lnkGrpCfg : Nat := 0x02000C00
/-- LNK_FAULT_CFG. -/
abbrev Reg.lnkFaultCfg : Nat := 0x02000C04
/-- LNK_CAGE_CFG. -/
abbrev Reg.lnkCageCfg : Nat := 0x02000C08
/-- LNK_CAGE_STATUS. -/
abbrev Reg.lnkCageStatus : Nat := 0x02000C0C
/-- SWC_CFG. -/
abbrev Reg.swcCfg : Nat := 0x04000000
/-- SWC_PMT_CFG. -/
abbrev Reg.swcPmtCfg : Nat := 0x04000004
/-- SWC_POOL_CFG. -/
abbrev Reg.swcPoolCfg : Nat := 0x04000008
/-- SWC_HR_CFG. -/
abbrev Reg.swcHrCfg : Nat := 0x0400000C
/-- SWC_POOL_STATUS. -/
abbrev Reg.swcPoolStatus : Nat := 0x04000010
/-- SWC_HR_STATUS. -/
abbrev Reg.swcHrStatus : Nat := 0x04000014
/-- SWC_PLANE_STATUS. -/
abbrev Reg.swcPlaneStatus : Nat := 0x04000018
/-- SWC_EVENT_STATUS. -/
abbrev Reg.swcEventStatus : Nat := 0x0400001C
/-- SWC_TBL_MAC. -/
abbrev Reg.swcTblMac : Nat := 0x04000020
/-- SWC_TBL_V4. -/
abbrev Reg.swcTblV4 : Nat := 0x04000024
/-- SWC_TBL_V6. -/
abbrev Reg.swcTblV6 : Nat := 0x04000028
/-- SWC_TBL_ACL. -/
abbrev Reg.swcTblAcl : Nat := 0x0400002C
/-- SWC_PRIV_DROP_LO. -/
abbrev Reg.swcPrivDropLo : Nat := 0x04000030
/-- SWC_HR_DROP_LO. -/
abbrev Reg.swcHrDropLo : Nat := 0x04000038
/-- SWC_RESEQ_RESEND_LO. -/
abbrev Reg.swcReseqResendLo : Nat := 0x04000040
/-- SWC_STOMP_LO. -/
abbrev Reg.swcStompLo : Nat := 0x04000048
/-- SWC_LEARN_FAIL_LO. -/
abbrev Reg.swcLearnFailLo : Nat := 0x04000050
/-- SWC_ROUTE_MISS_LO. -/
abbrev Reg.swcRouteMissLo : Nat := 0x04000058
/-- SWC_BUF_ECC_CORR_LO. -/
abbrev Reg.swcBufEccCorrLo : Nat := 0x04000060
/-- SWC_SQUALL_TX_LO. -/
abbrev Reg.swcSquallTxLo : Nat := 0x04000068
/-- SWC_L2_CFG. -/
abbrev Reg.swcL2Cfg : Nat := 0x04000070
/-- SWC_Q_SEL. -/
abbrev Reg.swcQSel : Nat := 0x04000100
/-- SWC_Q_CFG. -/
abbrev Reg.swcQCfg : Nat := 0x04000104
/-- SWC_Q_ECN. -/
abbrev Reg.swcQEcn : Nat := 0x04000108
/-- SWC_Q_DEPTH. -/
abbrev Reg.swcQDepth : Nat := 0x0400010C
/-- SWC_Q_DROP_LO. -/
abbrev Reg.swcQDropLo : Nat := 0x04000110
/-- SWC_Q_ECN_MARK_LO. -/
abbrev Reg.swcQEcnMarkLo : Nat := 0x04000118
/-- SWC_PORT_PFC. -/
abbrev Reg.swcPortPfc : Nat := 0x04000120
/-- SWC_PORT_PFC_STATUS. -/
abbrev Reg.swcPortPfcStatus : Nat := 0x04000124
/-- SWC_PFC_RX_LO. -/
abbrev Reg.swcPfcRxLo : Nat := 0x04000128
/-- SWC_PFC_TX_LO. -/
abbrev Reg.swcPfcTxLo : Nat := 0x04000130
/-- SCH_SEL. -/
abbrev Reg.schSel : Nat := 0x05000000
/-- SCH_NODE_CFG. -/
abbrev Reg.schNodeCfg : Nat := 0x05000004
/-- SCH_NODE_RATE. -/
abbrev Reg.schNodeRate : Nat := 0x05000008
/-- SCH_NODE_BURST. -/
abbrev Reg.schNodeBurst : Nat := 0x0500000C
/-- SCH_NODE_KEY. -/
abbrev Reg.schNodeKey : Nat := 0x05000010
/-- SCH_NODE_STATUS. -/
abbrev Reg.schNodeStatus : Nat := 0x05000014
/-- SCH_NODE_TOKENS. -/
abbrev Reg.schNodeTokens : Nat := 0x05000018
/-- SCH_NODE_START. -/
abbrev Reg.schNodeStart : Nat := 0x0500001C
/-- SCH_NODE_VTIME. -/
abbrev Reg.schNodeVtime : Nat := 0x05000020
/-- SCH_NODE_TX_BYTES_LO. -/
abbrev Reg.schNodeTxBytesLo : Nat := 0x05000028
/-- SCH_PORT_CFG. -/
abbrev Reg.schPortCfg : Nat := 0x05000030
/-- SCH_PORT_WEIGHT. -/
abbrev Reg.schPortWeight : Nat := 0x05000034
/-- SCH_PORT_DEF_W_LO. -/
abbrev Reg.schPortDefWLo : Nat := 0x05000038
/-- SCH_PORT_DEF_W_HI. -/
abbrev Reg.schPortDefWHi : Nat := 0x0500003C
/-- SCH_PORT_RED_OVER_LO. -/
abbrev Reg.schPortRedOverLo : Nat := 0x05000040
/-- SCH_SUB_USED. -/
abbrev Reg.schSubUsed : Nat := 0x05000048
/-- SCH_POL_SEL. -/
abbrev Reg.schPolSel : Nat := 0x05000100
/-- SCH_POL_CFG. -/
abbrev Reg.schPolCfg : Nat := 0x05000104
/-- SCH_POL_CIR. -/
abbrev Reg.schPolCir : Nat := 0x05000108
/-- SCH_POL_PIR. -/
abbrev Reg.schPolPir : Nat := 0x0500010C
/-- SCH_POL_CBS. -/
abbrev Reg.schPolCbs : Nat := 0x05000110
/-- SCH_POL_PBS. -/
abbrev Reg.schPolPbs : Nat := 0x05000114
/-- SCH_POL_GREEN_LO. -/
abbrev Reg.schPolGreenLo : Nat := 0x05000118
/-- SCH_POL_YELLOW_LO. -/
abbrev Reg.schPolYellowLo : Nat := 0x05000120
/-- SCH_POL_RED_LO. -/
abbrev Reg.schPolRedLo : Nat := 0x05000128
/-- POOL_ENDPOINT. -/
abbrev Reg.poolEndpoint : Nat := 0x06000000
/-- POOL_HBM_CFG. -/
abbrev Reg.poolHbmCfg : Nat := 0x06000004
/-- POOL_HBM_PINNED. -/
abbrev Reg.poolHbmPinned : Nat := 0x06000008
/-- POOL_HBM_CACHE. -/
abbrev Reg.poolHbmCache : Nat := 0x0600000C
/-- POOL_HBM_RETIRED. -/
abbrev Reg.poolHbmRetired : Nat := 0x06000010
/-- POOL_HBM_ARB. -/
abbrev Reg.poolHbmArb : Nat := 0x06000014
/-- POOL_TIMEOUT. -/
abbrev Reg.poolTimeout : Nat := 0x06000018
/-- POOL_TIER_CFG. -/
abbrev Reg.poolTierCfg : Nat := 0x0600001C
/-- POOL_TRK_CFG. -/
abbrev Reg.poolTrkCfg : Nat := 0x06000020
/-- POOL_TRK_USED. -/
abbrev Reg.poolTrkUsed : Nat := 0x06000024
/-- POOL_EVENT_STATUS. -/
abbrev Reg.poolEventStatus : Nat := 0x06000028
/-- POOL_DROP_LO. -/
abbrev Reg.poolDropLo : Nat := 0x06000030
/-- POOL_MALFORMED_LO. -/
abbrev Reg.poolMalformedLo : Nat := 0x06000038
/-- POOL_EXCESS_LO. -/
abbrev Reg.poolExcessLo : Nat := 0x06000040
/-- POOL_RESEQ_DROP_LO. -/
abbrev Reg.poolReseqDropLo : Nat := 0x06000048
/-- POOL_DUP_LO. -/
abbrev Reg.poolDupLo : Nat := 0x06000050
/-- POOL_CACHE_HIT_LO. -/
abbrev Reg.poolCacheHitLo : Nat := 0x06000058
/-- POOL_CACHE_MISS_LO. -/
abbrev Reg.poolCacheMissLo : Nat := 0x06000060
/-- POOL_CAP_SPILL_LO. -/
abbrev Reg.poolCapSpillLo : Nat := 0x06000068
/-- POOL_BUSY_LO. -/
abbrev Reg.poolBusyLo : Nat := 0x06000070
/-- POOL_HOLD_EXPIRED_LO. -/
abbrev Reg.poolHoldExpiredLo : Nat := 0x06000078
/-- POOL_WIN_SEL. -/
abbrev Reg.poolWinSel : Nat := 0x06000100
/-- POOL_WIN_BASE_LO. -/
abbrev Reg.poolWinBaseLo : Nat := 0x06000104
/-- POOL_WIN_BASE_HI. -/
abbrev Reg.poolWinBaseHi : Nat := 0x06000108
/-- POOL_WIN_SIZE_LO. -/
abbrev Reg.poolWinSizeLo : Nat := 0x0600010C
/-- POOL_WIN_SIZE_HI. -/
abbrev Reg.poolWinSizeHi : Nat := 0x06000110
/-- POOL_WIN_OWNER. -/
abbrev Reg.poolWinOwner : Nat := 0x06000114
/-- POOL_WIN_KEY. -/
abbrev Reg.poolWinKey : Nat := 0x06000118
/-- POOL_WIN_ATTR. -/
abbrev Reg.poolWinAttr : Nat := 0x0600011C
/-- POOL_WIN_MIRROR. -/
abbrev Reg.poolWinMirror : Nat := 0x06000120
/-- POOL_WIN_MBASE_LO. -/
abbrev Reg.poolWinMbaseLo : Nat := 0x06000124
/-- POOL_WIN_MBASE_HI. -/
abbrev Reg.poolWinMbaseHi : Nat := 0x06000128
/-- POOL_WIN_STATUS. -/
abbrev Reg.poolWinStatus : Nat := 0x0600012C
/-- POOL_WIN_RESYNC_LO. -/
abbrev Reg.poolWinResyncLo : Nat := 0x06000130
/-- POOL_SRC_SEL. -/
abbrev Reg.poolSrcSel : Nat := 0x06000200
/-- POOL_SRC_CFG. -/
abbrev Reg.poolSrcCfg : Nat := 0x06000204
/-- POOL_SRC_STATUS. -/
abbrev Reg.poolSrcStatus : Nat := 0x06000208
/-- POOL_SRC_EXPECT. -/
abbrev Reg.poolSrcExpect : Nat := 0x0600020C
/-- COH_CFG. -/
abbrev Reg.cohCfg : Nat := 0x07000000
/-- COH_STATUS. -/
abbrev Reg.cohStatus : Nat := 0x07000004
/-- COH_EVENT_STATUS. -/
abbrev Reg.cohEventStatus : Nat := 0x07000008
/-- COH_POISON_USED. -/
abbrev Reg.cohPoisonUsed : Nat := 0x0700000C
/-- COH_SNOOP_TX_LO. -/
abbrev Reg.cohSnoopTxLo : Nat := 0x07000010
/-- COH_RECALL_RESEND_LO. -/
abbrev Reg.cohRecallResendLo : Nat := 0x07000018
/-- COH_RETRY_LO. -/
abbrev Reg.cohRetryLo : Nat := 0x07000020
/-- COH_POISON_READ_LO. -/
abbrev Reg.cohPoisonReadLo : Nat := 0x07000028
/-- COH_STALE_WB_LO. -/
abbrev Reg.cohStaleWbLo : Nat := 0x07000030
/-- COH_EVICT_IGNORED_LO. -/
abbrev Reg.cohEvictIgnoredLo : Nat := 0x07000038
/-- COH_ATOMIC_LO. -/
abbrev Reg.cohAtomicLo : Nat := 0x07000040
/-- COH_SFC_HIT_LO. -/
abbrev Reg.cohSfcHitLo : Nat := 0x07000048
/-- COH_SFC_MISS_LO. -/
abbrev Reg.cohSfcMissLo : Nat := 0x07000050
/-- COH_STALE_INV_LO. -/
abbrev Reg.cohStaleInvLo : Nat := 0x07000058
/-- COH_EP_SEL. -/
abbrev Reg.cohEpSel : Nat := 0x07000100
/-- COH_EP_CFG. -/
abbrev Reg.cohEpCfg : Nat := 0x07000104
/-- COH_EP_STATUS. -/
abbrev Reg.cohEpStatus : Nat := 0x07000108
/-- COH_EP_LINES. -/
abbrev Reg.cohEpLines : Nat := 0x0700010C
/-- COH_SF_SEL. -/
abbrev Reg.cohSfSel : Nat := 0x07000110
/-- COH_SF_REC_LO. -/
abbrev Reg.cohSfRecLo : Nat := 0x07000114
/-- DNS_CFG. -/
abbrev Reg.dnsCfg : Nat := 0x08000000
/-- DNS_GC_CFG. -/
abbrev Reg.dnsGcCfg : Nat := 0x08000004
/-- DNS_MEDIA_CFG. -/
abbrev Reg.dnsMediaCfg : Nat := 0x08000008
/-- DNS_STATUS. -/
abbrev Reg.dnsStatus : Nat := 0x0800000C
/-- DNS_EVENT_STATUS. -/
abbrev Reg.dnsEventStatus : Nat := 0x08000010
/-- DNS_GEOM. -/
abbrev Reg.dnsGeom : Nat := 0x08000014
/-- DNS_STRIPES. -/
abbrev Reg.dnsStripes : Nat := 0x08000018
/-- DNS_FREE_STRIPES. -/
abbrev Reg.dnsFreeStripes : Nat := 0x0800001C
/-- DNS_DEGRADED_1. -/
abbrev Reg.dnsDegraded1 : Nat := 0x08000020
/-- DNS_DEGRADED_2. -/
abbrev Reg.dnsDegraded2 : Nat := 0x08000024
/-- DNS_PATROL_PASS. -/
abbrev Reg.dnsPatrolPass : Nat := 0x08000028
/-- DNS_PATROL_POS. -/
abbrev Reg.dnsPatrolPos : Nat := 0x0800002C
/-- DNS_HOST_WR_LO. -/
abbrev Reg.dnsHostWrLo : Nat := 0x08000030
/-- DNS_MEDIA_WR_LO. -/
abbrev Reg.dnsMediaWrLo : Nat := 0x08000038
/-- DNS_READ_RETRY_LO. -/
abbrev Reg.dnsReadRetryLo : Nat := 0x08000040
/-- DNS_SYNC_ERR_LO. -/
abbrev Reg.dnsSyncErrLo : Nat := 0x08000048
/-- DNS_RECONSTRUCT_LO. -/
abbrev Reg.dnsReconstructLo : Nat := 0x08000050
/-- DNS_LOST_LO. -/
abbrev Reg.dnsLostLo : Nat := 0x08000058
/-- DNS_ERASE_STATE_LO. -/
abbrev Reg.dnsEraseStateLo : Nat := 0x08000060
/-- DNS_REFRESH_LO. -/
abbrev Reg.dnsRefreshLo : Nat := 0x08000068
/-- DNS_MEDIA_TIMEOUT_LO. -/
abbrev Reg.dnsMediaTimeoutLo : Nat := 0x08000070
/-- DNS_MAP_MISS_LO. -/
abbrev Reg.dnsMapMissLo : Nat := 0x08000078
/-- DNS_TRAY_SEL. -/
abbrev Reg.dnsTraySel : Nat := 0x08000100
/-- DNS_TRAY_STATUS. -/
abbrev Reg.dnsTrayStatus : Nat := 0x08000104
/-- DNS_TRAY_EUS. -/
abbrev Reg.dnsTrayEus : Nat := 0x08000108
/-- DNS_TRAY_RETIRED. -/
abbrev Reg.dnsTrayRetired : Nat := 0x0800010C
/-- DNS_TRAY_WEAR_MIN. -/
abbrev Reg.dnsTrayWearMin : Nat := 0x08000110
/-- DNS_TRAY_WEAR_MAX. -/
abbrev Reg.dnsTrayWearMax : Nat := 0x08000114
/-- DNS_TRAY_ENDURANCE. -/
abbrev Reg.dnsTrayEndurance : Nat := 0x08000118
/-- TRW_CFG. -/
abbrev Reg.trwCfg : Nat := 0x09000000
/-- TRW_UNITS. -/
abbrev Reg.trwUnits : Nat := 0x09000004
/-- TRW_STAGE_USED. -/
abbrev Reg.trwStageUsed : Nat := 0x09000008
/-- TRW_DESC_USED. -/
abbrev Reg.trwDescUsed : Nat := 0x0900000C
/-- TRW_EVENT_STATUS. -/
abbrev Reg.trwEventStatus : Nat := 0x09000010
/-- TRW_CONTRIB_LO. -/
abbrev Reg.trwContribLo : Nat := 0x09000018
/-- TRW_SPILL_LO. -/
abbrev Reg.trwSpillLo : Nat := 0x09000020
/-- TRW_SPILL_WAIT_LO. -/
abbrev Reg.trwSpillWaitLo : Nat := 0x09000028
/-- TRW_LATE_LO. -/
abbrev Reg.trwLateLo : Nat := 0x09000030
/-- TRW_EPOCH_REJECT_LO. -/
abbrev Reg.trwEpochRejectLo : Nat := 0x09000038
/-- TRW_STAGE_BUSY_LO. -/
abbrev Reg.trwStageBusyLo : Nat := 0x09000040
/-- TRW_GAUGE_EXCESS_LO. -/
abbrev Reg.trwGaugeExcessLo : Nat := 0x09000048
/-- TRW_RERUN_LO. -/
abbrev Reg.trwRerunLo : Nat := 0x09000050
/-- TRW_GRP_SEL. -/
abbrev Reg.trwGrpSel : Nat := 0x09000100
/-- TRW_GRP_CFG. -/
abbrev Reg.trwGrpCfg : Nat := 0x09000104
/-- TRW_GRP_OP. -/
abbrev Reg.trwGrpOp : Nat := 0x09000108
/-- TRW_GRP_ELEMS_LO. -/
abbrev Reg.trwGrpElemsLo : Nat := 0x0900010C
/-- TRW_GRP_ELEMS_HI. -/
abbrev Reg.trwGrpElemsHi : Nat := 0x09000110
/-- TRW_GRP_KEY. -/
abbrev Reg.trwGrpKey : Nat := 0x09000114
/-- TRW_GRP_TIMERS. -/
abbrev Reg.trwGrpTimers : Nat := 0x09000118
/-- TRW_GRP_PARENT. -/
abbrev Reg.trwGrpParent : Nat := 0x0900011C
/-- TRW_GRP_DOWN. -/
abbrev Reg.trwGrpDown : Nat := 0x09000120
/-- TRW_GRP_MCAST. -/
abbrev Reg.trwGrpMcast : Nat := 0x09000124
/-- TRW_GRP_RESULT_LO. -/
abbrev Reg.trwGrpResultLo : Nat := 0x09000128
/-- TRW_GRP_RESULT_HI. -/
abbrev Reg.trwGrpResultHi : Nat := 0x0900012C
/-- TRW_GRP_RESERVE. -/
abbrev Reg.trwGrpReserve : Nat := 0x09000130
/-- TRW_GRP_STATUS. -/
abbrev Reg.trwGrpStatus : Nat := 0x09000134
/-- TRW_GRP_EPOCHS. -/
abbrev Reg.trwGrpEpochs : Nat := 0x09000138
/-- TRW_GAUGE_SEL. -/
abbrev Reg.trwGaugeSel : Nat := 0x09000200
/-- TRW_GAUGE_CFG. -/
abbrev Reg.trwGaugeCfg : Nat := 0x09000204
/-- TRW_GAUGE_TARGET. -/
abbrev Reg.trwGaugeTarget : Nat := 0x09000208
/-- TRW_GAUGE_KEY. -/
abbrev Reg.trwGaugeKey : Nat := 0x0900020C
/-- TRW_GAUGE_MCAST. -/
abbrev Reg.trwGaugeMcast : Nat := 0x09000210
/-- TRW_GAUGE_FWD. -/
abbrev Reg.trwGaugeFwd : Nat := 0x09000214
/-- TRW_GAUGE_VALUE. -/
abbrev Reg.trwGaugeValue : Nat := 0x09000218
/-- TRW_GAUGE_NEXT. -/
abbrev Reg.trwGaugeNext : Nat := 0x0900021C
/-- TRW_GAUGE_STATE. -/
abbrev Reg.trwGaugeState : Nat := 0x09000220
/-- TRW_GAUGE_FIRED. -/
abbrev Reg.trwGaugeFired : Nat := 0x09000224
/-- GTH_CFG. -/
abbrev Reg.gthCfg : Nat := 0x0A000000
/-- GTH_UNITS. -/
abbrev Reg.gthUnits : Nat := 0x0A000004
/-- GTH_EVENT_STATUS. -/
abbrev Reg.gthEventStatus : Nat := 0x0A000008
/-- GTH_REQ_LO. -/
abbrev Reg.gthReqLo : Nat := 0x0A000010
/-- GTH_LINES_LO. -/
abbrev Reg.gthLinesLo : Nat := 0x0A000018
/-- GTH_RUNS_LO. -/
abbrev Reg.gthRunsLo : Nat := 0x0A000020
/-- GTH_OOR_LO. -/
abbrev Reg.gthOorLo : Nat := 0x0A000028
/-- GTH_MISS_LO. -/
abbrev Reg.gthMissLo : Nat := 0x0A000030
/-- GTH_RUB_SEL. -/
abbrev Reg.gthRubSel : Nat := 0x0A000100
/-- GTH_RUB_CFG. -/
abbrev Reg.gthRubCfg : Nat := 0x0A000104
/-- GTH_RUB_W_LO. -/
abbrev Reg.gthRubWLo : Nat := 0x0A000108
/-- GTH_RUB_W_HI. -/
abbrev Reg.gthRubWHi : Nat := 0x0A00010C
/-- GTH_RUB_M_LO. -/
abbrev Reg.gthRubMLo : Nat := 0x0A000110
/-- GTH_RUB_M_HI. -/
abbrev Reg.gthRubMHi : Nat := 0x0A000114
/-- GTH_RUB_V_LO. -/
abbrev Reg.gthRubVLo : Nat := 0x0A000118
/-- GTH_RUB_V_HI. -/
abbrev Reg.gthRubVHi : Nat := 0x0A00011C
/-- GTH_RUB_PARAM_LO. -/
abbrev Reg.gthRubParamLo : Nat := 0x0A000120
/-- GTH_RUB_PARAM_HI. -/
abbrev Reg.gthRubParamHi : Nat := 0x0A000124
/-- GTH_RUB_RING. -/
abbrev Reg.gthRubRing : Nat := 0x0A000128
/-- GTH_RUB_STATUS. -/
abbrev Reg.gthRubStatus : Nat := 0x0A00012C
/-- GTH_RUB_NONFINITE_LO. -/
abbrev Reg.gthRubNonfiniteLo : Nat := 0x0A000130
/-- GTH_RUB_PARAM_STALE_LO. -/
abbrev Reg.gthRubParamStaleLo : Nat := 0x0A000138
/-- GTH_STRAG_SEL. -/
abbrev Reg.gthStragSel : Nat := 0x0A000200
/-- GTH_STRAG_STATE. -/
abbrev Reg.gthStragState : Nat := 0x0A000204
/-- GTH_STRAG_EP. -/
abbrev Reg.gthStragEp : Nat := 0x0A000208
/-- SIV_CFG. -/
abbrev Reg.sivCfg : Nat := 0x0A800000
/-- SIV_UNITS. -/
abbrev Reg.sivUnits : Nat := 0x0A800004
/-- SIV_EVENT_STATUS. -/
abbrev Reg.sivEventStatus : Nat := 0x0A800008
/-- SIV_REQ_LO. -/
abbrev Reg.sivReqLo : Nat := 0x0A800010
/-- SIV_RECORDS_LO. -/
abbrev Reg.sivRecordsLo : Nat := 0x0A800018
/-- SIV_PASSED_LO. -/
abbrev Reg.sivPassedLo : Nat := 0x0A800020
/-- SIV_TOPK_SLOW_LO. -/
abbrev Reg.sivTopkSlowLo : Nat := 0x0A800028
/-- SIV_TWO_PASS_LO. -/
abbrev Reg.sivTwoPassLo : Nat := 0x0A800030
/-- SIV_TRUNC_LO. -/
abbrev Reg.sivTruncLo : Nat := 0x0A800038
/-- SIV_NAN_LO. -/
abbrev Reg.sivNanLo : Nat := 0x0A800040
/-- TIL_CFG. -/
abbrev Reg.tilCfg : Nat := 0x0B000000
/-- TIL_VERSION. -/
abbrev Reg.tilVersion : Nat := 0x0B000004
/-- TIL_STATUS. -/
abbrev Reg.tilStatus : Nat := 0x0B000008
/-- TIL_EVENT_STATUS. -/
abbrev Reg.tilEventStatus : Nat := 0x0B00000C
/-- TIL_LOAD. -/
abbrev Reg.tilLoad : Nat := 0x0B000010
/-- TIL_INVOKED_LO. -/
abbrev Reg.tilInvokedLo : Nat := 0x0B000018
/-- TIL_ARRAY_CYCLES_LO. -/
abbrev Reg.tilArrayCyclesLo : Nat := 0x0B000020
/-- TIL_DMA_64B_LO. -/
abbrev Reg.tilDma64bLo : Nat := 0x0B000028
/-- TIL_RERUN_LO. -/
abbrev Reg.tilRerunLo : Nat := 0x0B000030
/-- TIL_SRAM_ECC_CORR_LO. -/
abbrev Reg.tilSramEccCorrLo : Nat := 0x0B000038
/-- TIL_HOST_OPS_LO. -/
abbrev Reg.tilHostOpsLo : Nat := 0x0B000040
/-- TIL_BUSY_LO. -/
abbrev Reg.tilBusyLo : Nat := 0x0B000048
/-- TIL_PROG_SEL. -/
abbrev Reg.tilProgSel : Nat := 0x0B000100
/-- TIL_PROG_CFG. -/
abbrev Reg.tilProgCfg : Nat := 0x0B000104
/-- TIL_PROG_KEY. -/
abbrev Reg.tilProgKey : Nat := 0x0B000108
/-- TIL_PROG_STATUS. -/
abbrev Reg.tilProgStatus : Nat := 0x0B00010C
/-- TIL_PROG_OPS. -/
abbrev Reg.tilProgOps : Nat := 0x0B000110
/-- TIL_PROG_HOST. -/
abbrev Reg.tilProgHost : Nat := 0x0B000114
/-- TIL_PROG_HOSTOP. -/
abbrev Reg.tilProgHostop : Nat := 0x0B000118
/-- TIL_PROG_MEM. -/
abbrev Reg.tilProgMem : Nat := 0x0B00011C
/-- TIL_PROG_INVOKED_LO. -/
abbrev Reg.tilProgInvokedLo : Nat := 0x0B000120
/-- TIL_TILE_SEL. -/
abbrev Reg.tilTileSel : Nat := 0x0B000200
/-- TIL_TILE_STATUS. -/
abbrev Reg.tilTileStatus : Nat := 0x0B000204
/-- TIL_TILE_BUSY_LO. -/
abbrev Reg.tilTileBusyLo : Nat := 0x0B000208
/-- SEC_STATUS. -/
abbrev Reg.secStatus : Nat := 0x0D000000
/-- SEC_EVENT_STATUS. -/
abbrev Reg.secEventStatus : Nat := 0x0D000004
/-- SEC_CFG. -/
abbrev Reg.secCfg : Nat := 0x0D000008
/-- SEC_BLOCK_WORLD. -/
abbrev Reg.secBlockWorld : Nat := 0x0D00000C
/-- SEC_SPDM_VENDOR. -/
abbrev Reg.secSpdmVendor : Nat := 0x0D000010
/-- SEC_RNG_BYTES_LO. -/
abbrev Reg.secRngBytesLo : Nat := 0x0D000018
/-- SEC_RNG_HEALTH_FAIL_LO. -/
abbrev Reg.secRngHealthFailLo : Nat := 0x0D000020
/-- SEC_WORLD_VIOL_LO. -/
abbrev Reg.secWorldViolLo : Nat := 0x0D000028
/-- SEC_KEY_REFUSED_LO. -/
abbrev Reg.secKeyRefusedLo : Nat := 0x0D000030
/-- SEC_REKEY_BYTES_LO. -/
abbrev Reg.secRekeyBytesLo : Nat := 0x0D000038
/-- SEC_DEVID_0. -/
abbrev Reg.secDevid0 : Nat := 0x0D000040
/-- SEC_KEY_SEL. -/
abbrev Reg.secKeySel : Nat := 0x0D000100
/-- SEC_KEY_STATUS. -/
abbrev Reg.secKeyStatus : Nat := 0x0D000104
/-- SEC_KEY_OWNER. -/
abbrev Reg.secKeyOwner : Nat := 0x0D000108
/-- SEC_KEY_APPLY_LO. -/
abbrev Reg.secKeyApplyLo : Nat := 0x0D00010C
/-- SEC_KEY_CURSOR_WIN. -/
abbrev Reg.secKeyCursorWin : Nat := 0x0D000114
/-- SEC_KEY_CURSOR_LO. -/
abbrev Reg.secKeyCursorLo : Nat := 0x0D000118
/-- SCR_CFG. -/
abbrev Reg.scrCfg : Nat := 0x0E000000
/-- SCR_STATUS. -/
abbrev Reg.scrStatus : Nat := 0x0E000004
/-- SCR_EVENT_STATUS. -/
abbrev Reg.scrEventStatus : Nat := 0x0E000008
/-- SCR_VIEW. -/
abbrev Reg.scrView : Nat := 0x0E00000C
/-- SCR_SHADOW_USED. -/
abbrev Reg.scrShadowUsed : Nat := 0x0E000010
/-- SCR_TX_BYTES_LO. -/
abbrev Reg.scrTxBytesLo : Nat := 0x0E000018
/-- SCR_RX_BYTES_LO. -/
abbrev Reg.scrRxBytesLo : Nat := 0x0E000020
/-- SCR_REPLAY_LO. -/
abbrev Reg.scrReplayLo : Nat := 0x0E000028
/-- SCR_BACKOFF_LO. -/
abbrev Reg.scrBackoffLo : Nat := 0x0E000030
/-- SCR_SHADOW_WAIT_LO. -/
abbrev Reg.scrShadowWaitLo : Nat := 0x0E000038
/-- SCR_PARTNER_DEVID_0. -/
abbrev Reg.scrPartnerDevid0 : Nat := 0x0E000040
/-- CFG_CFG. -/
abbrev Reg.cfgCfg : Nat := 0x0F000000
/-- CFG_STATUS. -/
abbrev Reg.cfgStatus : Nat := 0x0F000004
/-- CFG_SERIAL. -/
abbrev Reg.cfgSerial : Nat := 0x0F000008
/-- CFG_PREV_SERIAL. -/
abbrev Reg.cfgPrevSerial : Nat := 0x0F00000C
/-- CFG_HIGH_WATER. -/
abbrev Reg.cfgHighWater : Nat := 0x0F000010
/-- CFG_CURE_LEFT. -/
abbrev Reg.cfgCureLeft : Nat := 0x0F000014
/-- CFG_CHECKS. -/
abbrev Reg.cfgChecks : Nat := 0x0F000018
/-- CFG_EVENT_STATUS. -/
abbrev Reg.cfgEventStatus : Nat := 0x0F00001C
/-- CFG_PENDING. -/
abbrev Reg.cfgPending : Nat := 0x0F000020
/-- CFG_PENDING_SLOT_LO. -/
abbrev Reg.cfgPendingSlotLo : Nat := 0x0F000024
/-- CFG_OWNER_KEYS. -/
abbrev Reg.cfgOwnerKeys : Nat := 0x0F00002C
/-- CFG_SHEET_SEL. -/
abbrev Reg.cfgSheetSel : Nat := 0x0F000030
/-- CFG_SHEET_STATUS. -/
abbrev Reg.cfgSheetStatus : Nat := 0x0F000034
/-- CFG_APPLIED_LO. -/
abbrev Reg.cfgAppliedLo : Nat := 0x0F000038
/-- CFG_STRIPPED_LO. -/
abbrev Reg.cfgStrippedLo : Nat := 0x0F000040
/-- CFG_REJECTED_LO. -/
abbrev Reg.cfgRejectedLo : Nat := 0x0F000048
/-- RAS_CFG. -/
abbrev Reg.rasCfg : Nat := 0x10000000
/-- RAS_SELFTEST_CFG. -/
abbrev Reg.rasSelftestCfg : Nat := 0x10000004
/-- RAS_STATUS. -/
abbrev Reg.rasStatus : Nat := 0x10000008
/-- RAS_EVENT_STATUS. -/
abbrev Reg.rasEventStatus : Nat := 0x1000000C
/-- RAS_BG_BEHIND. -/
abbrev Reg.rasBgBehind : Nat := 0x10000010
/-- RAS_TRANSIENT_LO. -/
abbrev Reg.rasTransientLo : Nat := 0x10000018
/-- RAS_PERMANENT_LO. -/
abbrev Reg.rasPermanentLo : Nat := 0x10000020
/-- RAS_HBM_CE_LO. -/
abbrev Reg.rasHbmCeLo : Nat := 0x10000028
/-- RAS_HBM_UE_LO. -/
abbrev Reg.rasHbmUeLo : Nat := 0x10000030
/-- RAS_POISON_SET_LO. -/
abbrev Reg.rasPoisonSetLo : Nat := 0x10000038
/-- RAS_POISON_CLEAR_LO. -/
abbrev Reg.rasPoisonClearLo : Nat := 0x10000040
/-- RAS_FROST_LO. -/
abbrev Reg.rasFrostLo : Nat := 0x10000048
/-- RAS_SELFTEST_PASS_LO. -/
abbrev Reg.rasSelftestPassLo : Nat := 0x10000050
/-- RAS_SELFTEST_FAIL_LO. -/
abbrev Reg.rasSelftestFailLo : Nat := 0x10000058
/-- RAS_SELFTEST_BUSY_LO. -/
abbrev Reg.rasSelftestBusyLo : Nat := 0x10000060
/-- RAS_JOB_SEL. -/
abbrev Reg.rasJobSel : Nat := 0x10000100
/-- RAS_JOB_STATUS. -/
abbrev Reg.rasJobStatus : Nat := 0x10000104
/-- RAS_JOB_ORIGIN. -/
abbrev Reg.rasJobOrigin : Nat := 0x10000108
/-- RAS_JOB_SERIAL. -/
abbrev Reg.rasJobSerial : Nat := 0x1000010C
/-- RAS_PC_SEL. -/
abbrev Reg.rasPcSel : Nat := 0x10000200
/-- RAS_PC_STATUS. -/
abbrev Reg.rasPcStatus : Nat := 0x10000204
/-- TEL_CFG. -/
abbrev Reg.telCfg : Nat := 0x11000000
/-- TEL_SNAP_DEST. -/
abbrev Reg.telSnapDest : Nat := 0x11000004
/-- TEL_STATUS. -/
abbrev Reg.telStatus : Nat := 0x11000008
/-- TEL_EVENT_STATUS. -/
abbrev Reg.telEventStatus : Nat := 0x1100000C
/-- TEL_DEV_RX_BYTES_LO. -/
abbrev Reg.telDevRxBytesLo : Nat := 0x11000010
/-- TEL_DEV_TX_BYTES_LO. -/
abbrev Reg.telDevTxBytesLo : Nat := 0x11000018
/-- TEL_LOG_NEXT. -/
abbrev Reg.telLogNext : Nat := 0x11000020
/-- TEL_SNAP_SEQ. -/
abbrev Reg.telSnapSeq : Nat := 0x11000024
/-- TEL_LOG_OVERFLOW_LO. -/
abbrev Reg.telLogOverflowLo : Nat := 0x11000028
/-- TEL_SNAP_SKIPPED_LO. -/
abbrev Reg.telSnapSkippedLo : Nat := 0x11000030
/-- TEL_LOG_SEL. -/
abbrev Reg.telLogSel : Nat := 0x11000100
/-- TEL_LOG_DATA_0. -/
abbrev Reg.telLogData0 : Nat := 0x11000104
/-- GLB_DEVICE_ID. -/
abbrev Reg.glbDeviceId : Nat := 0x00000000
/-- GLB_REVISION. -/
abbrev Reg.glbRevision : Nat := 0x00000004
/-- GLB_STATUS. -/
abbrev Reg.glbStatus : Nat := 0x00000008
/-- GLB_MGMT_CFG. -/
abbrev Reg.glbMgmtCfg : Nat := 0x0000000C
/-- GLB_EVENT_SUMMARY. -/
abbrev Reg.glbEventSummary : Nat := 0x00000010
/-- GLB_SCRATCH. -/
abbrev Reg.glbScratch : Nat := 0x00000014
/-- GLB_EUI64_LO. -/
abbrev Reg.glbEui64Lo : Nat := 0x00000018
/-- GLB_UPTIME_LO. -/
abbrev Reg.glbUptimeLo : Nat := 0x00000020
/-- GLB_IGNORED_LO. -/
abbrev Reg.glbIgnoredLo : Nat := 0x00000028
/-- GLB_HOST_SEL. -/
abbrev Reg.glbHostSel : Nat := 0x00000100
/-- GLB_HOST_CORE. -/
abbrev Reg.glbHostCore : Nat := 0x00000104
/-- GLB_HOST_RES. -/
abbrev Reg.glbHostRes : Nat := 0x00000108
/-- GLB_HOST_EVENT. -/
abbrev Reg.glbHostEvent : Nat := 0x0000010C
/-- HBMC_SEL. -/
abbrev Reg.hbmcSel : Nat := 0x0C000000
/-- HBMC_STACK_STATUS. -/
abbrev Reg.hbmcStackStatus : Nat := 0x0C000004
/-- HBMC_RD_BYTES_LO. -/
abbrev Reg.hbmcRdBytesLo : Nat := 0x0C000008
/-- HBMC_WR_BYTES_LO. -/
abbrev Reg.hbmcWrBytesLo : Nat := 0x0C000010
/-- PWR_CFG. -/
abbrev Reg.pwrCfg : Nat := 0x12000000
/-- PWR_STATUS. -/
abbrev Reg.pwrStatus : Nat := 0x12000004
/-- PWR_EVENT_STATUS. -/
abbrev Reg.pwrEventStatus : Nat := 0x12000008
/-- PWR_RESET_CAUSE. -/
abbrev Reg.pwrResetCause : Nat := 0x1200000C
/-- PWR_RAIL_FAULT. -/
abbrev Reg.pwrRailFault : Nat := 0x12000010
/-- PWR_STRAPS. -/
abbrev Reg.pwrStraps : Nat := 0x12000014
/-- PWR_PKG_POWER. -/
abbrev Reg.pwrPkgPower : Nat := 0x12000018
/-- PWR_TEMP_MAX. -/
abbrev Reg.pwrTempMax : Nat := 0x1200001C
/-- PWR_PCIE_ID. -/
abbrev Reg.pwrPcieId : Nat := 0x12000020
/-- PWR_THROTTLED_US_LO. -/
abbrev Reg.pwrThrottledUsLo : Nat := 0x12000028
/-- PWR_TEMP_0. -/
abbrev Reg.pwrTemp0 : Nat := 0x12000040
/-- PWR_RAIL_0. -/
abbrev Reg.pwrRail0 : Nat := 0x12000080
/-- PWR_FUSE_CTRL. -/
abbrev Reg.pwrFuseCtrl : Nat := 0x12000100
/-- PWR_FUSE_STATUS. -/
abbrev Reg.pwrFuseStatus : Nat := 0x12000104
/-- PWR_FUSE_DATA_0. -/
abbrev Reg.pwrFuseData0 : Nat := 0x12000110
/-- PWR_TEST. -/
abbrev Reg.pwrTest : Nat := 0x12000200

/-- The access code of a register (R7): the manual gives every field of a register the same code but for reserved bits. -/
inductive Access where
  | ro
  | rw (mask : Nat)
  | rw1c (mask : Nat)
  | rwb (mask : Nat)
  | coat (reset mask : Nat)
deriving DecidableEq, Repr

/-- The ALM registers: address and access. -/
def regsAlm : List (Nat × Access) := [
  (0x01000000, .ro),
  (0x01000004, .ro),
  (0x01000008, .ro),
  (0x0100000C, .coat 0xF88000 0xFFFF0F),
  (0x01000010, .coat 0xF4240 0xFFFFF),
  (0x01000014, .ro),
  (0x01000018, .ro),
  (0x0100001C, .ro),
  (0x01000020, .ro),
  (0x01000024, .ro),
  (0x01000028, .ro),
  (0x0100002C, .ro),
  (0x01000030, .ro),
  (0x01000034, .ro),
  (0x01000038, .ro),
  (0x0100003C, .ro),
  (0x01000040, .ro),
  (0x01000044, .ro),
  (0x01000048, .ro),
  (0x0100004C, .coat 0x0 0xFFFFFFFF),
  (0x01000050, .coat 0x0 0xFFFFFFFF),
  (0x01000054, .rw1c 0x3F),
  (0x01000100, .rw 0x3FFFFFF),
  (0x01000104, .ro),
  (0x01000108, .ro),
  (0x0100010C, .ro),
  (0x01000110, .ro),
  (0x01000114, .ro),
  (0x01000118, .ro),
  (0x0100011C, .ro),
  (0x01000120, .ro),
  (0x01000124, .ro)]

/-- The LNK registers: address and access. -/
def regsLnk : List (Nat × Access) := [
  (0x02000000, .ro),
  (0x02000008, .ro),
  (0x0200000C, .ro),
  (0x02000010, .ro),
  (0x02000014, .rw1c 0x7),
  (0x02000800, .coat 0x0 0xFFFF001F),
  (0x02000804, .ro),
  (0x02000808, .ro),
  (0x0200080C, .ro),
  (0x02000810, .ro),
  (0x02000814, .ro),
  (0x02000818, .ro),
  (0x0200081C, .ro),
  (0x02000820, .ro),
  (0x02000824, .ro),
  (0x02000828, .ro),
  (0x0200082C, .ro),
  (0x02000830, .ro),
  (0x02000834, .ro),
  (0x02000838, .ro),
  (0x0200083C, .ro),
  (0x02000840, .coat 0xC5 0x3FFFFF),
  (0x02000844, .ro),
  (0x02000848, .rw1c 0x3F),
  (0x02000C00, .coat 0x3 0x3F),
  (0x02000C04, .coat 0x20080D1 0x1FFFFFFF),
  (0x02000C08, .coat 0x0 0x3),
  (0x02000C0C, .ro)]

/-- The SWC registers: address and access. -/
def regsSwc : List (Nat × Access) := [
  (0x04000000, .coat 0xC8205 0x7FFFFF),
  (0x04000004, .coat 0xA001A000 0xFFFFFFFF),
  (0x04000008, .coat 0x0 0xFFFFF),
  (0x0400000C, .coat 0x0 0xFFFFF),
  (0x04000010, .ro),
  (0x04000014, .ro),
  (0x04000018, .ro),
  (0x0400001C, .rw1c 0x3F),
  (0x04000020, .ro),
  (0x04000024, .ro),
  (0x04000028, .ro),
  (0x0400002C, .ro),
  (0x04000030, .ro),
  (0x04000034, .ro),
  (0x04000038, .ro),
  (0x0400003C, .ro),
  (0x04000040, .ro),
  (0x04000044, .ro),
  (0x04000048, .ro),
  (0x0400004C, .ro),
  (0x04000050, .ro),
  (0x04000054, .ro),
  (0x04000058, .ro),
  (0x0400005C, .ro),
  (0x04000060, .ro),
  (0x04000064, .ro),
  (0x04000068, .ro),
  (0x0400006C, .ro),
  (0x04000070, .coat 0x12C 0xFFF),
  (0x04000100, .rw 0x3FFF),
  (0x04000104, .coat 0x60000 0x7FFFFF),
  (0x04000108, .coat 0x0 0xFFFFFFFF),
  (0x0400010C, .ro),
  (0x04000110, .ro),
  (0x04000114, .ro),
  (0x04000118, .ro),
  (0x0400011C, .ro),
  (0x04000120, .coat 0x700 0xFFFF1FFF),
  (0x04000124, .ro),
  (0x04000128, .ro),
  (0x0400012C, .ro),
  (0x04000130, .ro),
  (0x04000134, .ro)]

/-- The SCH registers: address and access. -/
def regsSch : List (Nat × Access) := [
  (0x05000000, .rw 0x3FFFF),
  (0x05000004, .coat 0x0 0x1FFFFF),
  (0x05000008, .coat 0x0 0x3FFFFF),
  (0x0500000C, .coat 0x0 0xFFFFFF),
  (0x05000010, .coat 0x0 0xFFFFFFF),
  (0x05000014, .ro),
  (0x05000018, .ro),
  (0x0500001C, .ro),
  (0x05000020, .ro),
  (0x05000028, .ro),
  (0x0500002C, .ro),
  (0x05000030, .coat 0x80401 0xFFFFFFFF),
  (0x05000034, .coat 0x404040 0xFFFFFF),
  (0x05000038, .coat 0x1010101 0xFFFFFFFF),
  (0x0500003C, .coat 0x1010101 0xFFFFFFFF),
  (0x05000040, .ro),
  (0x05000044, .ro),
  (0x05000048, .ro),
  (0x05000100, .rw 0x3FFF),
  (0x05000104, .coat 0x0 0x1F),
  (0x05000108, .coat 0x0 0x3FFFFF),
  (0x0500010C, .coat 0x0 0x3FFFFF),
  (0x05000110, .coat 0x0 0xFFFFFF),
  (0x05000114, .coat 0x0 0xFFFFFF),
  (0x05000118, .ro),
  (0x0500011C, .ro),
  (0x05000120, .ro),
  (0x05000124, .ro),
  (0x05000128, .ro),
  (0x0500012C, .ro)]

/-- The POOL registers: address and access. -/
def regsPool : List (Nat × Access) := [
  (0x06000000, .coat 0x0 0xFFFFF),
  (0x06000004, .coat 0x10 0x1FFFF),
  (0x06000008, .ro),
  (0x0600000C, .ro),
  (0x06000010, .ro),
  (0x06000014, .coat 0x1168 0xFFFF),
  (0x06000018, .coat 0xC8C14 0x7FFFFF),
  (0x0600001C, .coat 0x1910012C 0x3FFFFFFF),
  (0x06000020, .coat 0x400800 0x1FFFFFF),
  (0x06000024, .ro),
  (0x06000028, .rw1c 0x3F),
  (0x06000030, .ro),
  (0x06000034, .ro),
  (0x06000038, .ro),
  (0x0600003C, .ro),
  (0x06000040, .ro),
  (0x06000044, .ro),
  (0x06000048, .ro),
  (0x0600004C, .ro),
  (0x06000050, .ro),
  (0x06000054, .ro),
  (0x06000058, .ro),
  (0x0600005C, .ro),
  (0x06000060, .ro),
  (0x06000064, .ro),
  (0x06000068, .ro),
  (0x0600006C, .ro),
  (0x06000070, .ro),
  (0x06000074, .ro),
  (0x06000078, .ro),
  (0x0600007C, .ro),
  (0x06000100, .rw 0x3FFF),
  (0x06000104, .coat 0x0 0xFFFFFFFF),
  (0x06000108, .coat 0x0 0xFFFFFF),
  (0x0600010C, .coat 0x0 0xFFFFFFFF),
  (0x06000110, .coat 0x0 0xFFFFFFFF),
  (0x06000114, .coat 0x0 0xFFFFF),
  (0x06000118, .coat 0x0 0x1FFFFFFF),
  (0x0600011C, .coat 0x0 0xFFF01FF),
  (0x06000120, .coat 0x0 0xFFFFF),
  (0x06000124, .coat 0x0 0xFFFFFFFF),
  (0x06000128, .coat 0x0 0xFFFFFF),
  (0x0600012C, .ro),
  (0x06000130, .ro),
  (0x06000134, .ro),
  (0x06000200, .rw 0xFFFFF),
  (0x06000204, .coat 0x0 0x1FFF),
  (0x06000208, .ro),
  (0x0600020C, .ro)]

/-- The COH registers: address and access. -/
def regsCoh : List (Nat × Access) := [
  (0x07000000, .coat 0x80C64 0xFFFFFF),
  (0x07000004, .ro),
  (0x07000008, .rw1c 0x1F),
  (0x0700000C, .ro),
  (0x07000010, .ro),
  (0x07000014, .ro),
  (0x07000018, .ro),
  (0x0700001C, .ro),
  (0x07000020, .ro),
  (0x07000024, .ro),
  (0x07000028, .ro),
  (0x0700002C, .ro),
  (0x07000030, .ro),
  (0x07000034, .ro),
  (0x07000038, .ro),
  (0x0700003C, .ro),
  (0x07000040, .ro),
  (0x07000044, .ro),
  (0x07000048, .ro),
  (0x0700004C, .ro),
  (0x07000050, .ro),
  (0x07000054, .ro),
  (0x07000058, .ro),
  (0x0700005C, .ro),
  (0x07000100, .rw 0x7FF),
  (0x07000104, .coat 0x0 0x800FFFFF),
  (0x07000108, .ro),
  (0x0700010C, .ro),
  (0x07000110, .rw 0xF7FF),
  (0x07000114, .ro),
  (0x07000118, .ro)]

/-- The DNS registers: address and access. -/
def regsDns : List (Nat × Access) := [
  (0x08000000, .coat 0x1E1076 0x1FFFFFF),
  (0x08000004, .coat 0xC040024 0xFFFFFFF),
  (0x08000008, .coat 0x32 0x1FF),
  (0x0800000C, .ro),
  (0x08000010, .rw1c 0x7FF),
  (0x08000014, .ro),
  (0x08000018, .ro),
  (0x0800001C, .ro),
  (0x08000020, .ro),
  (0x08000024, .ro),
  (0x08000028, .ro),
  (0x0800002C, .ro),
  (0x08000030, .ro),
  (0x08000034, .ro),
  (0x08000038, .ro),
  (0x0800003C, .ro),
  (0x08000040, .ro),
  (0x08000044, .ro),
  (0x08000048, .ro),
  (0x0800004C, .ro),
  (0x08000050, .ro),
  (0x08000054, .ro),
  (0x08000058, .ro),
  (0x0800005C, .ro),
  (0x08000060, .ro),
  (0x08000064, .ro),
  (0x08000068, .ro),
  (0x0800006C, .ro),
  (0x08000070, .ro),
  (0x08000074, .ro),
  (0x08000078, .ro),
  (0x0800007C, .ro),
  (0x08000100, .rw 0x3F),
  (0x08000104, .ro),
  (0x08000108, .ro),
  (0x0800010C, .ro),
  (0x08000110, .ro),
  (0x08000114, .ro),
  (0x08000118, .ro)]

/-- The TRW registers: address and access. -/
def regsTrw : List (Nat × Access) := [
  (0x09000000, .coat 0x64 0x3FFF),
  (0x09000004, .ro),
  (0x09000008, .ro),
  (0x0900000C, .ro),
  (0x09000010, .rw1c 0x7F),
  (0x09000018, .ro),
  (0x0900001C, .ro),
  (0x09000020, .ro),
  (0x09000024, .ro),
  (0x09000028, .ro),
  (0x0900002C, .ro),
  (0x09000030, .ro),
  (0x09000034, .ro),
  (0x09000038, .ro),
  (0x0900003C, .ro),
  (0x09000040, .ro),
  (0x09000044, .ro),
  (0x09000048, .ro),
  (0x0900004C, .ro),
  (0x09000050, .ro),
  (0x09000054, .ro),
  (0x09000100, .rw 0x3FFF),
  (0x09000104, .coat 0x0 0x1FFFFFFF),
  (0x09000108, .coat 0x0 0xFFFFFF),
  (0x0900010C, .coat 0x0 0xFFFFFFFF),
  (0x09000110, .coat 0x0 0x1FF),
  (0x09000114, .coat 0x0 0x1FFFFFFF),
  (0x09000118, .coat 0x190064 0xFFFFFFF),
  (0x0900011C, .coat 0x0 0xFFFFF),
  (0x09000120, .coat 0x0 0x7FFFF),
  (0x09000124, .coat 0x0 0xFFFFF),
  (0x09000128, .coat 0x0 0xFFFFFFFF),
  (0x0900012C, .coat 0x0 0xFFFFFF),
  (0x09000130, .coat 0x0 0xFFFF),
  (0x09000134, .ro),
  (0x09000138, .ro),
  (0x09000200, .rw 0x3FFF),
  (0x09000204, .coat 0x0 0xFFFFFFFF),
  (0x09000208, .coat 0x0 0xFFFFFFFF),
  (0x0900020C, .coat 0x0 0x1FFFFFFF),
  (0x09000210, .coat 0x0 0xFFFFF),
  (0x09000214, .coat 0x0 0xFFFFF),
  (0x09000218, .ro),
  (0x0900021C, .ro),
  (0x09000220, .ro),
  (0x09000224, .ro)]

/-- The GTH registers: address and access. -/
def regsGth : List (Nat × Access) := [
  (0x0A000000, .coat 0x4400 0x7FFFFF),
  (0x0A000004, .ro),
  (0x0A000008, .rw1c 0xF),
  (0x0A000010, .ro),
  (0x0A000014, .ro),
  (0x0A000018, .ro),
  (0x0A00001C, .ro),
  (0x0A000020, .ro),
  (0x0A000024, .ro),
  (0x0A000028, .ro),
  (0x0A00002C, .ro),
  (0x0A000030, .ro),
  (0x0A000034, .ro),
  (0x0A000100, .rw 0x3FFF),
  (0x0A000104, .coat 0x0 0x7FFFFF),
  (0x0A000108, .coat 0x0 0xFFFFFFFF),
  (0x0A00010C, .coat 0x0 0xFFFFFF),
  (0x0A000110, .coat 0x0 0xFFFFFFFF),
  (0x0A000114, .coat 0x0 0xFFFFFF),
  (0x0A000118, .coat 0x0 0xFFFFFFFF),
  (0x0A00011C, .coat 0x0 0xFFFFFF),
  (0x0A000120, .coat 0x0 0xFFFFFFFF),
  (0x0A000124, .coat 0x0 0xFFFFFF),
  (0x0A000128, .coat 0x0 0xFFFF),
  (0x0A00012C, .ro),
  (0x0A000130, .ro),
  (0x0A000134, .ro),
  (0x0A000138, .ro),
  (0x0A00013C, .ro),
  (0x0A000200, .rw 0x3FFFFFF),
  (0x0A000204, .ro),
  (0x0A000208, .ro)]

/-- The SIV registers: address and access. -/
def regsSiv : List (Nat × Access) := [
  (0x0A800000, .coat 0x0 0xF),
  (0x0A800004, .ro),
  (0x0A800008, .rw1c 0x1),
  (0x0A800010, .ro),
  (0x0A800014, .ro),
  (0x0A800018, .ro),
  (0x0A80001C, .ro),
  (0x0A800020, .ro),
  (0x0A800024, .ro),
  (0x0A800028, .ro),
  (0x0A80002C, .ro),
  (0x0A800030, .ro),
  (0x0A800034, .ro),
  (0x0A800038, .ro),
  (0x0A80003C, .ro),
  (0x0A800040, .ro),
  (0x0A800044, .ro)]

/-- The TIL registers: address and access. -/
def regsTil : List (Nat × Access) := [
  (0x0B000000, .coat 0x12100 0x1FFFF),
  (0x0B000004, .ro),
  (0x0B000008, .ro),
  (0x0B00000C, .rw1c 0x1F),
  (0x0B000010, .ro),
  (0x0B000018, .ro),
  (0x0B00001C, .ro),
  (0x0B000020, .ro),
  (0x0B000024, .ro),
  (0x0B000028, .ro),
  (0x0B00002C, .ro),
  (0x0B000030, .ro),
  (0x0B000034, .ro),
  (0x0B000038, .ro),
  (0x0B00003C, .ro),
  (0x0B000040, .ro),
  (0x0B000044, .ro),
  (0x0B000048, .ro),
  (0x0B00004C, .ro),
  (0x0B000100, .rw 0x3FFFFFF),
  (0x0B000104, .coat 0x0 0x1FFFFF),
  (0x0B000108, .coat 0x0 0x1FFFFFFF),
  (0x0B00010C, .ro),
  (0x0B000110, .ro),
  (0x0B000114, .ro),
  (0x0B000118, .ro),
  (0x0B00011C, .ro),
  (0x0B000120, .ro),
  (0x0B000124, .ro),
  (0x0B000200, .rw 0x7F),
  (0x0B000204, .ro),
  (0x0B000208, .ro),
  (0x0B00020C, .ro)]

/-- The SEC registers: address and access. -/
def regsSec : List (Nat × Access) := [
  (0x0D000000, .ro),
  (0x0D000004, .rw1c 0x1FF),
  (0x0D000008, .coat 0x20 0x3F),
  (0x0D00000C, .coat 0xA000 0x7FFFF),
  (0x0D000010, .ro),
  (0x0D000018, .ro),
  (0x0D00001C, .ro),
  (0x0D000020, .ro),
  (0x0D000024, .ro),
  (0x0D000028, .ro),
  (0x0D00002C, .ro),
  (0x0D000030, .ro),
  (0x0D000034, .ro),
  (0x0D000038, .ro),
  (0x0D00003C, .ro),
  (0x0D000040, .ro),
  (0x0D000044, .ro),
  (0x0D000048, .ro),
  (0x0D00004C, .ro),
  (0x0D000050, .ro),
  (0x0D000054, .ro),
  (0x0D000058, .ro),
  (0x0D00005C, .ro),
  (0x0D000060, .ro),
  (0x0D000064, .ro),
  (0x0D000068, .ro),
  (0x0D00006C, .ro),
  (0x0D000100, .rw 0xFFF),
  (0x0D000104, .ro),
  (0x0D000108, .ro),
  (0x0D00010C, .ro),
  (0x0D000110, .ro),
  (0x0D000114, .ro),
  (0x0D000118, .ro),
  (0x0D00011C, .ro)]

/-- The SCR registers: address and access. -/
def regsScr : List (Nat × Access) := [
  (0x0E000000, .coat 0x20 0x1FF),
  (0x0E000004, .ro),
  (0x0E000008, .rw1c 0x3F),
  (0x0E00000C, .rw 0x1),
  (0x0E000010, .ro),
  (0x0E000018, .ro),
  (0x0E00001C, .ro),
  (0x0E000020, .ro),
  (0x0E000024, .ro),
  (0x0E000028, .ro),
  (0x0E00002C, .ro),
  (0x0E000030, .ro),
  (0x0E000034, .ro),
  (0x0E000038, .ro),
  (0x0E00003C, .ro),
  (0x0E000040, .ro),
  (0x0E000044, .ro),
  (0x0E000048, .ro),
  (0x0E00004C, .ro),
  (0x0E000050, .ro),
  (0x0E000054, .ro),
  (0x0E000058, .ro),
  (0x0E00005C, .ro),
  (0x0E000060, .ro),
  (0x0E000064, .ro),
  (0x0E000068, .ro),
  (0x0E00006C, .ro)]

/-- The CFG registers: address and access. -/
def regsCfg : List (Nat × Access) := [
  (0x0F000000, .coat 0xA703C 0x3FFFFF),
  (0x0F000004, .ro),
  (0x0F000008, .ro),
  (0x0F00000C, .ro),
  (0x0F000010, .ro),
  (0x0F000014, .ro),
  (0x0F000018, .ro),
  (0x0F00001C, .rw1c 0x3FF),
  (0x0F000020, .ro),
  (0x0F000024, .ro),
  (0x0F000028, .ro),
  (0x0F00002C, .ro),
  (0x0F000030, .rw 0x7FFF),
  (0x0F000034, .ro),
  (0x0F000038, .ro),
  (0x0F00003C, .ro),
  (0x0F000040, .ro),
  (0x0F000044, .ro),
  (0x0F000048, .ro),
  (0x0F00004C, .ro)]

/-- The RAS registers: address and access. -/
def regsRas : List (Nat × Access) := [
  (0x10000000, .coat 0x84100 0x3FFFFF),
  (0x10000004, .coat 0x118 0x1FF),
  (0x10000008, .ro),
  (0x1000000C, .rw1c 0x1FF),
  (0x10000010, .ro),
  (0x10000018, .ro),
  (0x1000001C, .ro),
  (0x10000020, .ro),
  (0x10000024, .ro),
  (0x10000028, .ro),
  (0x1000002C, .ro),
  (0x10000030, .ro),
  (0x10000034, .ro),
  (0x10000038, .ro),
  (0x1000003C, .ro),
  (0x10000040, .ro),
  (0x10000044, .ro),
  (0x10000048, .ro),
  (0x1000004C, .ro),
  (0x10000050, .ro),
  (0x10000054, .ro),
  (0x10000058, .ro),
  (0x1000005C, .ro),
  (0x10000060, .ro),
  (0x10000064, .ro),
  (0x10000100, .rw 0xFFFF),
  (0x10000104, .ro),
  (0x10000108, .ro),
  (0x1000010C, .ro),
  (0x10000200, .rw 0x1FF),
  (0x10000204, .ro)]

/-- The TEL registers: address and access. -/
def regsTel : List (Nat × Access) := [
  (0x11000000, .coat 0xEE6B3 0x1FFFFF),
  (0x11000004, .coat 0x0 0xFFFFFF),
  (0x11000008, .ro),
  (0x1100000C, .rw1c 0x3),
  (0x11000010, .ro),
  (0x11000014, .ro),
  (0x11000018, .ro),
  (0x1100001C, .ro),
  (0x11000020, .ro),
  (0x11000024, .ro),
  (0x11000028, .ro),
  (0x1100002C, .ro),
  (0x11000030, .ro),
  (0x11000034, .ro),
  (0x11000100, .rw 0xFFFF),
  (0x11000104, .ro),
  (0x11000108, .ro),
  (0x1100010C, .ro),
  (0x11000110, .ro),
  (0x11000114, .ro),
  (0x11000118, .ro),
  (0x1100011C, .ro),
  (0x11000120, .ro)]

/-- The GLB registers: address and access. -/
def regsGlb : List (Nat × Access) := [
  (0x00000000, .ro),
  (0x00000004, .ro),
  (0x00000008, .ro),
  (0x0000000C, .coat 0x2 0x3),
  (0x00000010, .ro),
  (0x00000014, .rwb 0xFFFFFFFF),
  (0x00000018, .ro),
  (0x0000001C, .ro),
  (0x00000020, .ro),
  (0x00000024, .ro),
  (0x00000028, .ro),
  (0x0000002C, .ro),
  (0x00000100, .rw 0x7FF),
  (0x00000104, .ro),
  (0x00000108, .ro),
  (0x0000010C, .rw1c 0x7)]

/-- The HBMC registers: address and access. -/
def regsHbmc : List (Nat × Access) := [
  (0x0C000000, .rw 0x7),
  (0x0C000004, .ro),
  (0x0C000008, .ro),
  (0x0C00000C, .ro),
  (0x0C000010, .ro),
  (0x0C000014, .ro)]

/-- The PWR registers: address and access. -/
def regsPwr : List (Nat × Access) := [
  (0x12000000, .coat 0x22FE49C4 0x3FFFFFFF),
  (0x12000004, .ro),
  (0x12000008, .rw1c 0x1F),
  (0x1200000C, .ro),
  (0x12000010, .ro),
  (0x12000014, .ro),
  (0x12000018, .ro),
  (0x1200001C, .ro),
  (0x12000020, .ro),
  (0x12000028, .ro),
  (0x1200002C, .ro),
  (0x12000040, .ro),
  (0x12000044, .ro),
  (0x12000048, .ro),
  (0x1200004C, .ro),
  (0x12000050, .ro),
  (0x12000054, .ro),
  (0x12000058, .ro),
  (0x1200005C, .ro),
  (0x12000080, .ro),
  (0x12000084, .ro),
  (0x12000088, .ro),
  (0x1200008C, .ro),
  (0x12000090, .ro),
  (0x12000094, .ro),
  (0x12000098, .ro),
  (0x1200009C, .ro),
  (0x120000A0, .ro),
  (0x120000A4, .ro),
  (0x120000A8, .ro),
  (0x120000AC, .ro),
  (0x120000B0, .ro),
  (0x120000B4, .ro),
  (0x12000100, .rwb 0x80000003),
  (0x12000104, .ro),
  (0x12000110, .rwb 0xFFFFFFFF),
  (0x12000114, .rwb 0xFFFFFFFF),
  (0x12000118, .rwb 0xFFFFFFFF),
  (0x1200011C, .rwb 0xFFFFFFFF),
  (0x12000120, .rwb 0xFFFFFFFF),
  (0x12000124, .rwb 0xFFFFFFFF),
  (0x12000128, .rwb 0xFFFFFFFF),
  (0x1200012C, .rwb 0xFFFFFFFF),
  (0x12000130, .rwb 0xFFFFFFFF),
  (0x12000134, .rwb 0xFFFFFFFF),
  (0x12000138, .rwb 0xFFFFFFFF),
  (0x1200013C, .rwb 0xFFFFFFFF),
  (0x12000200, .rwb 0xF)]

end Sys2Proof.Machine
end

