-- ==== Sys2Proof/Machine/StatePool.lean ====
section
/-! DEFINITION. State of the pool home (spec/06), of the coherence engine (spec/07) and of the ordering rules (spec/08): sources,
the transaction tracker, outgoing requests, the pool cache, poison, the snoop filter. Every field has its reset value as
default. -/

namespace Sys2Proof.Machine

/-- A memory of the block: a canonical list of (address, byte) (Machine/Memory.lean gives its operations). -/
abbrev Mem := List Host.Cell

/-- Ranges of lines: first line and count. -/
abbrev Ranges := List (Nat × Nat)

/-- A request held for its turn (R180, R263): opcode and message. -/
structure HeldReq where
  opcode : Nat
  msg : Msg
deriving DecidableEq, Repr

/-- What the home keeps for a source (R179 to R182): E, held requests, kept completions, the last accepted PAIR_RESET's tag and
sequence while no other request of the pair has arrived since, whether that reset waits for its pair's transactions (R262). -/
structure Src where
  expect : Nat := 0
  held : List HeldReq := []
  kept : List Cpl := []
  lastReset : Option (Nat × Nat) := none
  resetWait : Option Msg := none
deriving DecidableEq, Repr

/-- How far a transaction has come: waiting in its tracker entry; answered RETRY, its entry reserved (R186), not yet or already
granted; snoops out; fills out; its data gathered and its owner to act; its write-backs, mirror or commit answers outstanding. -/
inductive Stage where
  | waiting
  | reserved (granted : Bool)
  | snooping
  | filling
  | ready
  | finishing
deriving DecidableEq, Repr

/-- What a tracker entry carries out: a request; a write-back forced by an eviction; the current op of a part of an invocation
(R409); a RUB chunk (R371); a copy of a 64 KiB capacity unit to another tray (R172); its migration (R171); its re-keying (R487)
or resynchronisation (R189); a deregistration (R206); a frost sweep of a job (R565); the pool write of a result (R333); the recall of
a line that became poisoned (R167). -/
inductive Work where
  | req (opcode : Nat) (m : Msg)
  | writeBack (line : Nat)
  | tileOp (tile : Nat)
  | rub (group tile epoch chunk : Nat)
  | restore (unit target : Nat)
  | migrate (unit : Nat)
  | rekey (slot unit : Nat)
  | resync (win unit : Nat)
  | dereg (slot : Nat)
  | sweep (job : Nat)
  | result (group epoch chunk addr : Nat) (data : List Byte)
  | recall (line : Nat)
deriving DecidableEq, Repr

/-- A snoop (R211, R232): endpoint, slot and record, line, opcode 0x20 to 0x23; once sent, its tag and sequence on the pair (home,
endpoint) and its resends. -/
structure Snoop where
  ep : Nat
  slot : Nat
  set : Nat
  way : Nat
  line : Nat
  opcode : Nat
  tag : Nat := 0
  seq : Nat := 0
  resends : Nat := 0
deriving DecidableEq, Repr

/-- A tracker entry (R184). `reads` and `writes` are the lines it touches, `toSnoop` the snoops that wait for SNP_CREDITS, `got`
lines' data it holds by itself, `fills` the lines whose tier data it waits for, `toFill` those that wait for one of its unit's
MISS_MAX (R361), `bad` the lines that cannot be had and the status
they give, `wbs` the lines whose tier writes it waits for, `mirrorRead` the status a MIRROR_READ may mend (R190), `reply` its
completion's payload; `fenced` its job entered frost (R264); `keep` whether its completion is kept (R182); `tick` the tick it was
taken in (R263); `ord` its place in the order of its pair, renewed by a reissue; `commit` the commit record it waits for (R513), `acked` whether that came; `step`, `plan`, `total` and
`unit` how far a Gather or Sieve request has come: its pass, its row indices (none: out of range) or record indices, its TOTAL, its unit
(R356 to R364); `noMirror` the partner could not mend it either (R190); `away` the other twin executes it (R512); `after` the tick in which the last
request before a REL request executed (R265). -/
structure Tx where
  id : Nat
  ord : Nat := 0
  source : Nat := 0
  tag : Nat := 0
  work : Work
  stage : Stage := .waiting
  reads : Ranges := []
  writes : Ranges := []
  toSnoop : List Snoop := []
  snoops : List Snoop := []
  got : List (Nat × List Byte) := []
  fills : List Nat := []
  toFill : List Nat := []
  bad : List (Nat × Nat) := []
  wbs : List Nat := []
  mirrorRead : Option Nat := none
  executed : Bool := false
  degraded : Bool := false
  fromMirror : Bool := false
  status : Option Nat := none
  reply : List Byte := []
  fenced : Bool := false
  keep : Bool := true
  tick : Nat := 0
  commit : Option Nat := none
  acked : Bool := false
  step : Nat := 0
  plan : List (Option Nat) := []
  unit : Option Nat := none
  total : Nat := 0
  noMirror : Bool := false
  away : Bool := false
  after : Option Nat := none
deriving DecidableEq, Repr

/-- Why the Volinar sent a numbered request (R187). -/
inductive Purpose where
  | trayIdent (tray : Nat)
  | trayFill (line tray : Nat)
  | trayWrite (line tray : Nat)
  | copyRead (tx page tray : Nat)
  | copyWrite (tx page tray : Nat)
  | landWrite (job page tray : Nat)
  | mirrorOp (tx win : Nat)
  | mirrorRead (tx win : Nat)
  | resyncWrite (tx win : Nat)
  | pairReset (win : Nat)
  | frostNotice (job : Nat)
  | partialTo (group epoch chunk : Nat)
  | gaugeFwd (gauge : Nat)
  | coreCall (slot core : Nat)
  | brIdent (tray : Nat)
  | brSense (tray job : Nat)
  | brFetch (tray job : Nat)
  | brLoad (tray job : Nat)
  | brProgram (tray job : Nat)
  | brErase (tray job : Nat)
  | brRelease (tray : Nat)
  | brHealth (tray job : Nat)
  | mapRead (page tray : Nat)
  | mapWrite (page tray : Nat)
deriving DecidableEq, Repr

/-- A numbered request of the Volinar (R187): target endpoint, tag, sequence, opcode, content, retransmissions, purpose. `sent`
is false while it waits for the target's MAX_OUTSTANDING (R191), `busyWait` while it waits after BUSY or NOT_READY, since tick
`busySince` (R191, R267). -/
structure OutReq where
  target : Nat
  tag : Nat
  seq : Nat
  opcode : Nat
  resends : Nat := 0
  address : Nat := 0
  payload : List Byte := []
  key : Key := {}
  cls : Nat := 0
  epoch : Nat := 0
  flags : Nat := 0
  sent : Bool := false
  busyWait : Bool := false
  busySince : Option Nat := none
  purpose : Purpose
deriving DecidableEq, Repr

/-- What a command has set going and the engine carries out before the command ends (none between commands): a request that is in
sequence (step 4 of R177 on), or that the other twin passed on for step 10 (R512); a transaction whose lines are gathered; internal work that ended with a status; a job that enters
frost (cause and origin of R563); a request of the Volinar's own that was answered with a status, or whose target failed (R187); an endpoint declared failed
(R233, R187); a request of a resident program completed, or granted after RETRY, at this home (R186, R454). -/
inductive Hook where
  | arrive (opcode : Nat) (m : Msg)
  | execute (opcode : Nat) (m : Msg)
  | ready (tx : Nat)
  | ended (w : Work) (status : Nat)
  | frost (job cause origin cls : Nat)
  | answered (o : OutReq) (status : Nat) (payload : List Byte)
  | failed (o : OutReq)
  | epLost (ep : Nat)
  | coreDone (c : Cpl)
  | coreGrant (m : Msg)
deriving DecidableEq, Repr

/-- A mirror's state (R189, POOL_WIN_STATUS). -/
inductive MirSt where
  | none
  | paired
  | single
  | resync
deriving DecidableEq, Repr

/-- What the home holds of a window besides the coat: mirror state, marked 64 KiB units (R189), the whole-window poison mark
(R236). -/
structure WinSt where
  mirror : MirSt := .none
  marked : List Nat := []
  poisoned : Bool := false
deriving DecidableEq, Repr

/-- A line in the associative cache (R168): dirty or clean; `staged` while a dense row that holds its data is not programmed
(R283), `leaving` when it goes once that is done; `age` orders the lines of a set by last use. -/
structure CLine where
  dirty : Bool := false
  staged : Bool := false
  leaving : Bool := false
  age : Nat := 0
deriving DecidableEq, Repr

/-- A capacity tray (R191): identification state (0 not asked, 1 asked, 2 accepted, 3 refused, 4 failed), capacity, declared
outstanding limit; `fresh` it was replaced and holds no copy but those written since (R548). -/
structure CapTray where
  st : Nat := 0
  fresh : Bool := false
  bytes : Nat := 0
  maxOut : Nat := 1024
deriving DecidableEq, Repr

/-- A 64 KiB unit of the capacity tier (R171, R172) where it differs from its first placement: the trays that hold a good copy;
tick of its last write. -/
structure CapUnit where
  copies : Option (List Nat) := none
  lastWrite : Nat := 0
deriving DecidableEq, Repr

/-- The pool home. `zeros` are ranges of capacity units that a DISCARD made read as zeros (R178). `retries` the requests answered
RETRY by line, oldest first, and `holds` the line held for a grantee's transaction (R224). `ready` the transactions whose data is
gathered for their owners. `drain` a rollback's drain: the tick it began in (R263). `peers` the endpoints that a hello of their own
made known. `rdBytes` and `wrBytes` what HBM has moved. `bgWait` the background work that waits for an entry (R184). `before` the records
of the coat before the last patch, and the number of the first transaction admitted after it: those before it run to their end under it
(R47, R193). -/
structure Pool where
  srcs : List (Nat × Src) := []
  txs : List Tx := []
  nextTx : Nat := 0
  nextSeq : List (Nat × Nat) := []
  outs : List OutReq := []
  wins : List (Nat × WinSt) := []
  cache : List (Nat × CLine) := []
  useClock : Nat := 0
  capTrays : List (Nat × CapTray) := []
  capUnits : List (Nat × CapUnit) := []
  zeros : Ranges := []
  retries : List (Nat × List Nat) := []
  holds : List (Nat × Nat) := []
  drain : Option Nat := none
  rdBytes : Nat := 0
  wrBytes : Nat := 0
  bgWait : List Tx := []
  before : Option (Nat × List RegRec) := none
deriving DecidableEq, Repr

/-- States of a caching endpoint's slot (R242). -/
inductive EpSt where
  | unregistered
  | registered
  | deregistering
  | failed
deriving DecidableEq, Repr

/-- A slot of the snoop filter (R203 to R208): state, the endpoint that registered, geometry, records not Invalid by
(set, way). -/
structure Slot where
  st : EpSt := .unregistered
  ep : Nat := 0
  setsLog2 : Nat := 0
  ways : Nat := 0
  recs : List ((Nat × Nat) × SfRec) := []
deriving DecidableEq, Repr

/-- The coherence engine: slots, poisoned lines (R234). Which lookups hit the on-die snoop-filter cache is a free value (log entry
20). -/
structure Coh where
  slots : List (Nat × Slot) := []
  poison : List Nat := []
deriving DecidableEq, Repr

/-! ### The dense tier (spec/09) -/

/-- STATE of a map entry (R279). -/
inductive MapSt where
  | zero
  | dense
  | lost
  | landed
deriving DecidableEq, Repr

/-- A map entry (R279): the unit's state, stream, place; `slot` where LANDED; `serial` the WRITE_SERIAL of its last write. -/
structure MapEnt where
  st : MapSt := .zero
  temp : Nat := 0
  tray : Nat := 0
  eu : Nat := 0
  stride : Nat := 0
  slot : Nat := 0
  serial : Nat := 0
deriving DecidableEq, Repr

/-- An erase unit of a dense tray: 0 not primed, 1 free, 2 in a stripe, 3 retired; erase count; the serial of its last erase;
page slots retired; Almanac time of the last erase (R288, R289, R299). -/
structure EuSt where
  st : Nat := 0
  count : Nat := 0
  serial : Nat := 0
  slots : List Nat := []
  erased : Nat := 0
deriving DecidableEq, Repr

/-- A dense tray (R266 to R274, R309): STATE, what BR_IDENT declared, whether programs are held back (R274), failed dies;
the erase unit that its formatting has come to (R300), and how many records its root units have taken (R301). -/
structure DTray where
  st : Nat := 0
  euCount : Nat := 0
  pages : Nat := 0
  pu64 : Bool := false
  refSteps : Nat := 0
  rawPu : Nat := 0
  endurance : Nat := 0
  nbuf : Nat := 0
  maxOut : Nat := 1024
  blankCheck : Bool := false
  halted : Bool := false
  dies : List Nat := []
  formatAt : Nat := 0
  roots : Nat := 0
  eus : List (Nat × EuSt) := []
deriving DecidableEq, Repr

/-- A stripe (R277): its ten members (tray, erase unit), stream, rows programmed, whether it is closed and when (a count), members
missing with the strides of each that a rebuild has written, and where it writes them; the strides (row, member) of rows that a power loss cut
short and that were never written (R302). -/
structure Stripe where
  members : List (Nat × Nat)
  stream : Nat
  rows : Nat := 1
  closed : Option Nat := none
  missing : List Nat := []
  rebuild : Option (Nat × Nat × Nat × Nat) := none
  voids : List (Nat × Nat) := []
deriving DecidableEq, Repr

/-- A data stride for a stream's open row (R282): unit (none for filler and metadata), its 64 KiB as stored, POISON bits by line,
write serial, stream; `reloc` the serial that a relocation or refresh read (R286); `lines` the lines whose write-back it ends (for
a discard record, the unit's first line); KIND of R275; the CLASS of the request that caused the write (R657). -/
structure RowEnt where
  unit : Option Nat
  data : List Byte
  poison : List Nat := []
  serial : Nat
  temp : Nat
  reloc : Option Nat := none
  lines : List Nat := []
  kind : Nat := 0
  cls : Nat := 0
deriving DecidableEq, Repr

/-- What a sector read is for: a fill of lines of a unit, for a request of a CLASS (R657); a unit being gathered; drizzle patrol; a sector being rebuilt (its job and the member); the
primer of an erase unit that the home does not know (R300). -/
inductive ReadFor where
  | fill (cls unit : Nat)
  | part (job : Nat)
  | patrol
  | recon (job member : Nat)
  | primer
deriving DecidableEq, Repr

/-- A media job in progress. `sector`: one sector of a stride is read by senses of changing REF_SHIFT (R290, R291). `recon`: a
sector is rebuilt from the row's other members. `gather`: a 64 KiB unit is gathered, its new lines laid over, to be written to a
stream or to the landing area (R281, R171). `program`: one stride of a row, or of a member being rebuilt, is programmed page by
page (R272, R282). `erase`: an erase unit is erased and primed (R299). `rebuild`: a stride of a missing member is rebuilt (R294).
`phase` counts the steps of a job, `tag` is that of the media command it waits for. -/
inductive Media where
  | sector (tray eu stride sector tries phase tag : Nat) (raw : List Byte) (why : ReadFor)
  | recon (stripe member stride sector : Nat) (want : List Nat) (parts : List (Nat × List Byte)) (lost : List Nat) (why : ReadFor)
  | gather (unit temp : Nat) (land : Bool) (reloc : Option Nat) (want : List Nat) (parts : List (Nat × List Byte))
      (ovr : List (Nat × List Byte)) (lines : List Nat)
  | program (stripe stride member tray eu page loads phase tag : Nat) (ent : RowEnt)
  | erase (tray eu page loads phase tag : Nat)
  | rebuild (stripe member stride : Nat) (want : List Nat) (parts : List (Nat × List Byte))
deriving DecidableEq, Repr

/-- The dense tier. STATE of DNS_STATUS; the map's entries that are not ZERO; units changed since the last checkpoint; map pages in
the HBM map cache, longest unused first, those of them that differ from the tier's, and the lines that wait for a page (transaction,
line, CLASS) (R280); the CLASS of the jobs that a request caused (R657); stripes; each stream's open stripe and the strides that wait for a row of it; rows whose strides are being
programmed (stripe, stride, strides programmed, entries); serials; media jobs; the garbage-collection victim; units to be refreshed
(R292); patrol's position and the tick its pass began in;
RETRY_STEPS of the reads that began under an earlier coat (R303); stripes that each stream has opened since the last checkpoint, and whether
its root records are still to be written (R301); conditions whose onset raised an event. -/
structure Dns where
  st : Nat := 0
  trays : List (Nat × DTray) := []
  map : List (Nat × MapEnt) := []
  changed : List Nat := []
  mapCache : List Nat := []
  mapDirty : List Nat := []
  mapWaits : List (Nat × Nat × Nat) := []
  stripes : List (Nat × Stripe) := []
  nextStripe : Nat := 0
  closeCount : Nat := 0
  opens : List (Nat × Nat) := []
  rows : List (Nat × List RowEnt) := []
  active : List (Nat × Nat × Nat × List RowEnt) := []
  writeSerial : Nat := 0
  eraseSerial : Nat := 0
  jobs : List (Nat × Media) := []
  jobCls : List (Nat × Nat) := []
  nextJob : Nat := 0
  victim : Option Nat := none
  refreshDue : List Nat := []
  patrolPos : Nat := 0
  patrolStart : Nat := 0
  oldRetries : List (Nat × Nat) := []
  listed : List (Nat × Nat) := []
  rootDue : Bool := false
  short : Bool := false
  blocked : Bool := false
  noStripes : Bool := false
deriving DecidableEq, Repr

end Sys2Proof.Machine
end

