-- ==== Sys2Proof/Machine/StateCtl.lean ====
section
/-! DEFINITION. State of configuration and flash (spec/17), security (spec/15), Scrim twin mode (spec/16), faults and recovery
(spec/18), telemetry (spec/20), the management paths (spec/21) and power (spec/22). Every field has its reset value as default. -/

namespace Sys2Proof.Machine

/-- STATE of a directory slot (R528). -/
inductive SlotSt where
  | empty
  | staged
  | valid
  | bad
deriving DecidableEq, Repr

/-- STATE of a journal entry (R535). -/
inductive JourSt where
  | blank
  | staged
  | curing
  | cured
  | discarded
deriving DecidableEq, Repr

/-- A journal entry: serial, state, the patch's image. -/
structure JEnt where
  serial : Nat
  st : JourSt
  bytes : List Byte
deriving DecidableEq, Repr

/-- A slot's chain in the flash (R527, R535): a full coat followed by its journal. -/
structure Chain where
  offset : Nat
  extent : Nat
  full : List Byte
  journal : List JEnt
deriving DecidableEq, Repr

/-- A slot of the directory: STATE, OFFSET, EXTENT, TOP_SERIAL. -/
structure DirSlot where
  st : SlotSt := .empty
  offset : Nat := 0
  extent : Nat := 0
  top : Nat := 0
deriving DecidableEq, Repr

/-- A directory record (R528). `previous` none is 0xFF. `sheetMap` lists the set bits. `mac` is the stored MAC. -/
structure Directory where
  seq : Nat := 0
  highWater : Nat := 0
  active : Nat := 0
  previous : Option Nat := none
  tries : Nat := 0
  slots : List DirSlot := [{}, {}, {}, {}]
  sheetMap : List Nat := []
  mac : Nat := 0
deriving DecidableEq, Repr

/-- An owner-key fuse (R532, R648): programmed with a digest (none: programmed with a digest that matches no key), revoked. -/
structure OwnerKey where
  digest : Option Nat
  revoked : Bool := false
deriving DecidableEq, Repr

/-- The kinds of location the retirement fuse bank records (R560). -/
inductive BankKind where
  | pseudoChannel
  | bufferCell
  | stagingEntry
  | wideForm
  | tileSram
deriving DecidableEq, Repr

/-- What survives reset: the configuration flash (each device's two directory copies and the slots' chains), the owner-key
fuses, the HBM repair fuses, the retirement fuse bank (R560); what the dense trays' media and the capacity tier hold of the dense
map, the stripe table and the serials (R301, log entry 61), and of the poison table (R570). -/
structure Nv where
  dirs : List Directory := []
  chains : List (Nat × Chain) := []
  ownerKeys : List (Nat × OwnerKey) := []
  repaired : List (Nat × Nat) := []
  retired : List (BankKind × Nat) := []
  media : Dns := {}
  poison : List Nat := []
deriving DecidableEq, Repr

/-- States of the coat (R552). -/
inductive CoatSt where
  | noCoat
  | booting
  | curing
  | cured
  | draining
deriving DecidableEq, Repr

/-- The pending patch (R539). -/
structure Patch where
  image : Image
  bytes : List Byte
  staged : Bool := false
deriving DecidableEq, Repr

/-- Flash programming in progress, oldest first (R539, R541): a patch's journal entry; a full coat's slot, its offset and extent, its image, and
the serial that an adoption expects to be active. -/
inductive Writing where
  | entry (serial : Nat)
  | full (slot offset extent : Nat) (bytes : List Byte) (adopt : Option Nat)
deriving DecidableEq, Repr

/-- The image being assembled (R537): its source and the data written, newest last. -/
structure Staging where
  source : Path
  chunks : List (Nat × List Byte)
  tick : Nat := 0
deriving DecidableEq, Repr

/-- A unit's service state (R554): 0 in service, 1 sheeted, 2 under self-test, 3 retired; REASON; whether its self-test is
the one of a return (R548); the ticks of its faults in the last 24 h (R558); whether it holds off until its work ends (R572); whether
its self-test follows a fault (R558); the tick its last self-test ended in (R573). -/
structure UnitSt where
  st : Nat := 0
  reason : Nat := 0
  returning : Bool := false
  wanted : Bool := false
  faults : List Nat := []
  faulty : Bool := false
  tested : Nat := 0
deriving DecidableEq, Repr

/-- Configuration. `dir` is the directory as read at boot and as written since (R528). `active` is the composite; `slot` the slot whose chain
runs; `previous` what a strip restores; `cureSlot` the slot whose full coat is curing, `cureImage` the patch that is. `passed` and
`failed`: CFG_CHECKS. `changed` the tick in which the active coat last changed and the coat before it, which what arrived or was selected
in that tick still goes by (R47, R155). `stripDue`: a check failed and the strip waits for the next slot. `fwUpdate`: the firmware cores still to be updated. -/
structure Cfg where
  st : CoatSt := .booting
  active : Option Coat := none
  slot : Nat := 0
  previous : Option Coat := none
  cureSlot : Option Nat := none
  cureImage : Option Image := none
  pending : Option Patch := none
  staging : Option Staging := none
  dir : Directory := {}
  passed : List Nat := []
  failed : List Nat := []
  stripDue : Bool := false
  cureEndTick : Nat := 0
  portsUp : List Nat := []
  lockedAt : Bool := false
  writing : List Writing := []
  primary : Nat := 0
  recovery : Nat := 0
  forwarding : Bool := false
  poolReady : Bool := false
  units : List ((Nat × Nat) × UnitSt) := []
  fwUpdate : List Nat := []
  changed : Option (Nat × Option Coat) := none
deriving DecidableEq, Repr

/-- Randomness (R477 to R479), coded as SEC_STATUS.RNG. -/
inductive Rng where
  | testing
  | ready
  | retesting
  | failed
deriving DecidableEq, Repr

/-- States of a key slot (R501). -/
inductive KeySt where
  | empty
  | pending
  | active
  | rotating
deriving DecidableEq, Repr

/-- A key slot (R480): `pair` the current K1 with K2, `old` the pair being replaced, `next` the pending pair with its members
and digest, APPLY_SLOT, cursor. -/
structure KeySlot where
  st : KeySt := .empty
  kind : Nat := 0
  owner : Nat := 0
  members : Nat := 0
  digest : Nat := 0
  gen : Nat := 0
  pair : Option (List Byte) := none
  old : Option (List Byte) := none
  next : Option (List Byte) := none
  nextMembers : Nat := 0
  nextDigest : Nat := 0
  applySlot : Nat := 0
  due : Nat := 0
  curWin : Nat := 0
  curOff : Nat := 0
deriving DecidableEq, Repr

/-- Security. `cdi1` and the DeviceID public key come from DICE (R470); `fwDigest` is the digest of the boot coat's firmware section.
`readyAt` is the tick in which the source last became ready to serve (R478). `inbox` holds the decoded messages of SPDM_MSG requests that have arrived, by source and sequence. -/
structure Sec where
  rng : Rng := .testing
  attempts : Nat := 0
  stale : Bool := false
  readyAt : Option Nat := none
  debug : Bool := false
  signDisabled : Bool := false
  sessions : List (Nat × Role) := []
  nextSession : Nat := 0
  keys : List (Nat × KeySlot) := []
  nonce : Option Nat := none
  deviceKey : List Byte := []
  cdi1 : Nat := 0
  nvmKey : Nat := 0
  aliasKey : Bool := false
  fwDigest : Nat := 0
  inbox : List ((Nat × Nat) × SpdmMsg) := []
deriving DecidableEq, Repr

/-- States of the pair (R524). -/
inductive PairSt where
  | solo
  | training
  | paired
  | alone
  | held
  | rejoining
deriving DecidableEq, Repr

/-- Scrim. `shadow` is what this twin holds of its partner: dirty and pinned lines, snoop-filter records, poison, E values,
kept completions, gauges. `dirtySent` (lines written), `recLog`, `poisonLog` and `gaugeLog` are what the next commit record
carries (R513), with `freedLog` and `slotLog`. `ctlAgain` a control
transaction to send again (R516); `rejoin` the partner has paired again with this survivor (R519); `took` this survivor has taken over (R518); `alive` the level of SCR_ALIVE. -/
structure Scr where
  role : Nat := 0
  st : PairSt := .solo
  groups : List Nat := []
  partnerAlive : Bool := false
  partnerDevid : Nat := 0
  trained : Bool := false
  nextCommit : Nat := 0
  dirtyShadow : List (Nat × List Byte) := []
  pinnedMirror : List (Nat × List Byte) := []
  shadowRecs : List ((Nat × Nat) × SfRec) := []
  shadowPoison : List Nat := []
  shadowE : List (Nat × Nat) := []
  shadowKept : List Cpl := []
  shadowGauges : List (Nat × Nat × Nat × Nat × Nat) := []
  dirtySent : List Nat := []
  recLog : List (Nat × Nat × SfRec) := []
  poisonLog : List (Nat × Bool) := []
  gaugeLog : List (Nat × Nat × Nat × Nat × Nat) := []
  freedLog : List Nat := []
  slotLog : List Nat := []
  shadowSlots : List (Nat × Nat × Nat × Nat × Bool) := []
  alive : Bool := false
  rejoin : Bool := false
  took : Bool := false
  ctlAgain : Option CtlKind := none
  streamed : Nat := 0
  wasReset : Bool := false
deriving DecidableEq, Repr

/-- A job's frost (R563 to R567): `since` the tick in which it entered; `thaw` an accepted THAW's serial that waits for its slot; `cls` the class with which the end of its
sweep is logged (R598). -/
structure Job where
  frost : Bool := false
  swept : Bool := false
  remote : Bool := false
  cause : Nat := 0
  origin : Nat := 0
  serial : Nat := 0
  thaw : Option Nat := none
  cls : Nat := 1
  since : Nat := 0
deriving DecidableEq, Repr

/-- A pseudo-channel (R583): 0 in service, 1 being retired, 2 retired; rows in repair. `ueRows`: its rows with uncorrectable errors
and the ticks of the last ones. -/
structure Pc where
  st : Nat := 0
  spare : Nat := 64
  ceLast : Nat := 0
  ueRows : List (Nat × Nat) := []
  repairing : List Nat := []
deriving DecidableEq, Repr

/-- Faults and recovery. `lost` the locations retired since reset that the full fuse bank could not take (R561). -/
structure Ras where
  jobs : List (Nat × Job) := []
  pcs : List (Nat × Pc) := []
  fuseFull : Bool := false
  lost : List (BankKind × Nat) := []
deriving DecidableEq, Repr

/-- An entry of the event log (R598): DETAIL as its value bytes, right-aligned when read. -/
structure LogEntry where
  time : Nat
  block : Nat
  cls : Nat
  code : Nat
  seq : Nat
  unit : Nat
  rept : Nat
  detail : List Byte
deriving DecidableEq, Repr

/-- Telemetry: the log, oldest entry first; the snapshot being sent, its records of (address, value) (R602). -/
structure Tel where
  log : List LogEntry := []
  next : Nat := 0
  wrapped : Bool := false
  snapSeq : Nat := 0
  snap : Option (Nat × Nat × Nat × List (Nat × Nat)) := none
  snapDue : Bool := false
deriving DecidableEq, Repr

/-- The management paths (R614): selections and _HI latches of each path, by register address; the PCIe mailbox (R610). -/
structure Mgmt where
  sels : List ((Path × Nat) × Word) := []
  latches : List ((Path × Nat) × Word) := []
  mbxBusy : Bool := false
  mbxDone : Bool := false
  mbxResponse : Option Cpl := none
  pcieUp : Bool := false
deriving DecidableEq, Repr

/-- Power, reset and fuses. `stopped`: held in reset by a fault until RESET_N is driven low and released (R626). Steps are
1 to 16 (R636). `powerCalm` and `thermalCalm` count windows at or below the limit. -/
structure Pwr where
  inReset : Bool := true
  stopped : Bool := false
  resetLow : Bool := true
  cause : List Nat := [0]
  under : List Nat := []
  ovr : List Nat := []
  straps : BitVec 4 := 0
  powerStep : Nat := 16
  thermalStep : Nat := 16
  board : Bool := false
  hostHalf : Bool := false
  powerCalm : Nat := 0
  thermalCalm : Nat := 0
  watts : Nat := 0
  windows : List Nat := []
  temps : List Int := []
  hbmTemps : List Int := []
  throttledUs : Nat := 0
  scratch : Word := 0
  fuseData : List (Nat × Word) := []
  fuseKey : Nat := 0
  fuseDigest : Nat := 0
  fuseProg : Nat := 0
  fuseBusy : Bool := false
  fuseResult : Nat := 0
  forceStep : Nat := 0
  uptime : Nat := 0
deriving DecidableEq, Repr

end Sys2Proof.Machine
end

