-- ==== Sys2Proof/Machine/StateLink.lean ====
section
/-! DEFINITION. State of Almanac time and Forecast calendars (spec/02), of ports, lanes and links (spec/03), of the switch core
(spec/04) and of the schedulers and policers (spec/05). Every field has its reset value as default. -/

namespace Sys2Proof.Machine

/-- Almanac states (R23). -/
inductive AlmSt where
  | unset
  | acquiring
  | locked
  | holdover
  | island
deriving DecidableEq, Repr

/-- What steers the frequency of the Almanac oscillator: itself; an accepted offset, in units of 2^-16 ns, being corrected over the next
beacon interval (R27); the 1PPS and 10 MHz input (R25). -/
inductive ClockRate where
  | oscillator
  | slewing (offset : Int)
  | external
deriving DecidableEq, Repr

/-- Almanac time and state. `accRun` and `missRun` count consecutive accepted, and missed or rejected, beacons (R24);
`expect` is E; `lastCorr` CORRECTION of the last accepted beacon (R32); `pendingStep` the time difference of a step that waits
for the next slot boundary (R27); `taken` a beacon has been taken (R54); `rate` what steers the clock's frequency (R25, R27); `heard` each
port's rank for R29 with the ORIGIN_TIME of its last beacon; `heardClear` a beacon with ISLAND clear heard since reset and `clearTick` the
tick of the last beacon or claim with ISLAND clear (R24); `claimed` this claimant's claim is out, `gmTick` the tick in
which the island's grandmaster, or the best claim for it, was taken up and `gmSits` that it sits (R39). -/
structure Alm where
  time : Nat := 0
  st : AlmSt := .unset
  building : Bool := false
  gm : Bool := false
  upPort : Option Nat := none
  upHoldover : Bool := false
  accRun : Nat := 0
  missRun : Nat := 0
  expect : Nat := 0
  lastCorr : Nat := 0
  offset16 : Int := 0
  noTime : Bool := true
  fromUnset : Bool := false
  pendingStep : Option Int := none
  started : Bool := false
  gmEui : Nat := 0
  gmPriority : Nat := 0
  gmClass : Nat := 0
  gmSteps : Nat := 0
  gmTick : Option Nat := none
  gmSits : Bool := false
  claiming : Bool := false
  claimed : Bool := false
  bcnSeq : Nat := 0
  claimSeq : Nat := 0
  heard : List (Nat × (Nat × Nat)) := []
  heardClear : Bool := false
  clearTick : Option Nat := none
  taken : Bool := false
  rate : ClockRate := .oscillator
  extEdges : Nat := 0
  extValid : Bool := false
deriving DecidableEq, Repr

/-- A group's Forecast calendar (R48 to R52): the calendar in force, its replacement (R51), UNSYNC, the active entries; `restart` a step
of time stopped it until its next period boundary (R27). -/
structure FcGrp where
  cal : Cal := {}
  next : Option (Option Cal) := none
  unsync : Bool := false
  restart : Bool := false
  active : List Nat := []
deriving DecidableEq, Repr

/-- Roles of a lane (R98). -/
inductive LaneRole where
  | active
  | idleSpare
  | spareInUse
  | retired
deriving DecidableEq, Repr

/-- A lane (R98). `losArmed`: a loss of signal or lock is being timed (R78). `serRun`: consecutive windows above the symbol
error threshold. `winCorr`: corrected symbols of the last 1 ms window (R79). -/
structure Lane where
  signal : Bool := false
  lock : Bool := false
  role : LaneRole := .active
  logical : Nat := 0
  port : Option Nat := none
  losCount : Nat := 0
  losArmed : Bool := false
  serRun : Nat := 0
  winCorr : Nat := 0
deriving DecidableEq, Repr

/-- States of a port (R97). -/
inductive PortSt where
  | disabled
  | training
  | up
  | degraded
  | down
  | awaitingKey
  | sparing
deriving DecidableEq, Repr

/-- A DATA frame the transmitter keeps (R69): sequence, resends, frame, whether it went out stomped (R122). -/
structure Unacked where
  seq : Nat
  resends : Nat
  frame : Frame
  stomped : Bool := false
deriving DecidableEq, Repr

/-- Link-level replay of a port (R66 to R71). `ackDue`: DATA received since the last acknowledgement. `episodes`: replays in the
current second (R78); `ackTick` the tick in which an acknowledgement last advanced (R71). -/
structure Llr where
  initSent : Bool := false
  initRcvd : Bool := false
  txNext : Nat := 0
  unacked : List Unacked := []
  rxExpect : Nat := 0
  nakSent : Bool := false
  ackDue : Nat := 0
  episodes : Nat := 0
  ackTick : Option Nat := none
deriving DecidableEq, Repr

/-- Lane sparing in progress (R73): the failed logical lane and its physical lane, whether this end detected it, whether the
logical lane has moved to the spare and reached lock. -/
structure Sparing where
  logical : Nat
  failedLane : Nat
  detector : Bool
  moved : Bool := false
  locked : Bool := false
deriving DecidableEq, Repr

/-- A port (R97): `lanes` the physical lanes of its logical lanes in order, `mask` the logical lanes in use, `degrading` the
mask being retrained on (R81), `attempts` failed trainings, `pdelays` the last eight measurements in 1/16 ns (R90), `txBusy`
the stored frame being sent, `pauseRx` received PAUSE frames (R61), `held` DOWN until its lanes or its coat change (R81), `faultTick` the
tick of its last fault (R46). -/
structure Port where
  st : PortSt := .disabled
  lanes : List Nat := []
  mask : List Nat := []
  degrading : Bool := false
  attempts : Nat := 0
  spareInUse : Bool := false
  llr : Llr := {}
  sparing : Option Sparing := none
  pdelays : List Nat := []
  txBusy : Option Nat := none
  held : Bool := false
  pauseRx : Nat := 0
  faultTick : Option Nat := none
deriving DecidableEq, Repr

/-- MACsec of an out-of-rack port (R86, R87, R491): CAK and CKN, the installed secure association keys (at most four), whether
this end is key server, the live members, the packets sent under the newest key. -/
structure MacSec where
  cak : Option (Nat × Nat) := none
  saks : List Nat := []
  keyServer : Bool := false
  live : List Nat := []
  packets : Nat := 0
deriving DecidableEq, Repr

/-- A cage bus (R83, R84, R101): 0 unused, 1 empty, 2 present, 3 ABSENT; the module's CMIS state; retries of a transaction;
whether the module's applications are known, and the port modes they offer; the application selected, which is the port mode it
matches, and whether the module is kept at low power (R83). -/
structure Cage where
  st : Nat := 0
  modState : Nat := 0
  tries : Nat := 0
  retrying : Bool := false
  known : Bool := false
  modes : List Nat := []
  app : Option Nat := none
  lowPower : Bool := true
deriving DecidableEq, Repr

/-- Ports, lanes and links. `syncE` is the port selected as frequency reference (R92). `residences` what a two-step transparent clock adds to
the follow-up of a frame, by ingress port and sequence number (R91). `calibrated` the lanes' last full calibration, in ticks (R573). -/
structure Lnk where
  lanes : List (Nat × Lane) := []
  ports : List (Nat × Port) := []
  macsec : List (Nat × MacSec) := []
  cages : List ((Nat × Bool) × Cage) := []
  syncE : Option Nat := none
  residences : List ((Nat × Nat) × Int) := []
  calibrated : List (Nat × Nat) := []
deriving DecidableEq, Repr

/-- A frame stored once in the cell buffer (R113): `refs` copies still queued or being sent, cells drawn from the shared pool,
the headroom and the skid, the ingress account charged; `stomped` it turned bad, and leaves with a stomped FCS where it is being sent
(R114, R122); `stompCounted` a stomp of it has been counted (R130). -/
structure BufFrame where
  id : Nat
  frame : Frame
  inPort : Nat
  cls : Nat
  cells : Nat
  refs : Nat
  shared : Nat := 0
  headroom : Nat := 0
  skid : Nat := 0
  acct : Option (Nat × Nat) := none
  stomped : Bool := false
  stompCounted : Bool := false
deriving DecidableEq, Repr

/-- A queue entry: the stored frame, its VLAN rewrite (R124), the output queue it is charged to and what it took from the queue's
minimum and shared allotment (R110, R111), the tick (R141) and the slot (R144) it was enqueued in. -/
structure QEnt where
  frame : Nat
  rewrite : Option Nat := none
  port : Nat
  cls : Nat
  fromMin : Nat := 0
  fromShared : Nat := 0
  tick : Nat := 0
  slot : Nat := 0
deriving DecidableEq, Repr

/-- An output queue (R110): cells held from its minimum and its shared occupancy, the slot of its last squall. -/
structure Queue where
  minUsed : Nat := 0
  sharedUsed : Nat := 0
  depth : Nat := 0
  squallSlot : Option Nat := none
deriving DecidableEq, Repr

/-- An ingress account (R116, R117): cells in the shared pool, cells in headroom, whether this device pauses the partner. -/
structure Account where
  cells : Nat := 0
  headroom : Nat := 0
  paused : Bool := false
deriving DecidableEq, Repr

/-- The pause of an egress priority (R118, R119): paused by the partner, PFC storm, the tick of the last pause received in a storm; the
tick of the last change and what held before it (a selection of that tick still sees it). -/
structure Pause where
  paused : Bool := false
  storm : Bool := false
  rxTick : Option Nat := none
  changed : Option Nat := none
  before : Bool := false
deriving DecidableEq, Repr

/-- A learned MAC entry (R104). -/
structure Learned where
  vlan : Nat
  mac : BitVec 48
  port : Nat
deriving DecidableEq, Repr

/-- Cells that an input sent to an output and the frame they belong to (R120, R121): first sequence and count. -/
structure XRun where
  first : Nat
  cells : Nat
  frame : Nat
deriving DecidableEq, Repr

/-- The crossbar between an input and an output (R120, R121): the next 12-bit sequence, the runs of cells among the last 1,024, the count of
cells by which successive cells are spread over the planes in service, the plane that the last missing cell was sent again over. -/
structure XPair where
  next : Nat := 0
  runs : List XRun := []
  spread : Nat := 0
  resent : Option Nat := none
deriving DecidableEq, Repr

/-- The switch core. `planeLost` counts cells lost by each plane in the millisecond `planeWindow`; `xpairs` the crossbar of each (input,
output) pair (R120); `handed` how much of what the device has sent the core has taken in (R140). -/
structure Swc where
  frames : List BufFrame := []
  nextFrame : Nat := 0
  queues : List ((Nat × Nat) × Queue) := []
  sharedUsed : Nat := 0
  headroomUsed : Nat := 0
  skidUsed : Nat := 0
  accounts : List ((Nat × Nat) × Account) := []
  pauses : List ((Nat × Nat) × Pause) := []
  planeLost : List (Nat × Nat) := []
  planeWindow : Nat := 0
  xpairs : List ((Nat × Nat) × XPair) := []
  learned : List Learned := []
  aclCount : List (Nat × Nat) := []
  handed : Nat := 0
deriving DecidableEq, Repr

/-- Nodes of the scheduling trees (R139, R157): leaf and subscriber by number, a port, node k of a port (R157's second
table). -/
inductive NodeId where
  | leaf (n : Nat)
  | sub (n : Nat)
  | port (p : Nat)
  | pnode (p k : Nat)
deriving DecidableEq, Repr

/-- A node: start tag, virtual time of its children, tokens in 1/16 byte, whether it was eligible at the last look (R147); the
tick of its last refill and the tokens before it (R150). -/
structure Node where
  tag : Nat := 0
  vtime : Nat := 0
  tokens : Int := 0
  awake : Bool := false
  refilled : Option Nat := none
  before : Int := 0
deriving DecidableEq, Repr

/-- An allowance or a grant of the current slot (R143, R144): what is left; the tick it was last set in, and what was left of the one
before, which a selection of that tick still sees (R141). -/
structure Budget where
  left : Int := 0
  set : Option Nat := none
  before : Int := 0
deriving DecidableEq, Repr

/-- Schedulers and policers: leaves' queues, nodes, allowances and grants of the slot, policers' buckets (tc, tp). -/
structure Sch where
  leaves : List (NodeId × List QEnt) := []
  nodes : List (NodeId × Node) := []
  allow : List ((Nat × Nat) × Budget) := []
  grant : List (Nat × Budget) := []
  buckets : List (Nat × (Nat × Nat)) := []
deriving DecidableEq, Repr

end Sys2Proof.Machine
end

