-- ==== Sys2Proof/Machine/StateTil.lean ====
section
/-! DEFINITION. State of the matrix tiles (spec/12): program slots, invocations and their parts; and of the host cores (spec/14): roles
borrowed, service calls, resident programs. Every field has its reset value as default. -/

namespace Sys2Proof.Machine

/-- A program slot (R401): the program that serves, the one being lowered or that waits for its coat to apply; whether lowering has
ended and in which tick, and whether the coat has applied. -/
structure ProgSt where
  cur : Option ProgEnt := none
  new : Option ProgEnt := none
  lowered : Option Nat := none
  applied : Bool := false
deriving DecidableEq, Repr

/-- A LOOP or BRANCH whose body runs (R395): its op, the op after its body, the passes left; whether it is a LOOP. -/
structure LoopFr where
  op : Nat
  stop : Nat
  left : Nat
  loop : Bool
deriving DecidableEq, Repr

/-- A part of the current op (R403, R407, R409): waiting, running on a tile, or ended. -/
inductive PartSt where
  | waiting
  | running (tile : Nat)
  | ended
deriving DecidableEq, Repr

/-- An invocation (R404 to R414): its transaction and what its completion echoes; its slot, the program it started with, its
argument bases; whether step 10 has judged it; the tick it began to execute in; the current op, the bodies it is in, its parts; whether
the op's DMA is under way; the host core that runs it; its TEMP tensors as stored; the last test of a LOOP or BRANCH; what a SIEVE_TAIL delivered; HOST, RERUN; whether its
job entered frost; whether lines of its TEMP tensors were lost. -/
structure Inv where
  tx : Nat
  source : Nat
  tag : Nat
  slot : Nat
  prog : ProgEnt
  bases : List Nat
  ready : Bool := false
  started : Option Nat := none
  pc : Nat := 0
  loops : List LoopFr := []
  parts : List PartSt := []
  dma : Bool := false
  core : Option Nat := none
  temps : List (Nat × List Byte) := []
  taken : Bool := false
  items : Nat := 0
  total : Nat := 0
  host : Bool := false
  rerun : Bool := false
  fenced : Bool := false
  lost : Bool := false
deriving DecidableEq, Repr

/-- What a tile holds from part to part (R467): the world of the programs whose parts it took since it was last cleared, none while it is
clear; the invocations whose data lies in its SRAM, the program slots whose code its instruction cache holds, and the invocation and op
that its sequencer stands at; the tick from which the part it took runs. -/
structure TileSt where
  world : Option Bool := none
  sram : List Nat := []
  icache : List Nat := []
  sequencer : Option (Nat × Nat) := none
  startAt : Nat := 0
deriving DecidableEq, Repr

/-- The tiles: program slots, invocations in admission order, the tiles that have taken a part. -/
structure Til where
  progs : List (Nat × ProgSt) := []
  invs : List Inv := []
  tiles : List (Nat × TileSt) := []
deriving DecidableEq, Repr

/-- A message in a mailbox (R455): its sender's COOKIE and MESSAGE. -/
structure Mail where
  cookie : Nat
  message : List Byte
deriving DecidableEq, Repr

/-- A resident slot (R453, R456, R460): STATE, the cores that run it, CAUSE, its mailbox, DROPPED; what its zeroed memory held when the
program started, each segment of its image at its address. -/
structure Res where
  st : Nat := 0
  cores : List Nat := []
  cause : Nat := 0
  mail : List Mail := []
  dropped : Nat := 0
  memory : List (Nat × List Byte) := []
deriving DecidableEq, Repr

/-- What a host-op core holds from op to op (R449): the world of the program whose op it ran last; the invocations whose lines, translations
and vectors lie in its caches, its TLBs and its vector state. -/
structure CoreSt where
  world : Bool
  holds : List Nat
deriving DecidableEq, Repr

/-- What a resident core waits for: a pool request of its own with tag (R454), or a message (MBX_RECV). `fenced` its program stopped
meanwhile: the completion is discarded (R456). -/
inductive CoreWait where
  | request (slot home tag : Nat)
  | message (slot : Nat)
deriving DecidableEq, Repr

/-- The host cores: cores borrowed for firmware, those to be borrowed once their op ends (R452, R457), what the cores of host ops hold (R449),
what blocked cores wait for, the resident slots. -/
structure Cor where
  borrowed : List Nat := []
  lending : List Nat := []
  cores : List (Nat × CoreSt) := []
  waits : List (Nat × CoreWait) := []
  res : List (Nat × Res) := []
deriving DecidableEq, Repr

end Sys2Proof.Machine
end

