-- ==== Sys2Proof/Machine/StateTrw.lean ====
section
/-! DEFINITION. State of in-network reduction (spec/10) and of the reduce-update-broadcast pipeline and the straggler records
(spec/11). Every field has its reset value as default. -/

namespace Sys2Proof.Machine

/-- What an element means exactly: a NaN, an infinity, or (-1)^neg * m * 2^e. A zero keeps its sign. -/
inductive Num where
  | nan
  | inf (neg : Bool)
  | fin (neg : Bool) (m : Nat) (e : Int)
deriving DecidableEq, Repr

/-- A group's settings as a coat gives them (R311, R347 to R350, R376, R380 to R382); each epoch keeps those it opened under (R346,
R379). -/
structure Grp where
  id : Nat
  root : Bool := false
  exclude : Bool := false
  gauge : Nat := 0
  op : Nat := 0
  fast : Bool := false
  inF : Nat := 0
  inMx : Bool := false
  outF : Nat := 0
  partF : Nat := 0
  ce : Nat := 32
  elems : Nat := 0
  key : Key := {}
  lateUs : Nat := 100
  failMs : Nat := 100
  parent : Nat := 0
  dest : Nat := 0
  repl : Nat := 0
  mcast : Nat := 0
  resultBase : Nat := 0
  reserve : Nat := 1
  table : List ContribEnt := []
  opt : Nat := 0
  bcast : Nat := 0
  bcastMx : Bool := false
  compress : Bool := false
  tileFirst : Nat := 0
  tileCount : Nat := 0
  wBase : Nat := 0
  mBase : Nat := 0
  vBase : Nat := 0
  param : Nat := 0
  ring : Nat := 1
deriving DecidableEq, Repr

/-- An element's fast form (R324) and its wide form (R326). `span` is h and l of R325 over what the fast form holds now. -/
structure FastForm where
  acc : Int := 0
  lsb : Int := 0
  span : Option (Int × Int) := none
  spilled : Bool := false
  nan : Bool := false
  posInf : Bool := false
  negInf : Bool := false
  nonneg : Bool := false
  wide : Option Int := none
deriving DecidableEq, Repr

/-- An element's accumulator: exact SUM (R324); floating MAX and MIN; integer operations, a 128-bit two's complement number (R327);
fast mode, an FP32 number (R328). -/
inductive Acc where
  | exact (f : FastForm)
  | val (x : Num)
  | int (v : Nat)
  | f32 (w : Nat)
deriving DecidableEq, Repr

/-- A chunk in staging (R330): its elements' accumulators (none before the first contribution), the ranks added, whether it draws on
the group's reserve, its wide forms' read-back (R334: 0 not begun, 1 running, 2 done), a last contribution at the Trowel's input with
the tick it came in, whether it has everything and waits for the gradient ring (R368). -/
structure Chunk where
  idx : Nat
  accs : List Acc := []
  got : List Nat := []
  reserved : Bool := false
  readback : Nat := 0
  atInput : Option (Nat × Nat) := none
  full : Bool := false
deriving DecidableEq, Repr

/-- The parameters of an epoch of a RUB (R370): whether the epoch is skipped, and the nine FP32 scalars in their order. -/
structure RubPar where
  skip : Bool
  vals : List Nat
deriving DecidableEq, Repr

/-- An epoch that is open, or closed and not yet counted on its gauge (R319, R337): the settings it runs under, its chunks in
staging, how many have emitted, the late ranks (R341), the excluded ranks (R342), the flags of R340, the results still to be answered, made visible or
broadcast, its RUB parameters. -/
structure Epoch where
  num : Nat
  grp : Grp
  chunks : List Chunk := []
  emitted : Nat := 0
  late : List Nat := []
  excl : List Nat := []
  part : Bool := false
  aborted : Bool := false
  closed : Bool := false
  left : Nat := 0
  rub : Option RubPar := none
deriving DecidableEq, Repr

/-- A contribution that waits for its chunk (R320, R332): its transaction, rank, epoch, chunk, whether it came in a Forecast entry or
the group is opportunistic (R331). -/
structure CWait where
  tx : Nat
  source : Nat
  tag : Nat
  rank : Nat
  epoch : Nat
  chunk : Nat
  inSlot : Bool
deriving DecidableEq, Repr

/-- A chunk in the gradient ring (R368): its gradients in OUT_FORMAT; the tile and transaction that update it. -/
structure RingEnt where
  epoch : Nat
  chunk : Nat
  grads : List Byte
  tile : Option Nat := none
  tx : Option Nat := none
deriving DecidableEq, Repr

/-- A group's state: E of R319, the next chunk to allocate (R331), its epochs, entries excluded (R342) and to be restored at the next
epoch that opens (R377), LATE_RUN by rank and FLAGGED (R376), waiting contributions, the gradient ring, the epoch being updated. -/
structure GrpSt where
  e : Nat := 0
  curEpoch : Nat := 0
  curChunk : Nat := 0
  epochs : List Epoch := []
  excluded : List Nat := []
  restore : List Nat := []
  lateRun : List (Nat × Nat) := []
  flagged : List Nat := []
  wait : List CWait := []
  ring : List RingEnt := []
  rubEpoch : Nat := 0
  abortedTo : Option Nat := none
deriving DecidableEq, Repr

/-- A gauge (R337): VALUE, NEXT, EPOCH, FIRED; the FLAGS and RESULT_BYTES of the next firing and of the one after (R340). -/
structure Gauge where
  value : Nat := 0
  next : Nat := 0
  epoch : Nat := 0
  fired : Nat := 0
  flags : Nat := 0
  bytes : Nat := 0
  nextFlags : Nat := 0
  nextBytes : Nat := 0
deriving DecidableEq, Repr

/-- Reduction and gauges. -/
structure Trw where
  groups : List (Nat × GrpSt) := []
  gauges : List (Nat × Gauge) := []
  offslot : List (Nat × Nat) := []
deriving DecidableEq, Repr

end Sys2Proof.Machine
end

