-- ==== Sys2Proof/Machine/State.lean ====
section
/-! DEFINITION. The state of the block, the reasons it can stop, and the state right after power-up and reset. -/

namespace Sys2Proof.Machine

/-- A PMT message the block sends (R174, R175, R657). -/
structure PmtOut where
  opcode : Nat
  cls : Nat
  flags : Nat := 0
  source : Nat
  dest : Nat
  tag : Nat := 0
  seq : Nat := 0
  key : Key := {}
  epoch : Nat := 0
  address : Nat := 0
  payload : List Byte := []
deriving DecidableEq, Repr

/-- What crosses the Scrim bridge from this twin (R503 to R519). -/
inductive BridgeOut where
  | hello (role devid serial digest : Nat)
  | heartbeat
  | frame (f : Frame) (copies : List (Nat × Option Nat))
  | forward (opcode : Nat) (m : Msg)
  | execute (opcode : Nat) (m : Msg)
  | commit (c : Commit)
  | commitAck (id : Nat)
  | control (kind : CtlKind)
  | stream (lines : List (Nat × List Byte))
  | handback
  | almanac (time : Nat) (st : Nat)
  | gauge (index amount flags bytes : Nat)
deriving DecidableEq, Repr

/-- Output pins (R517, R626, R638, R646). -/
inductive Pin where
  | faultN
  | thermtripN
  | alertN
  | scrAlive
deriving DecidableEq, Repr

/-- What the block has sent: the model's own record of its wires, oldest first (log entry 7). `beacon`, `squall`, `pmt` and `multicast` are
what the block's own units have given the switch core, which sends each as a `frame` when a port's scheduler picks it (R140, log entry
46). -/
inductive Out where
  | beacon (port : Nat) (b : Beacon)
  | frame (port : Nat) (hdr : Option LlrHdr) (f : Frame) (stomped : Bool)
  | replayCtl (port : Nat) (onSpare : Bool) (h : LlrHdr)
  | stomp (port : Nat)
  | pfc (port : Nat) (enable : BitVec 8) (quanta : List Nat)
  | squall (v6 : Bool) (ip : Nat) (payload : List Byte)
  | pmt (m : PmtOut)
  | multicast (repl : Nat) (m : PmtOut)
  | pdelayResp (port : Nat) (seqId : BitVec 16)
  | ptp (port : Nat) (f : Ptp)
  | ptpTime (port : Nat) (kind : PtpKind) (seqId : BitVec 16) (time : Int)
  | mka (port : Nat) (f : Mka)
  | bridge (b : BridgeOut)
  | coreReturn (core status : Nat) (data : List Byte)
  | coreStart (core pc a0 : Nat)
  | mailbox (c : Cpl)
  | spdm (session : Nat) (payload : List Byte)
  | pin (p : Pin) (high : Bool)
  | msix (vector : Nat)
  | regValue (path : Path) (address value : Nat)
  | squelch
deriving DecidableEq, Repr

/-- What registers show: the parts of the state as a tick began, after every event of the tick before (R592). -/
structure Shot where
  alm : Alm
  fc : List (Nat × FcGrp)
  lnk : Lnk
  swc : Swc
  sch : Sch
  pool : Pool
  coh : Coh
  dns : Dns
  trw : Trw
  til : Til
  cor : Cor
  cfg : Cfg
  nv : Nv
  sec : Sec
  scr : Scr
  ras : Ras
  tel : Tel
  mgmt : Mgmt
  pwr : Pwr
  ctr : List ((Nat × Nat) × Nat)
  evt : List (Nat × Word)
deriving DecidableEq, Repr

/-- The state of the block. `ctr` holds the counters that wrap to zero (R594), by register address (the LO register of a pair)
and selector; `evt` the RW1C event words by register address; `out` what has been sent; `freeCtr` how many free values have
been drawn (both the model's own); `shot` what registers show in this tick, none in the tick of reset (R592; log entry 234); `pending` the
commands that wait, first in first out. -/
structure State where
  alm : Alm := {}
  fc : List (Nat × FcGrp) := []
  lnk : Lnk := {}
  swc : Swc := {}
  sch : Sch := {}
  mem : Mem := []
  pool : Pool := {}
  coh : Coh := {}
  dns : Dns := {}
  trw : Trw := {}
  til : Til := {}
  cor : Cor := {}
  cfg : Cfg := {}
  nv : Nv := {}
  sec : Sec := {}
  scr : Scr := {}
  ras : Ras := {}
  tel : Tel := {}
  mgmt : Mgmt := {}
  pwr : Pwr := {}
  ctr : List ((Nat × Nat) × Nat) := []
  evt : List (Nat × Word) := []
  out : List Out := []
  freeCtr : Nat := 0
  hooks : List Hook := []
  shot : Option Shot := none
  pending : List Instr := []
deriving DecidableEq, Repr

/-- Why the block could stop. `noSuchObject`: raised by no command (safe): a command that names an object outside the ranges of the spec
(Instr.wf fails: a port above 1,023, a tile above 79) is an event that no unit of the device takes up, and changes nothing (log entry
211). -/
inductive Fault where
  | noSuchObject
deriving DecidableEq, Repr

/-- Why a command has no meaning. `notModelled`: raised by an arm of `exec` whose command has none yet (safe). -/
inductive Refusal where
  | notModelled (mnemonic : String)
deriving DecidableEq, Repr

/-- Right after power came up, with RESET_N still low: every register, counter, log and volatile key at its reset value (R629),
nothing programmed in flash or fuses, PWR_RESET_CAUSE reading POWER_ON (R655). RESET_RELEASE starts the block (log entry 4). -/
def State.reset : State := {}

end Sys2Proof.Machine
end

