-- ==== Sys2Proof/Machine/Ops.lean ====
section
/-! DEFINITION. The named operations every meaning is built from: keyed lists, COAT fields (R7, R531), counters (R594), the
event log and the event-status registers (R596 to R598, R658), what the block sends, free values, time. -/

namespace Sys2Proof.Machine

/-! ### Keyed lists: the model's maps. A key that is not listed holds the caller's default. -/

/-- The value at a key, if listed. -/
def alGet {κ α : Type} [DecidableEq κ] (l : List (κ × α)) (k : κ) : Option α :=
  match l with
  | [] => none
  | (k', v) :: r => if k' = k then some v else alGet r k

/-- The value at a key, or a default. -/
def alGetD {κ α : Type} [DecidableEq κ] (l : List (κ × α)) (k : κ) (d : α) : α := (alGet l k).getD d

/-- The list with a key set: in place if listed, else at the end. -/
def alSet {κ α : Type} [DecidableEq κ] (l : List (κ × α)) (k : κ) (v : α) : List (κ × α) :=
  match l with
  | [] => [(k, v)]
  | (k', v') :: r => if k' = k then (k, v) :: r else (k', v') :: alSet r k v

/-- The list without a key. -/
def alErase {κ α : Type} [DecidableEq κ] (l : List (κ × α)) (k : κ) : List (κ × α) :=
  l.filter fun p => decide (p.1 ≠ k)

/-- The list with the value at a key changed, from a default if it is not listed. -/
def alMod {κ α : Type} [DecidableEq κ] (l : List (κ × α)) (k : κ) (d : α) (f : α → α) : List (κ × α) :=
  alSet l k (f (alGetD l k d))

/-- The sum of a list's values. -/
def sumBy {α : Type} (l : List α) (f : α → Nat) : Nat := l.foldl (fun n x => n + f x) 0

/-- How many elements satisfy a test. -/
def countBy {α : Type} (l : List α) (f : α → Bool) : Nat := (l.filter f).length

/-- A list without repeats of the first kind: `x` put in if it is not there. -/
def addOnce {α : Type} [DecidableEq α] (l : List α) (x : α) : List α := if x ∈ l then l else l ++ [x]

/-- A list without an element. -/
def without {α : Type} [DecidableEq α] (l : List α) (x : α) : List α := l.filter fun y => decide (y ≠ x)

/-! ### Bits and bytes -/

/-- Bits [lo + n - 1 : lo] of a word. -/
def fld (w lo n : Nat) : Nat := (w >>> lo) % 2 ^ n

/-- Bit `i` of a word. -/
def bit (w i : Nat) : Bool := w.testBit i

/-- A number's `n` low bytes, big-endian (R4). -/
def beBytes (n v : Nat) : List Byte :=
  (List.range n).map fun i => BitVec.ofNat 8 (v >>> (8 * (n - 1 - i)))

/-- The number that bytes spell, big-endian. -/
def beNat (l : List Byte) : Nat := l.foldl (fun n b => n * 256 + b.toNat) 0

/-- A number's `n` low bytes, little-endian. -/
def leBytes (n v : Nat) : List Byte := (List.range n).map fun i => BitVec.ofNat 8 (v >>> (8 * i))

/-- The number that bytes spell, little-endian. -/
def leNat (l : List Byte) : Nat := l.foldr (fun b n => b.toNat + 256 * n) 0

/-- Bytes `off` to `off + n - 1`; bytes past the end are left out. -/
def slice (l : List Byte) (off n : Nat) : List Byte := (l.drop off).take n

/-- The big-endian number in bytes `off` to `off + n - 1`. -/
def beAt (l : List Byte) (off n : Nat) : Nat := beNat (slice l off n)

/-- The little-endian number in bytes `off` to `off + n - 1`. -/
def leAt (l : List Byte) (off n : Nat) : Nat := leNat (slice l off n)

/-- A two's complement reading of an `n`-bit number. -/
def signed (n v : Nat) : Int := if v % 2 ^ n < 2 ^ (n - 1) then (v % 2 ^ n : Nat) else (v % 2 ^ n : Nat) - (2 ^ n : Nat)

/-- The `n`-bit two's complement of an integer. -/
def unsigned (n : Nat) (v : Int) : Nat := (v % (2 ^ n : Nat)).toNat

/-- The quotient rounded up. -/
def ceilDiv (a b : Nat) : Nat := (a + b - 1) / b

/-- A list cut to `n` elements, or filled to `n` with `d`. -/
def padTo {α : Type} (l : List α) (n : Nat) (d : α) : List α := (l.take n) ++ List.replicate (n - l.length) d

/-! ### COAT fields (R7, R531) -/

/-- Access codes of every register but LNK's, whose rows are those of lane 0. -/
def allRegs : List (Nat × Access) :=
  regsGlb ++ regsAlm ++ regsSwc ++ regsSch ++ regsPool ++ regsCoh ++ regsDns ++ regsTrw ++ regsGth ++ regsSiv ++ regsTil ++
    regsHbmc ++ regsSec ++ regsScr ++ regsCfg ++ regsRas ++ regsTel ++ regsPwr

/-- The LNK offset row behind an address in the LNK span (R93): its address at lane 0. -/
def lnkRow (addr : Nat) : Nat := 0x02000000 + addr % 0x1000

/-- The access code of the register at an address; none where there is no register. -/
def accessOf (addr : Nat) : Option Access :=
  if 0x02000000 ≤ addr ∧ addr < 0x04000000 then alGet regsLnk (lnkRow addr) else alGet allRegs addr

/-- The value of a register's COAT fields after reset (R531). -/
def coatReset (addr : Nat) : Nat :=
  match accessOf addr with
  | some (.coat r _) => r
  | _ => 0

/-- The COAT fields of a register in a coat's REGISTERS section: the last record that names it, masked to its fields, else the
reset value (R531). -/
def coatRegIn (regs : List RegRec) (addr sel : Nat) : Nat :=
  match accessOf addr with
  | some (.coat r m) =>
    match regs.reverse.find? (fun x => x.addr = addr ∧ x.sel = sel) with
    | some x => x.val.toNat &&& m
    | none => r
  | _ => 0

/-- The COAT fields of a register in the active coat, by address and selector. -/
def coatReg (s : State) (addr sel : Nat) : Nat :=
  match s.cfg.active with
  | some c => coatRegIn c.regs addr sel
  | none => coatReset addr

/-- A field of a COAT register of the active coat. -/
def coatFld (s : State) (addr sel lo n : Nat) : Nat := fld (coatReg s addr sel) lo n

/-- A LNK register's address in lane `n`'s space (R93). -/
def lnkAddr (base n : Nat) : Nat := base + n * 0x1000

/-- The lane in whose space a port's registers lie: its own first lane, the right twin's ports from lane 576 (R93, R509). -/
def portLane (p : Nat) : Nat := if p < 512 then p else p + 64

/-- A port register's address (R93). -/
def lnkPort (base p : Nat) : Nat := lnkAddr base (portLane p)

/-- The active coat, or the empty one. -/
def coat (s : State) : Coat := s.cfg.active.getD {}

/-! ### Time (R20, R21) -/

/-- Almanac time in ns. -/
def now (s : State) : Nat := s.alm.time

/-- The number of the current tick (R21). -/
def tickNumber (s : State) : Nat := s.alm.time / 2

/-- The next tick boundary: where time[0] is 0. A count that starts at an odd value begins partway through its tick (R21, R22). -/
def nextTick (time : Nat) : Nat := (time / 2 + 1) * 2 % two64

/-- The current slot (R21). -/
def slotNow (s : State) : Nat := s.alm.time / 1024

/-- The count of tick boundaries of Almanac time that the device has passed since its release from reset (GLB_UPTIME, R618). Two events
belong to one tick exactly when it is the same at both; a step of time moves the tick's number, time >> 1 (R21), and not this count. -/
def tickNow (s : State) : Nat := s.pwr.uptime

/-- The state under the coat that was in force when the tick began. -/
def underOld (s : State) : State :=
  match s.cfg.changed with
  | some (t, c) => if t = tickNow s then { s with cfg := { s.cfg with active := c } } else s
  | none => s

/-- A job's frost state. -/
def jobSt (s : State) (job : Nat) : Job := alGetD s.ras.jobs job {}

/-- The ticks in 24 hours, at 2 ns each. -/
def dayTicks : Nat := 43200000000000

/-! ### Counters (R594) -/

/-- The counter at a register and selector. -/
def ctrGet (s : State) (reg sel : Nat) : Nat := alGetD s.ctr (reg, sel) 0


/-- A counter plus `n`, wrapping to zero at 2^64 (R594). -/
def bumpSel (s : State) (reg sel n : Nat) : State :=
  { s with ctr := alMod s.ctr (reg, sel) 0 fun v => (v + n) % two64 }

/-- A counter that no selection governs, plus `n`. -/
def bump (s : State) (reg n : Nat) : State := bumpSel s reg 0 n

/-! ### What the block sends, and free values -/

/-- The block sends something. -/
def emit (s : State) (o : Out) : State := { s with out := s.out ++ [o] }

/-- The block sends several things, in order. -/
def emits (s : State) (l : List Out) : State := { s with out := s.out ++ l }

/-- A free value, and the state with the draw counted (log entry 6). -/
def draw (s : State) : Nat × State := (Config.freeNat s.freeCtr, { s with freeCtr := s.freeCtr + 1 })

/-- Errors that ECC corrected in a memory as it was read: each is transient and counted; how many there were is a free value (R114, R389, R556;
log entry 239). -/
def correctedIn (s : State) (reg : Nat) : State :=
  let d := draw s
  bump (bump d.2 reg d.1) Reg.rasTransientLo d.1

/-! ### Blocks, events and the log -/

/-- The base addresses of the blocks in the order of SEC_BLOCK_WORLD (R500, R607), with the end of each span. -/
def blockSpans : List (Nat × Nat) :=
  [(0x00000000, 0x01000000), (0x01000000, 0x02000000), (0x02000000, 0x04000000), (0x04000000, 0x05000000),
   (0x05000000, 0x06000000), (0x06000000, 0x07000000), (0x07000000, 0x08000000), (0x08000000, 0x09000000),
   (0x09000000, 0x0A000000), (0x0A000000, 0x0A800000), (0x0A800000, 0x0B000000), (0x0B000000, 0x0C000000),
   (0x0C000000, 0x0D000000), (0x0D000000, 0x0E000000), (0x0E000000, 0x0F000000), (0x0F000000, 0x10000000),
   (0x10000000, 0x11000000), (0x11000000, 0x12000000), (0x12000000, 0x13000000)]

/-- The block whose span holds an address: its index in the order of SEC_BLOCK_WORLD. -/
def blockOf (addr : Nat) : Option Nat :=
  blockSpans.findIdx? fun p => p.1 ≤ addr ∧ addr < p.2

/-- A value of DETAIL in its whole-byte width, saturated (R658). -/
def det (width v : Nat) : List Byte := beBytes width (min v (2 ^ (8 * width) - 1))

/-- The unit index of an entry whose rule names none (R598). -/
def noUnit : Nat := 0xFFFFFFFF

/-- Whether an entry has a given block, code and unit and was written in the current Almanac slot (R597). -/
def sameEvent (s : State) (block code unit : Nat) (e : LogEntry) : Bool :=
  e.block == block && e.code == code && e.unit == unit && e.time / 1024 == slotNow s

/-- The number of log entries of R596. -/
def logSize : Nat := 65536

/-- Writes an entry, or adds to the REPEAT of the entry of the same event in this slot (R596, R597); a full log loses its oldest
entry, counted in TEL_LOG_OVERFLOW. -/
def writeLog (s : State) (block cls code unit : Nat) (detail : List Byte) : State :=
  if s.tel.log.any (sameEvent s block code unit) then
    let log := s.tel.log.map (fun e => if sameEvent s block code unit e then { e with rept := min (e.rept + 1) 65535 } else e)
    { s with tel := { s.tel with log := log } }
  else
    let e : LogEntry := { time := now s, block, cls, code, seq := s.tel.next, unit, rept := 0, detail }
    let full := logSize ≤ s.tel.log.length
    let kept := if full then s.tel.log.drop 1 else s.tel.log
    let s := if full then bump s Reg.telLogOverflowLo 1 else s
    { s with tel := { s.tel with log := kept ++ [e], next := (s.tel.next + 1) % two32 } }

/-- Whether any event-status register of a block has a bit set (R621). -/
def blockPending (s : State) (block : Nat) : Bool :=
  s.evt.any fun p => decide (blockOf p.1 = some block) && decide (p.2 ≠ 0)

/-- Sets a bit of an event-status register; a block's first pending bit fires its MSI-X vector where the PCIe endpoint is enabled (R644), and a PWR event asserts
ALERT_N (R646). -/
def setEvt (s : State) (reg bitNo : Nat) : State :=
  let b := (blockOf reg).getD 0
  let fire := !blockPending s b
  let s := { s with evt := alMod s.evt reg 0 fun w => w ||| BitVec.ofNat 32 (2 ^ bitNo) }
  let s := if fire && s.mgmt.pcieUp then emit s (.msix b) else s
  if fire ∧ b = 18 then emit s (.pin .alertN false) else s

/-- Logs an event; the first entry overwritten raises LOG_WRAPPED, itself logged (R596, R606). -/
def logEvent (s : State) (block cls code unit : Nat) (detail : List Byte) : State :=
  let before := ctrGet s Reg.telLogOverflowLo 0
  let s := writeLog s block cls code unit detail
  if !s.tel.wrapped && ctrGet s Reg.telLogOverflowLo 0 != before then
    let s := setEvt { s with tel := { s.tel with wrapped := true } } Reg.telEventStatus 0
    writeLog s 17 cls 0 noUnit []
  else s

/-- Raises an event: its bit is set and it is logged with CODE its bit number (R598), of event class `cls` (R43), for `unit`,
with `detail`. -/
def raise (s : State) (reg bitNo cls unit : Nat) (detail : List Byte) : State :=
  logEvent (setEvt s reg bitNo) ((blockOf reg).getD 0) cls bitNo unit detail

/-- Whether an event bit is set. -/
def evtBit (s : State) (reg bitNo : Nat) : Bool := (alGetD s.evt reg 0).toNat.testBit bitNo

end Sys2Proof.Machine
end

