-- ==== Sys2Proof/Machine/Ports.lean ====
section
/-! DEFINITION. Port groups, modes, lanes and ports (spec/03 R58 to R65): which ports exist, over which lanes, in which state. A
port or lane that nothing has changed since the coat was loaded is not listed in the state and reads as its default. -/

namespace Sys2Proof.Machine

/-- The first port of this device: 0, or 512 for the right twin (R509). -/
def basePort (s : State) : Nat := if s.scr.role = 2 then 512 else 0

/-- The first lane of this device: 0, or 576 for the right twin (R509). -/
def baseLane (s : State) : Nat := if s.scr.role = 2 then 576 else 0

/-- Whether a port number lies on this device. -/
def portHere (s : State) (p : Nat) : Bool := basePort s ≤ p && p < basePort s + 512

/-- The group of a port on its device (R58). -/
def groupOf (p : Nat) : Nat := p % 512 / 8

/-- LNK_GRP_CFG.MODE of the group of a port (R94). -/
def modeOf (s : State) (p : Nat) : Nat := coatFld s (lnkPort Reg.lnkGrpCfg (p / 8 * 8)) 0 0 2

/-- Lanes per port of a mode (R59). -/
def lanesOfMode (mode : Nat) : Nat := 8 / 2 ^ mode

/-- How many port numbers there are: 512, and 1,024 in twin mode (R60, R509). -/
def portCount (s : State) : Nat := if s.scr.role = 0 then 512 else 1024

/-- Whether the group's mode puts a port behind a port number (R59, R60). -/
def portExists (s : State) (p : Nat) : Bool := p < portCount s && p % lanesOfMode (modeOf s p) == 0

/-- The lanes of a port at full width, logical lane 0 first (R59). -/
def fullLanes (s : State) (p : Nat) : List Nat :=
  (List.range (lanesOfMode (modeOf s p))).map fun i => portLane p + i

/-- A port that nothing has changed since reset or since its coat was loaded: DISABLED where the mode puts none, DOWN with no lane in
use until a boot coat is loaded (R590; R97's reset values), DOWN on a HELD twin, else TRAINING (R60, R517, R534). -/
def defaultPort (s : State) (p : Nat) : Port :=
  if portExists s p then
    if s.cfg.forwarding then
      { st := if s.scr.st = .held then .down else .training, lanes := fullLanes s p, mask := List.range (lanesOfMode (modeOf s p)) }
    else { st := .down }
  else {}

/-- A port. -/
def portOf (s : State) (p : Nat) : Port := alGetD s.lnk.ports p (defaultPort s p)

/-- A port changed. -/
def setPort (s : State) (p : Nat) (f : Port → Port) : State :=
  { s with lnk := { s.lnk with ports := alSet s.lnk.ports p (f (portOf s p)) } }

/-- Whether a lane number of the pair is a spare lane (R58). -/
def isSpareLane (n : Nat) : Bool := 512 ≤ n % 576

/-- The port that a lane serves at full width: the last port of its group at or below it (R59). -/
def laneHomePort (s : State) (n : Nat) : Nat :=
  let p := if n < 576 then n else n - 64
  p / lanesOfMode (modeOf s p) * lanesOfMode (modeOf s p)

/-- A lane that nothing has changed: it serves nothing until a boot coat is loaded (R98's reset values); then an active lane serves its
port and a spare lane is idle. -/
def defaultLane (s : State) (n : Nat) : Lane :=
  if !s.cfg.forwarding then {}
  else if isSpareLane n then { role := .idleSpare }
  else
    let p := laneHomePort s n
    { role := .active, logical := n - portLane p, port := some p }

/-- A lane. -/
def laneOf (s : State) (n : Nat) : Lane := alGetD s.lnk.lanes n (defaultLane s n)

/-- A lane changed. -/
def setLane (s : State) (n : Nat) (f : Lane → Lane) : State :=
  { s with lnk := { s.lnk with lanes := alSet s.lnk.lanes n (f (laneOf s n)) } }

/-- The spare lane of a port's group: the one built as spare, or a repaired lane that became the idle spare (R58, R77). -/
def groupSpare (s : State) (p : Nat) : Nat :=
  let own := (if p < 512 then 512 else 1088) + groupOf p
  ((own :: (List.range 8).map fun i => portLane (p / 8 * 8) + i).find? fun n => (laneOf s n).role == .idleSpare).getD own

/-- LNK_PORT_CFG.KIND: 0 Ethernet, 1 Scanan, 2 tray (R64, R96). -/
def portKind (s : State) (p : Nat) : Nat := coatFld s (lnkPort Reg.lnkPortCfg p) 0 0 2

/-- Whether a port runs link-level replay (R64). -/
def hasLlr (s : State) (p : Nat) : Bool := portKind s p == 1 || portKind s p == 2

/-- LNK_PORT_CFG.OUT_OF_RACK (R96). -/
def outOfRack (s : State) (p : Nat) : Bool := bit (coatReg s (lnkPort Reg.lnkPortCfg p) 0) 2

/-- Whether a port carries traffic: UP, or up at reduced width (R97). -/
def portUp (s : State) (p : Nat) : Bool := (portOf s p).st == .up || (portOf s p).st == .degraded

/-- Lanes in use, the measure of a port's speed (R81). -/
def portWidth (s : State) (p : Nat) : Nat := (portOf s p).mask.length

/-- A port's slot bytes at its present width (R143). -/
def slotBytes (s : State) (p : Nat) : Nat := 25600 * portWidth s p

/-- The port whose heard rank is the best: the lowest, and among equals the lowest port number (R29). -/
def bestHeard (l : List (Nat × (Nat × Nat))) : Option Nat :=
  (l.foldl (fun (m : Option (Nat × Nat)) x => match m with
    | none => some (x.1, x.2.1)
    | some y => if x.2.1 < y.2 ∨ (x.2.1 = y.2 ∧ x.1 < y.1) then some (x.1, x.2.1) else some y) none).map Prod.fst

/-- A port shows no beacons any more: it is no longer the upstream port (R29; log entry 212). -/
def almPortLost (s : State) (p : Nat) : State :=
  if (alGet s.alm.heard p).isNone then s
  else
    let heard := alErase s.alm.heard p
    { s with alm := { s.alm with heard, upPort := bestHeard heard } }

/-! ### Forecast calendars (R48 to R51) -/

/-- START of a calendar entry (R49). -/
def calStart (e : DWord) : Nat := fld e.toNat 44 20

/-- LENGTH of a calendar entry: 0 means 256 (R49). -/
def calLength (e : DWord) : Nat := if fld e.toNat 36 8 = 0 then 256 else fld e.toNat 36 8

/-- Where slot `slot` lies in the period of a calendar: (s - anchor) mod P in 54-bit slot arithmetic (R48; log entry 221). -/
def calPhase (c : Cal) (slot : Nat) : Nat := ((slot + 2 ^ 54 - c.anchor % 2 ^ 54) % 2 ^ 54) % c.period

/-- Whether entry `i` of a calendar is active in a slot (R48). -/
def inForce (c : Cal) (i slot : Nat) : Bool :=
  match c.entries[i]? with
  | some e => calStart e ≤ calPhase c slot && calPhase c slot < calStart e + calLength e
  | none => false

/-- Whether a slot is the first of a period of a calendar (R51); a group without one has no period to wait for. -/
def atBoundary (c : Cal) (slot : Nat) : Bool := c.period == 0 || calPhase c slot == 0

/-- Whether a port owns its group's spare lane: SPARE_WIRED, and SPARE_PORT names it (R65). -/
def ownsSpare (s : State) (p : Nat) : Bool :=
  let w := coatReg s (lnkPort Reg.lnkGrpCfg (p / 8 * 8)) 0
  bit w 2 && fld w 3 3 == p % 8 && hasLlr s p

end Sys2Proof.Machine
end

