-- ==== Sys2Proof/Machine/Units.lean ====
section
/-! DEFINITION. Units and their service states (spec/17 R547, R554), the directory record in flash (R528), and what every fault
and every retirement does (spec/18 R556 to R561). -/

namespace Sys2Proof.Machine

/-! ### Units -/

/-- A unit's state. -/
def unitOf (s : State) (kind index : Nat) : UnitSt := alGetD s.cfg.units (kind, index) {}

/-- A unit changed. -/
def setUnit (s : State) (kind index : Nat) (f : UnitSt → UnitSt) : State :=
  { s with cfg := { s.cfg with units := alSet s.cfg.units (kind, index) (f (unitOf s kind index)) } }

/-- Whether a unit serves: neither sheeted, nor under self-test, nor retired. -/
def inService (s : State) (kind index : Nat) : Bool := (unitOf s kind index).st == 0

/-! ### The directory -/

/-- The number of units of each kind of R547, in its order. -/
def unitCounts : List Nat := [1152, 1024, 80, 64, 16, 16, 8, 16, 48, 20, 4, 8]

/-- The bit of SHEET_MAP for a unit: the order of R547's table, host cores counted from core 4. -/
def sheetBit (kind index : Nat) : Nat :=
  (unitCounts.take kind).foldl (· + ·) 0 + if kind = 9 then index - 4 else index

/-- STATE of a slot as its byte of the directory spells it (R528). -/
def slotCode : SlotSt → Nat
  | .empty => 0
  | .staged => 1
  | .valid => 2
  | .bad => 3

/-- SHEET_MAP's 512 bytes, bit n of the map in byte n / 8 at bit n mod 8. -/
def sheetBytes (m : List Nat) : List Byte :=
  (List.range 512).map fun i =>
    BitVec.ofNat 8 ((List.range 8).foldl (fun b j => if m.contains (8 * i + j) then b + 2 ^ j else b) 0)

/-- Bytes 0 to 4,047 of a directory copy (R528). -/
def dirBytes (d : Directory) : List Byte :=
  beBytes 8 0x434F415444495231 ++ beBytes 8 d.seq ++ beBytes 4 d.highWater ++ beBytes 1 d.active ++
    beBytes 1 (d.previous.getD 0xFF) ++ beBytes 1 d.tries ++ [0] ++
    (padTo d.slots 4 {}).flatMap (fun x => beBytes 1 (slotCode x.st) ++ [0, 0, 0] ++ beBytes 4 x.offset ++ beBytes 4 x.extent ++
      beBytes 4 x.top) ++
    sheetBytes d.sheetMap ++ List.replicate 3448 0

/-- Whether a directory copy's MAC verifies under the NVM key (R528, R529). -/
def dirValid (s : State) (d : Directory) : Bool := d.mac == Config.hmac384 s.sec.nvmKey (dirBytes d)

/-- The directory written anew: the older copy is replaced under the next SEQ (R528). -/
def writeDir (s : State) (f : Directory → Directory) : State :=
  let d := f s.cfg.dir
  let d := { d with seq := s.cfg.dir.seq + 1 }
  let d := { d with mac := Config.hmac384 s.sec.nvmKey (dirBytes d) }
  { s with cfg := { s.cfg with dir := d }, nv := { s.nv with dirs := (s.nv.dirs ++ [d]).drop (s.nv.dirs.length - 1) } }

/-- A unit's SHEET_MAP bit set or cleared, and the map rewritten (R548, R560). -/
def sheetMark (s : State) (kind index : Nat) (on : Bool) : State :=
  let b := sheetBit kind index
  writeDir s fun d => { d with sheetMap := if on then addOnce d.sheetMap b else without d.sheetMap b }

/-! ### Faults -/

/-- A transient fault: counted, and nothing else (R556). -/
def transientFault (s : State) : State := bump s Reg.rasTransientLo 1

/-- A permanent fault, counted in the tick the budget runs out (R556). -/
def permanentFault (s : State) : State := bump s Reg.rasPermanentLo 1

/-- RETIRED: logged with kind, index and cause (R560). The manual numbers no causes: the cause byte is a free value (log entry
21). -/
def logRetired (s : State) (kind index unit : Nat) : State :=
  let d := draw s
  raise d.2 Reg.rasEventStatus 1 2 unit (det 1 kind ++ det 4 index ++ beBytes 1 (d.1 % 256))

/-- A unit of a kind of R547 retired: out of service for good, marked in SHEET_MAP with REASON REPLACE (R560). -/
def retireUnit (s : State) (kind index : Nat) : State :=
  let s := setUnit s kind index fun u => { u with st := 3, reason := 2, returning := false, wanted := false }
  logRetired (sheetMark s kind index true) kind index index

/-- A location that the retirement fuse bank records (R560); a full bank raises FUSE_FULL and the location is retired until
reset only (R561). Its kind byte in the log is a free value (log entry 21). -/
def retireLocation (s : State) (kind : BankKind) (index : Nat) : State :=
  let s := if s.nv.retired.length < 2048 then { s with nv := { s.nv with retired := s.nv.retired ++ [(kind, index)] } }
    else { s with ras := { s.ras with lost := addOnce s.ras.lost (kind, index) } }
  let d := draw s
  let s := logRetired d.2 (d.1 % 256) index index
  if 2048 ≤ s.nv.retired.length ∧ s.ras.fuseFull = false then
    raise { s with ras := { s.ras with fuseFull := true } } Reg.rasEventStatus 7 2 noUnit []
  else s

/-- Whether a location of the fuse bank's kinds no longer serves. -/
def locationRetired (s : State) (kind : BankKind) (index : Nat) : Bool :=
  s.nv.retired.contains (kind, index) || s.ras.lost.contains (kind, index)

end Sys2Proof.Machine
end

