-- ==== Sys2Proof/Machine/Parse.lean ====
section
/-! DEFINITION. What the parser reads of a frame (spec/04 R102, R108), and the fields that flows are hashed by (R106). -/

namespace Sys2Proof.Machine

open Sys2Proof

/-! ### Parsing (R102, R108) -/

/-- PMT_UDP_PORT. -/
def pmtUdpPort (s : State) : Nat := coatFld s Reg.swcPmtCfg 0 0 16

/-- SQUALL_UDP_PORT. -/
def squallUdpPort (s : State) : Nat := coatFld s Reg.swcPmtCfg 0 16 16

/-- Whether a frame's UDP destination port is a given one. -/
def udpTo (f : Frame) (port : Nat) : Bool :=
  match f.ip with
  | some i => i.proto == 17 && i.dport.toNat == port
  | none => false

/-- The PMT message of a frame on the PMT UDP port; a datagram too short for a PMT header is ordinary traffic (R108). -/
def pmtOf (s : State) (f : Frame) : Option PmtFrame := if udpTo f (pmtUdpPort s) then f.pmt else none

/-- Whether the frame's IP destination is one of the device's own endpoint addresses (R108). -/
def toOwnIp (s : State) (f : Frame) : Bool :=
  match f.ip with
  | some i => (coat s).switch.ownIps.contains i.dst
  | none => false

/-- The ingress VLAN: the outer tag's, or the port's own; 1 where the coat gives none (log entry 44). -/
def ingressVlan (s : State) (p : Nat) (f : Frame) : Nat :=
  let pvid := ((coat s).switch.pvids.lookup p).getD 1
  match f.tag with
  | some t => if t.vid = 0 then pvid else t.vid.toNat
  | none => pvid

/-- A VLAN of the coat. -/
def vlanOf (s : State) (v : Nat) : Option Vlan := (coat s).switch.vlans.find? fun x => x.vid == v

/-- Whether an IP address is multicast. -/
def ipMulticast (i : Ip) (a : Nat) : Bool := if i.v6 then a >>> 120 == 0xFF else a >>> 28 == 0xE

/-- A frame's bytes from its destination address to the end of what it carries, as far as the parser tells them apart: what MACsec's ICV
covers with the SecTAG (R86). -/
def wireBytes (f : Frame) : List Byte :=
  beBytes 6 f.dst.toNat ++ beBytes 6 f.src.toNat ++ ((f.tag.map fun t => beBytes 2 t.vid.toNat).getD []) ++ beBytes 2 f.etherType.toNat ++ f.body

/-! ### Flows (R106) -/

/-- The numbers the member-set hash covers (R106). -/
def hashFields (s : State) (v : Nat) (f : Frame) : List Nat :=
  match pmtOf s f, f.ip with
  | some m, _ => [m.msg.source.toNat, m.msg.dest.toNat]
  | none, some i => [i.src, i.dst, i.proto.toNat, i.sport.toNat, i.dport.toNat]
  | none, none => [f.src.toNat, f.dst.toNat, v]

end Sys2Proof.Machine
end

