-- ==== Sys2Proof/Machine/Buffers.lean ====
section
/-! DEFINITION. The cell buffer (spec/04 R109 to R117): queues, ingress accounts, where a frame's cells come from and how they
return, priority pauses, and the drop of a port's queued frames (spec/03 R82). -/

namespace Sys2Proof.Machine

open Sys2Proof

/-- The cells a frame occupies (R109). -/
def cellsOf (len : Nat) : Nat := ceilDiv len 256

/-- The selector of a queue: PORT [9:0], CLASS [13:10] (R132). -/
def qSel (port cls : Nat) : Nat := cls * 1024 + port

/-- SHARED_CELLS (R109, R130). -/
def sharedCells (s : State) : Nat := coatFld s Reg.swcPoolCfg 0 0 20

/-- F, the free cells of the shared pool (R110). -/
def sharedFree (s : State) : Nat := sharedCells s - s.swc.sharedUsed

/-- The free cells of the headroom pool (R109, R117). -/
def headroomFree (s : State) : Nat := coatFld s Reg.swcHrCfg 0 0 20 - s.swc.headroomUsed

/-- A queue's state. -/
def queueOf (s : State) (port cls : Nat) : Queue := alGetD s.swc.queues (port, cls) {}

/-- A queue changed. -/
def setQueue (s : State) (port cls : Nat) (f : Queue → Queue) : State :=
  { s with swc := { s.swc with queues := alSet s.swc.queues (port, cls) (f (queueOf s port cls)) } }

/-- The free part of a queue's guaranteed minimum (R110). -/
def minFree (s : State) (port cls : Nat) : Nat :=
  coatFld s Reg.swcQCfg (qSel port cls) 0 16 - (queueOf s port cls).minUsed

/-- Whether a queue's shared occupancy is below its threshold: Q < 2^(ALPHA_EXP - 6) x F (R110). -/
def belowThreshold (s : State) (port cls : Nat) : Bool :=
  (queueOf s port cls).sharedUsed * 64 < 2 ^ coatFld s Reg.swcQCfg (qSel port cls) 16 4 * sharedFree s

/-- An ingress account. -/
def accountOf (s : State) (port prio : Nat) : Account := alGetD s.swc.accounts (port, prio) {}

/-- An ingress account changed. -/
def setAccount (s : State) (port prio : Nat) (f : Account → Account) : State :=
  { s with swc := { s.swc with accounts := alSet s.swc.accounts (port, prio) (f (accountOf s port prio)) } }

/-- PFC_EN of a priority of a port (R115, R135). -/
def pfcEnabled (s : State) (port prio : Nat) : Bool := bit (coatReg s Reg.swcPortPfc port) prio

/-- Whether an ordinary class is lossless between two ports: its queue is marked LOSSLESS, or its priority has PFC enabled on either
port (R115, R133). -/
def losslessAt (s : State) (inPort port cls : Nat) : Bool :=
  cls < 8 && (bit (coatReg s Reg.swcQCfg (qSel port cls)) 20 || pfcEnabled s inPort cls || pfcEnabled s port cls)

/-- Whether the coat's priority map sends a priority to a privileged class only (R115). -/
def privilegedOnly (s : State) (prio : Nat) : Bool := ((coat s).switch.pcpMap.lookup prio).any fun c => 8 ≤ c

/-- A PFC frame for one priority is placed on a port's wire (R116). -/
def sendPfc (s : State) (port prio quanta : Nat) : State :=
  let s := emit s (.pfc port (BitVec.ofNat 8 (2 ^ prio)) ((List.range 8).map fun i => if i = prio then quanta else 0))
  bumpSel s Reg.swcPfcTxLo port 1

/-- 2^XOFF_ALPHA_EXP x F, the account limit XOFF in 1/64 cell (R116). -/
def xoff64 (s : State) (port : Nat) : Nat := 2 ^ coatFld s Reg.swcPortPfc port 9 4 * sharedFree s

/-- An account that has reached XOFF pauses its partner, one that has fallen below XON releases it (R116). -/
def judgeAccount (s : State) (port prio : Nat) : State :=
  let a := accountOf s port prio
  if !a.paused && pfcEnabled s port prio && xoff64 s port ≤ a.cells * 64 then
    sendPfc (setAccount s port prio fun a => { a with paused := true }) port prio 0xFFFF
  else if a.paused && (a.cells + 72) * 64 < xoff64 s port then
    sendPfc (setAccount s port prio fun a => { a with paused := false }) port prio 0
  else s

/-- Every account judged against XOFF and XON. -/
def judgeAccounts (s : State) : State := s.swc.accounts.foldl (fun s a => judgeAccount s a.1.1 a.1.2) s

/-! ### Stored frames -/

/-- A stored frame by its number. -/
def bufFrame (s : State) (id : Nat) : Option BufFrame := s.swc.frames.find? fun f => f.id == id

/-- A stored frame changed. -/
def setBufFrame (s : State) (id : Nat) (f : BufFrame → BufFrame) : State :=
  { s with swc := { s.swc with frames := s.swc.frames.map fun x => if x.id = id then f x else x } }

/-- The last copy of a stored frame has left: its cells return to the pools and to its ingress account (R113, R116). -/
def freeFrame (s : State) (b : BufFrame) : State :=
  let s := { s with swc := { s.swc with frames := s.swc.frames.filter (fun f => f.id != b.id), sharedUsed := s.swc.sharedUsed - b.shared,
                                        headroomUsed := s.swc.headroomUsed - b.headroom, skidUsed := s.swc.skidUsed - b.skid } }
  let s := match b.acct with
    | some (p, q) => setAccount s p q fun a => { a with cells := a.cells - b.shared, headroom := a.headroom - b.headroom }
    | none => s
  judgeAccounts s

/-- One copy of a stored frame less. -/
def releaseFrame (s : State) (id : Nat) : State :=
  match bufFrame s id with
  | none => s
  | some b => if b.refs ≤ 1 then freeFrame s b else setBufFrame s id fun b => { b with refs := b.refs - 1 }

/-- A copy leaves its queue: the queue's charges end (R110). -/
def dequeued (s : State) (e : QEnt) : State :=
  let cells := ((bufFrame s e.frame).map BufFrame.cells).getD 0
  setQueue s e.port e.cls fun q =>
    { q with minUsed := q.minUsed - e.fromMin, sharedUsed := q.sharedUsed - e.fromShared, depth := q.depth - cells }

/-- Takes the queued copies that satisfy a test out of every leaf; the copies, and the state with them gone from the queues but
still stored. -/
def takeQueued (s : State) (f : QEnt → Bool) : List QEnt × State :=
  let taken := s.sch.leaves.flatMap fun l => l.2.filter f
  (taken, taken.foldl dequeued { s with sch := { s.sch with leaves := s.sch.leaves.map fun l => (l.1, l.2.filter fun e => !f e) } })

/-! ### Squalls (R127, R128) -/

/-- KMAX of a queue, in cells (R134). -/
def kmaxCells (s : State) (p c : Nat) : Nat := 64 * coatFld s Reg.swcQEcn (qSel p c) 12 12

/-- Whether a frame's source may be sent a squall (R127). -/
def squallSource (s : State) (f : Frame) (c : Nat) : Option Ip :=
  match f.ip with
  | none => none
  | some i =>
    if ipMulticast i i.src || i.src == 0 || (!i.v6 && i.src == 0xFFFFFFFF) || (coat s).switch.ownIps.contains i.src ||
        i.src == (coat s).switch.mgmtIp || udpTo f (squallUdpPort s) || c == 8 then none
    else some i

/-- The 32 bytes of a squall (R128). -/
def squallBytes (s : State) (p c kind v : Nat) (f : Frame) : List Byte :=
  let m := pmtOf s f
  let flow := match m with
    | some m => m.msg.dest.toNat
    | none => Config.flowHash (hashFields s v f)
  let tail := match m with
    | some m => [1] ++ beBytes 3 flow ++ beBytes 2 m.msg.job.toNat ++ beBytes 2 m.msg.wt.toNat
    | none => [0] ++ beBytes 3 flow ++ [0, 0, 0, 0]
  beBytes 1 (16 + kind) ++ beBytes 1 c ++ beBytes 2 p ++ beBytes 4 (queueOf s p c).depth ++ beBytes 4 (kmaxCells s p c) ++
    beBytes 8 (now s) ++ tail ++ [0, 0, 0, 0]

/-- A queue raises a squall for a frame, at most one per Almanac slot (R127). -/
def squall (s : State) (p c kind v : Nat) (f : Frame) : State :=
  if bit (coatReg s Reg.swcQCfg (qSel p c)) 22 && (queueOf s p c).squallSlot != some (slotNow s) then
    match squallSource s f c with
    | none => s
    | some i =>
      let s := bump (emit s (.squall i.v6 i.src (squallBytes s p c kind v f))) Reg.swcSquallTxLo 1
      setQueue s p c fun q => { q with squallSlot := some (slotNow s) }
  else s

/-- Copies taken out of their queues are dropped: each raises its queue's squall (R127), and its frame has one copy less. -/
def dropCopies (s : State) (l : List QEnt) : State :=
  l.foldl (fun s e =>
    match bufFrame s e.frame with
    | some b => releaseFrame (squall s e.port e.cls 1 (ingressVlan s b.inPort b.frame) b.frame) e.frame
    | none => s) s

/-- The copies queued to a port are dropped and counted in LNK_PORT_DROP (R82); the frame being sent is cut off. -/
def flushPort (s : State) (p : Nat) : State :=
  let t := takeQueued s fun e => e.port == p
  let s := dropCopies t.2 t.1
  let s := bump s (lnkPort Reg.lnkPortDropLo p) t.1.length
  match (portOf s p).txBusy with
  | none => s
  | some id => releaseFrame (setPort s p fun q => { q with txBusy := none }) id

/-! ### Pauses of egress priorities (R118, R119) -/

/-- The pause of a priority. -/
def pauseOf (s : State) (port prio : Nat) : Pause := alGetD s.swc.pauses (port, prio) {}

/-- A pause changed. -/
def setPause (s : State) (port prio : Nat) (f : Pause → Pause) : State :=
  { s with swc := { s.swc with pauses := alSet s.swc.pauses (port, prio) (f (pauseOf s port prio)) } }

/-- A priority begins or ends being paused, from the next tick (R118). -/
def setPaused (s : State) (port prio : Nat) (on : Bool) : State :=
  setPause s port prio fun x =>
    { x with paused := on, before := if x.changed = some (tickNow s) then x.before else x.paused, changed := some (tickNow s) }

/-- Whether a selection of this tick sees the priority paused (R118, R141). -/
def pausedFor (s : State) (port prio : Nat) : Bool :=
  let x := pauseOf s port prio
  if x.changed = some (tickNow s) then x.before else x.paused

end Sys2Proof.Machine
end

