-- ==== Sys2Proof/Machine/Tree.lean ====
section
/-! DEFINITION. The scheduling tree of an output port (spec/05 R139 to R149): its nodes, which are eligible, how a child wakes, how
a child is chosen and charged. -/

namespace Sys2Proof.Machine

/-- The selector of a node in SCH_SEL (R157). -/
def nodeSel : NodeId → Nat
  | .leaf n => n
  | .sub n => 0x10000 + n
  | .port p => 0x20000 + p
  | .pnode p k => 0x30000 + p + 1024 * k

/-- A node's state. -/
def nodeOf (s : State) (n : NodeId) : Node := alGetD s.sch.nodes n {}

/-- A node changed. -/
def setNode (s : State) (n : NodeId) (f : Node → Node) : State :=
  { s with sch := { s.sch with nodes := alSet s.sch.nodes n (f (nodeOf s n)) } }

/-- A number put into an ascending list without repeats. -/
def insertNat (x : Nat) : List Nat → List Nat
  | [] => [x]
  | y :: r => if x < y then x :: y :: r else if x = y then y :: r else y :: insertNat x r

/-- The subscriber numbers that the coat's SCH_NODE_CFG records name; there are 8,192 subscribers (R139). -/
def subRecords (s : State) : List Nat :=
  (coat s).regs.foldl (fun l r => if r.addr = Reg.schNodeCfg ∧ r.sel / 65536 = 1 ∧ r.sel % 65536 < 8192 then insertNat (r.sel % 65536) l else l) []

/-- SCH_NODE_CFG of a node (R158). -/
def nodeCfg (s : State) (n : NodeId) : Nat := coatReg s Reg.schNodeCfg (nodeSel n)

/-- The subscribers in use on a port, in ascending order (R139, R158). -/
def subsOf (s : State) (p : Nat) : List Nat :=
  (subRecords s).filter fun n =>
    let w := nodeCfg s (.sub n)
    bit w 9 && bit w 20 && fld w 10 10 == p

/-- Subscriber nodes in use on the device (SCH_SUB_USED). -/
def subsUsed (s : State) : Nat := countBy (subRecords s) fun n => bit (nodeCfg s (.sub n)) 9

/-- The frames of a leaf, oldest first. -/
def leafOf (s : State) (n : NodeId) : List QEnt := alGetD s.sch.leaves n []

/-- A leaf's frames changed. -/
def setLeaf (s : State) (n : NodeId) (l : List QEnt) : State :=
  { s with sch := { s.sch with leaves := alSet s.sch.leaves n l } }

/-- Whether a leaf's head was enqueued in an earlier tick (R141). -/
def backlogged (s : State) (n : NodeId) : Bool :=
  match leafOf s n with
  | [] => false
  | e :: _ => e.tick != tickNow s

/-- The tokens a selection of this tick sees: those before a refill of this tick (R150). -/
def tokensSeen (s : State) (n : NodeId) : Int :=
  let x := nodeOf s n
  if x.refilled = some (tickNow s) then x.before else x.tokens

/-- Held by its shaper (R149). -/
def shaped (s : State) (n : NodeId) : Bool := bit (nodeCfg s n) 8 && tokensSeen s n ≤ 0

/-- A leaf of port `p` and class `c` is eligible (R146). -/
def leafEligible (s : State) (p c : Nat) (n : NodeId) : Bool :=
  backlogged s n && !shaped s n && !(c < 8 && pausedFor s p c)

/-- The leaves of a subscriber, service 0 first, with their numbers. -/
def subLeaves (n : Nat) : List (Nat × NodeId) := (List.range 8).map fun i => (i, .leaf (8 * n + i))

/-- The leaves of a port's default subscriber (R157). -/
def defLeaves (p : Nat) : List (Nat × NodeId) := (List.range 8).map fun i => (i, .pnode p (1 + i))

/-- What a selection of this tick sees of a budget: what was left before it was set in this tick (R141). -/
def budgetSeen (s : State) (b : Budget) : Int := if b.set = some (tickNow s) then b.before else b.left

/-- A budget set anew for a slot. -/
def budgetSet (s : State) (v : Int) (b : Budget) : Budget :=
  { left := v, set := some (tickNow s), before := if b.set = some (tickNow s) then b.before else b.left }

/-- A budget with `l` bytes of it spent. -/
def budgetSpent (l : Int) (b : Budget) : Budget := { b with left := b.left - l, before := b.before - l }

/-- The allowance of a privileged class of a port in this slot (R143). -/
def allowOf (s : State) (p c : Nat) : Int := budgetSeen s (alGetD s.sch.allow (p, c) {})

/-- The scheduled RED grant of a port in this slot (R144). -/
def grantOf (s : State) (p : Nat) : Int := budgetSeen s (alGetD s.sch.grant p {})

/-- The state as a selection sees it: in the tick in which a coat was applied, under the coat before it (R141, R155). -/
def schedView (s : State) : State := underOld s

/-- What a selection does, under the coat that it sees. -/
def asSeen (s : State) (f : State → State) : State := { f (schedView s) with cfg := s.cfg }

/-- A child of a port's weighted level is eligible (R142, R146). -/
def childEligible (s : State) (p : Nat) : NodeId → Bool
  | .sub n => !shaped s (.sub n) && (subLeaves n).any fun l => leafEligible s p l.1 l.2
  | .pnode _ 0 => !shaped s (.pnode p 0) && (defLeaves p).any fun l => leafEligible s p l.1 l.2
  | .pnode _ 12 =>
    (leafEligible s p 11 (.pnode p 16) && grantOf s p ≤ 0) || leafEligible s p 11 (.pnode p 17)
  | .pnode _ k => leafEligible s p (k - 1) (.pnode p (k + 4)) && allowOf s p (k - 1) ≤ 0
  | _ => false

/-- The children of a port's weighted level in the order of ties (R146): overflow nodes 9 to 12, subscribers, default. -/
def weightedChildren (s : State) (p : Nat) : List NodeId :=
  [.pnode p 9, .pnode p 10, .pnode p 11, .pnode p 12] ++ (subsOf s p).map NodeId.sub ++ [.pnode p 0]

/-- Whether a leaf has not ceased to be eligible: a frame of this tick, which no selection of the tick sees, keeps it backlogged for
the next (R141, R147). -/
def leafStays (s : State) (p c : Nat) (n : NodeId) : Bool :=
  !(leafOf s n).isEmpty && !shaped s n && !(c < 8 && pausedFor s p c)

/-- The same of a child of a port's weighted level. -/
def childStays (s : State) (p : Nat) : NodeId → Bool
  | .sub n => !shaped s (.sub n) && (subLeaves n).any fun l => leafStays s p l.1 l.2
  | .pnode _ 0 => !shaped s (.pnode p 0) && (defLeaves p).any fun l => leafStays s p l.1 l.2
  | .pnode _ 12 => (leafStays s p 11 (.pnode p 16) && grantOf s p ≤ 0) || leafStays s p 11 (.pnode p 17)
  | .pnode _ k => leafStays s p (k - 1) (.pnode p (k + 4)) && allowOf s p (k - 1) ≤ 0
  | _ => false

/-- A child that becomes eligible takes its parent's V as its start tag; one that has ceased to be falls asleep (R147). -/
def wake (s : State) (parent child : NodeId) (eligible stays : Bool) : State :=
  let x := nodeOf s child
  if eligible && !x.awake then setNode s child fun x => { x with awake := true, tag := (nodeOf s parent).vtime }
  else if !eligible && !stays && x.awake then setNode s child fun x => { x with awake := false }
  else s

/-- Every node of a port looked at once: what has become eligible wakes, what has ceased to be eligible sleeps. -/
def look (s : State) (p : Nat) : State :=
  let leaf := fun (s : State) (parent : NodeId) (l : Nat × NodeId) => wake s parent l.2 (leafEligible s p l.1 l.2) (leafStays s p l.1 l.2)
  let s := (subsOf s p).foldl (fun s n => (subLeaves n).foldl (fun s l => leaf s (.sub n) l) s) s
  let s := (defLeaves p).foldl (fun s l => leaf s (.pnode p 0) l) s
  (weightedChildren s p).foldl (fun s c => wake s (.port p) c (childEligible s p c) (childStays s p c)) s

/-- Start tag `a` comes strictly before `b`, modulo 2^32 within 2^31 (R146). -/
def tagBefore (a b : Nat) : Bool := a != b && (b + two32 - a) % two32 < 2147483648

/-- The first of a list with the smallest start tag. -/
def smallest (s : State) : List NodeId → Option NodeId
  | [] => none
  | n :: r =>
    match smallest s r with
    | none => some n
    | some m => if tagBefore (nodeOf s m).tag (nodeOf s n).tag then some m else some n

/-- A parent's V becomes the chosen child's start tag and the tag advances by ⌈L × 256 / w⌉ (R146). -/
def charge (s : State) (parent child : NodeId) (len w : Nat) : State :=
  let t := (nodeOf s child).tag
  let s := setNode s parent fun x => { x with vtime := t }
  setNode s child fun x => { x with tag := (t + ceilDiv (len * 256) w) % two32 }

/-- The selector of the port-wide SCH registers (R157). -/
def schPort (p : Nat) : Nat := 0x20000 + p

/-- The weight of a child of the weighted level (R158, R161). -/
def childWeight (s : State) (p : Nat) : NodeId → Nat
  | .sub n => fld (nodeCfg s (.sub n)) 0 8
  | .pnode _ 0 => coatFld s Reg.schPortWeight (schPort p) 0 8
  | .pnode _ 12 => coatFld s Reg.schPortWeight (schPort p) 16 8
  | .pnode _ _ => coatFld s Reg.schPortWeight (schPort p) 8 8
  | _ => 1

/-- The weight of a subscriber's leaf (R156, R158). -/
def leafWeight (s : State) (p : Nat) : NodeId → Nat
  | .pnode _ k =>
    if k ≤ 4 then coatFld s Reg.schPortDefWLo (schPort p) (8 * (k - 1)) 8 else coatFld s Reg.schPortDefWHi (schPort p) (8 * (k - 5)) 8
  | n => fld (nodeCfg s n) 0 8

/-- The accounting length of a frame on a port: its length, 20 bytes, and LEN_ADJ (R148). -/
def acctLen (s : State) (p len : Nat) : Nat :=
  ((len : Int) + 20 + signed 8 (coatFld s Reg.schPortCfg (schPort p) 24 8)).toNat

/-- A frame passes a node: its bytes are counted, and its tokens spent where the shaper acts (R149, R156). -/
def passNode (s : State) (p len : Nat) (n : NodeId) : State :=
  let l := acctLen s p len
  let s := if bit (nodeCfg s n) 8 then setNode s n fun x => { x with tokens := x.tokens - 16 * l, before := x.before - 16 * l } else s
  bumpSel s Reg.schNodeTxBytesLo (nodeSel n) len

end Sys2Proof.Machine
end

