-- ==== Sys2Proof/Machine/LinkOps.lean ====
section
/-! DEFINITION. What happens to ports and lanes (spec/03): training and coming up, going down, link-level replay, lane faults,
sparing, degradation, cages. -/

namespace Sys2Proof.Machine

open Sys2Proof

/-! ### Events of ports and lanes (R93, R100) -/

/-- Raises a bit of a port's LNK_PORT_EVENT (R100). -/
def portEvent (s : State) (p bitNo cls : Nat) : State := raise s (lnkPort Reg.lnkPortEvent p) bitNo cls p []

/-- Raises a bit of a lane's LNK_LANE_EVENT (R93). -/
def laneEvent (s : State) (n bitNo : Nat) : State := raise s (lnkAddr Reg.lnkLaneEvent n) bitNo 2 n []

/-- A port counter plus `k`. -/
def bumpPort (s : State) (reg p k : Nat) : State := bump s (lnkPort reg p) k

/-! ### Link-level replay (R66 to R71) -/

/-- LNK_LLR_CFG of a port (R99). -/
def llrBudget (s : State) (p : Nat) : Nat := coatFld s (lnkPort Reg.lnkLlrCfg p) 0 6 4

/-- WINDOW, where 0 means 4,096 (R70). -/
def llrWindow (s : State) (p : Nat) : Nat :=
  let w := coatFld s (lnkPort Reg.lnkLlrCfg p) 0 10 12
  if w = 0 then 4096 else w

/-- A port's share of its group's 512 KiB replay buffer, by its lanes (R70). -/
def llrShare (s : State) (p : Nat) : Nat := 65536 * (portOf s p).lanes.length

/-- The last sequence received in order (R66). -/
def llrAckSeq (q : Port) : Nat := (q.llr.rxExpect + 65535) % two16

/-- A replay header of this port. -/
def llrHdr (q : Port) (typ : Nat) (retx : Bool) (seq lane : Nat) : LlrHdr :=
  { version := 1, typ := BitVec.ofNat 4 typ, ackValid := true, retx, seq := BitVec.ofNat 16 seq,
    ackSeq := BitVec.ofNat 16 (llrAckSeq q), lane := BitVec.ofNat 4 lane }

/-- INIT: its ACK_SEQ is 0xFFFF (R67). -/
def initHdr : LlrHdr := { version := 1, typ := 3, ackValid := false, retx := false, seq := 0, ackSeq := 0xFFFF, lane := 0 }

/-- A control frame goes out on a port, or on its spare lane. -/
def sendCtl (s : State) (p typ lane : Nat) (onSpare : Bool) : State := emit s (.replayCtl p onSpare (llrHdr (portOf s p) typ false 0 lane))

/-- The acknowledgement due is on its way. -/
def ackSent (s : State) (p : Nat) : State := setPort s p fun q => { q with llr := { q.llr with ackDue := 0 } }

/-- The 8 bytes of a replay header (R66). -/
def llrBytes (h : LlrHdr) : List Byte :=
  beBytes 1 (16 * h.version.toNat + h.typ.toNat) ++ beBytes 1 ((if h.ackValid then 1 else 0) + if h.retx then 2 else 0) ++
    beBytes 2 h.seq.toNat ++ beBytes 2 h.ackSeq.toNat ++ beBytes 1 h.lane.toNat ++ [0]

/-- The replay header that 8 bytes spell (R66). -/
def llrHdrOf (l : List Byte) : LlrHdr :=
  { version := BitVec.ofNat 4 (beAt l 0 1 / 16), typ := BitVec.ofNat 4 (beAt l 0 1), ackValid := bit (beAt l 1 1) 0, retx := bit (beAt l 1 1) 1,
    seq := BitVec.ofNat 16 (beAt l 2 2), ackSeq := BitVec.ofNat 16 (beAt l 4 2), lane := BitVec.ofNat 4 (beAt l 6 1) }

/-- The header rules of R66, for a frame of type `typ`. The port's width that bounds LANE is that of all its lanes, also while some are
out of use (DESIGN CHOICE, log entry 213). -/
def llrHdrOk (s : State) (p typ : Nat) (h : LlrHdr) : Bool :=
  h.version == 1 && h.typ.toNat == typ && (typ == 0 || (!h.retx && h.seq == 0)) && h.lane.toNat < (portOf s p).lanes.length

/-- A replay frame that breaks a header rule is counted (R66). -/
def llrMalformed (s : State) (p : Nat) : State := bumpPort s Reg.lnkLlrMalformedLo p 1

/-- Whether a port's link-level replay runs: INIT has been exchanged and the port carries frames or is sparing (R67, R73). -/
def llrActive (s : State) (p : Nat) : Bool :=
  hasLlr s p && (portOf s p).llr.initSent && (portOf s p).llr.initRcvd

/-- How many of the unacknowledged frames a cumulative acknowledgement frees; none for a sequence that is not outstanding. The
last acknowledged sequence frees none and is no error (log entry 49). -/
def acked (l : List Unacked) (ackSeq : Nat) : Option Nat :=
  match l with
  | [] => none
  | u :: _ =>
    let k := (ackSeq + two16 + 1 - u.seq) % two16
    if k ≤ l.length then some k else none

/-- A cumulative acknowledgement (R66, R69). -/
def ackAdvance (s : State) (p ackSeq : Nat) : State :=
  let q := portOf s p
  if q.llr.unacked.isEmpty then
    if (ackSeq + 1) % two16 = q.llr.txNext % two16 then s else llrMalformed s p
  else match acked q.llr.unacked ackSeq with
    | some k =>
      if k = 0 then s
      else setPort s p fun q => { q with llr := { q.llr with unacked := q.llr.unacked.drop k, ackTick := some (tickNow s) } }
    | none => llrMalformed s p

/-- The acknowledgement a header carries, if it carries one. -/
def ackCarried (s : State) (p : Nat) (h : LlrHdr) : State := if h.ackValid then ackAdvance s p h.ackSeq.toNat else s

/-- A replay frame on a Scanan or tray port: counted where it breaks a header rule, whether replay is active or not (R66); acted on where
INIT has been exchanged. -/
def llrTakes (s : State) (p typ : Nat) (h : LlrHdr) (f : State → State) : State :=
  if !hasLlr s p then s
  else if !llrHdrOk s p typ h then llrMalformed s p
  else if !llrActive s p then s
  else f s

/-- Every unacknowledged frame is sent again in order with RETX set, as it was sent first (R69). -/
def resendAll (s : State) (p : Nat) : State :=
  let q := portOf s p
  let s := q.llr.unacked.foldl (fun s u => emit s (.frame p (some (llrHdr q 0 true u.seq 0)) u.frame u.stomped)) s
  let s := setPort s p fun q =>
    { q with llr := { q.llr with unacked := q.llr.unacked.map fun u => { u with resends := u.resends + 1 }, ackDue := 0 } }
  let s := bumpPort s Reg.lnkLlrReplayLo p q.llr.unacked.length
  let bytes := sumBy q.llr.unacked fun u => u.frame.len
  bump (bumpPort s Reg.lnkTxBytesLo p bytes) Reg.telDevTxBytesLo bytes

/-- A protected port's packet number moves on (R491). -/
def countPacket (s : State) (p : Nat) : State :=
  match alGet s.lnk.macsec p with
  | some m => { s with lnk := { s.lnk with macsec := alSet s.lnk.macsec p { m with packets := m.packets + 1 } } }
  | none => s

/-- A frame as it leaves a port: on an out-of-rack port protected under the newest secure association key (R86, R491). -/
def protect (s : State) (p : Nat) (f : Frame) : Frame :=
  let m := alGetD s.lnk.macsec p {}
  match m.saks.getLast? with
  | some k =>
    if outOfRack s p then
      { f with sec := some { an := BitVec.ofNat 2 (m.saks.length - 1), pn := BitVec.ofNat 64 (m.packets + 1), icv := Config.gcmIcv k (m.packets + 1) (wireBytes f) } }
    else f
  | none => f

/-- A frame leaves a port: as DATA of link-level replay, or as it is (R69). -/
def txFrame (s : State) (p : Nat) (f : Frame) (stomped : Bool) : State :=
  let f := protect s p f
  let q := portOf s p
  let s := if hasLlr s p then
      let s := emit s (.frame p (some (llrHdr q 0 false q.llr.txNext 0)) f stomped)
      setPort s p fun q => { q with llr := { q.llr with unacked := q.llr.unacked ++ [⟨q.llr.txNext, 0, f, stomped⟩], txNext := (q.llr.txNext + 1) % two16, ackDue := 0 } }
    else emit s (.frame p none f stomped)
  let s := countPacket s p
  bump (bumpPort s Reg.lnkTxBytesLo p f.len) Reg.telDevTxBytesLo f.len

/-- Whether a port may begin a new frame of `len` bytes: it carries traffic, and link-level replay's limits leave room (R70). -/
def mayBegin (s : State) (p len : Nat) : Bool :=
  let u := (portOf s p).llr.unacked
  portUp s p && (!hasLlr s p || (llrActive s p && u.length < llrWindow s p && sumBy u (fun x => x.frame.len) + len ≤ llrShare s p))

/-! ### Going down and coming up (R63, R67, R81, R82) -/

/-- Whether a port takes frames into its queues: neither DISABLED, nor TRAINING, nor DOWN (R82). -/
def portTakes (s : State) (p : Nat) : Bool :=
  match (portOf s p).st with
  | .disabled | .training | .down => false
  | _ => true

/-- A port goes DOWN: its queued frames are dropped, it leaves its member sets with its state, replay and sparing end (R82), and it is no
longer the Almanac's upstream port. -/
def portDown (s : State) (p : Nat) : State :=
  let s := setPort (flushPort (almPortLost s p) p) p fun q => { q with st := .down, llr := {}, sparing := none, degrading := false }
  look s p

/-- A lane is out of use: retired, sheeted, or under test. -/
def laneGone (s : State) (n : Nat) : Bool := (laneOf s n).role == .retired || !inService s 0 n

/-- The aligned blocks of `w` of `n` logical lanes, the lower first. -/
def blocksOf (n w : Nat) : List (List Nat) := (List.range (n / w)).map fun i => (List.range w).map fun j => i * w + j

/-- The logical lanes to train on: all of them, else the largest aligned part that holds no retired lane, the lower first (R81). Where both
halves hold a retired lane the spec does not say which is halved again: the lowest clean part is taken (DESIGN CHOICE, log entry 214). -/
def trainMask (s : State) (p : Nat) : List Nat :=
  let l := (portOf s p).lanes
  let clean := fun b : List Nat => b.all fun i => !laneGone s (l.getD i 0)
  (([8, 4, 2, 1].filter fun w => w ≤ l.length).flatMap fun w => blocksOf l.length w).find? clean |>.getD []

/-- The cage buses that serve a port: A for lanes 0 to 3 of its group and for the whole group where the coat leaves B unused, B for lanes
4 to 7 where it uses it (R83). -/
def cagesOf (s : State) (p : Nat) : List (Nat × Bool) :=
  let g := p % 512 / 8
  let upper := bit (coatReg s (lnkPort Reg.lnkCageCfg (p / 8 * 8)) 0) 1
  let low := p % 8 < 4
  let high := 4 < p % 8 + lanesOfMode (modeOf s p) || !low
  if upper then (if low then [(g, false)] else []) ++ (if high then [(g, true)] else []) else [(g, false)]

/-- A cage's state. -/
def cage (s : State) (g : Nat) (b : Bool) : Cage := alGetD s.lnk.cages (g, b) {}

/-- A cage changed. -/
def setCage (s : State) (g : Nat) (b : Bool) (f : Cage → Cage) : State :=
  { s with lnk := { s.lnk with cages := alSet s.lnk.cages (g, b) (f (cage s g b)) } }

/-- A module that answered and offers no application matching the mode of a port that it serves (R85). -/
def cageMismatch (s : State) (p : Nat) : Bool :=
  (cagesOf s p).any fun x => let c := cage s x.1 x.2; c.st == 2 && c.known && !c.modes.contains (modeOf s p)

/-- A cage that holds a port DOWN: ABSENT, or a module without an application for its mode (R84, R85). -/
def cageBlocks (s : State) (p : Nat) : Bool := ((cagesOf s p).any fun x => (cage s x.1 x.2).st == 3) || cageMismatch s p

/-- Whether a port may train: it exists, a boot coat is loaded, it is in service, no cage holds it, lanes are left, and it is not
held DOWN. -/
def mayTrain (s : State) (p : Nat) : Bool :=
  portHere s p && portExists s p && s.cfg.forwarding && s.scr.st != .held && inService s 1 p && !cageBlocks s p && !(portOf s p).held &&
    !(trainMask s p).isEmpty

/-- A port starts to train on the lanes left to it; one with none stays DOWN (R81). -/
def retrain (s : State) (p : Nat) : State :=
  let m := trainMask s p
  if m.isEmpty then setPort s p fun q => { q with st := .down, held := true }
  else if mayTrain s p then
    setPort s p fun q => { q with st := .training, mask := m, degrading := m.length < q.lanes.length, attempts := 0 }
  else s

/-- Whether a port waits for its first secure association key (R87). -/
def keyless (s : State) (p : Nat) : Bool := outOfRack s p && (alGetD s.lnk.macsec p {}).saks.isEmpty

/-- A port comes up: AWAITING_KEY until its first secure association key, DEGRADED at reduced width, else UP (R81, R87). -/
def comeUp (s : State) (p : Nat) : State :=
  let q := portOf s p
  if keyless s p then setPort s p fun q => { q with st := .awaitingKey }
  else if q.mask.length < q.lanes.length then
    portEvent (setPort s p fun q => { q with st := .degraded, degrading := false }) p 3 2
  else setPort s p fun q => { q with st := .up, degrading := false }

/-- The lanes of a port show signal and lock; a spare it owns is kept trained with them (R72). -/
def lanesLocked (s : State) (p : Nat) : State :=
  let q := portOf s p
  let l := q.mask.map fun i => q.lanes.getD i 0
  let l := if ownsSpare s p && !laneGone s (groupSpare s p) then l ++ [groupSpare s p] else l
  l.foldl (fun s n => setLane s n fun x => { x with signal := true, lock := true, losArmed := false }) s

/-- The PCS has aligned: link-level replay sends INIT, another port comes up (R63, R67). -/
def aligned (s : State) (p : Nat) : State :=
  let s := lanesLocked (setPort s p fun q => { q with attempts := 0, llr := {} }) p
  if hasLlr s p then
    emit (setPort s p fun q => { q with st := .training, llr := { q.llr with initSent := true } }) (.replayCtl p false initHdr)
  else comeUp s p

/-! ### Lane faults, sparing and degradation (R72 to R81) -/

/-- A fault of a port, or of a lane that it serves, in this tick (R46). -/
def faultNoted (s : State) (p : Nat) : State := setPort s p fun q => { q with faultTick := some (tickNow s) }

/-- A port that lost a lane it cannot spare goes DOWN and retrains on what is left (R81). -/
def degradePort (s : State) (p : Nat) : State := retrain (portDown s p) p

/-- A logical lane moves onto the group's spare lane (R73). -/
def moveToSpare (s : State) (p logical : Nat) : State :=
  let sp := groupSpare s p
  let failed := (portOf s p).lanes.getD logical 0
  let s := setPort s p fun q => { q with lanes := q.lanes.set logical sp, spareInUse := true, sparing := q.sparing.map fun x => { x with moved := true } }
  let s := setLane s sp fun l => { l with role := .spareInUse, logical := logical, port := some p }
  laneEvent s failed 0

/-- Whether the spare of a port's group is idle and its own to use (R80). -/
def spareIdle (s : State) (p : Nat) : Bool :=
  ownsSpare s p && (laneOf s (groupSpare s p)).role == .idleSpare && !laneGone s (groupSpare s p)

/-- This end detects a failed lane: new DATA is held and SPARE_REQ goes out on the spare lane (R73). -/
def startSparing (s : State) (p logical failed : Nat) : State :=
  let s := setPort s p fun q => { q with st := .sparing, sparing := some { logical := logical, failedLane := failed, detector := true } }
  sendCtl s p 4 logical true

/-- What a lane's loss does to its port (R75, R80): sparing where it owns an idle spare, whether it is up, waits for its key or trains,
else degradation; a lane not in use loses nothing. -/
def laneOut (s : State) (n p : Nat) : State :=
  let q := portOf s p
  match q.lanes.findIdx? (· == n) with
  | none => s
  | some i =>
    let s := faultNoted s p
    if q.sparing.isSome then degradePort s p
    else if !q.mask.contains i then s
    else if q.st == .disabled then s
    else if spareIdle s p && q.st != .down then startSparing s p i n
    else degradePort s p

/-- A lane leaves service: it no longer serves its port, and an idle spare's loss raises SPARE_LOST and interrupts nothing
(R72, R80). -/
def laneLeaves (s : State) (n : Nat) : State :=
  let l := laneOf s n
  let s := setLane s n fun l => { l with role := .retired, port := none, losArmed := false, serRun := 0 }
  match l.role, l.port with
  | .idleSpare, _ => laneEvent s n 2
  | .retired, _ => s
  | _, some p => laneOut s n p
  | _, none => s

/-- A permanent lane fault: the lane is retired, and its port spares it or degrades (R80). -/
def laneFault (s : State) (n : Nat) : State :=
  if (laneOf s n).role == .retired then s
  else laneLeaves (laneEvent (retireUnit (permanentFault s) 0 n) n 1) n

/-- The lane a port-level condition names: the one in use with the most corrected symbols, the lower logical lane of equals; none
if every lane counted zero (R79). -/
def worstLane (s : State) (p : Nat) : Option Nat :=
  let q := portOf s p
  let l := q.mask.map fun i => q.lanes.getD i 0
  let best := l.foldl (fun (m : Option Nat) n => match m with
    | none => some n
    | some k => if (laneOf s k).winCorr < (laneOf s n).winCorr then some n else some k) none
  best.filter fun n => (laneOf s n).winCorr != 0

/-- A permanent port-level fault (R79): the lane it names fails; where it names none, the port retrains at full width. -/
def portFault (s : State) (p : Nat) : State :=
  let s := faultNoted s p
  match worstLane s p with
  | some n => laneFault s n
  | none => retrain (portEvent (portDown (permanentFault s) p) p 2 2) p

/-- A replay of all unacknowledged frames; a frame already resent BUDGET times is a permanent port fault (R69). -/
def replay (s : State) (p : Nat) : State :=
  let q := portOf s p
  if q.llr.unacked.isEmpty then s
  else if q.llr.unacked.any fun u => llrBudget s p ≤ u.resends then portFault (portEvent s p 1 2) p
  else resendAll (setPort s p fun q => { q with llr := { q.llr with episodes := q.llr.episodes + 1 } }) p

/-- SPARE_DONE has been exchanged: the port carries DATA again, or waits for its key as before (R73, R87); one that had not exchanged INIT
trains on its new lanes (R63, R67). -/
def sparingDone (s : State) (p : Nat) : State :=
  if llrActive s p then
    setPort s p fun q => { q with sparing := none, st := if keyless s p then .awaitingKey else if q.mask.length < q.lanes.length then .degraded else .up }
  else retrain (setPort s p fun q => { q with sparing := none, st := .down, llr := {} }) p

/-! ### Reception under link-level replay (R68, R123) -/

/-- A DATA frame received, `len` bytes long: whether it is delivered, and the state after acknowledgement or NAK. A stomped frame's
sequence is taken as received in order and the frame is not delivered (R123); one that R62 discards, or a malformed one, is a lost frame
(R66, R68). -/
def llrReceive (s : State) (p : Nat) (h : LlrHdr) (fcs : FcsKind) (len : Nat) : Bool × State :=
  let bad := fcs == .bad || len < 64 || (9216 < len && fcs != .stomped)
  let nak := fun s : State =>
    if (portOf s p).llr.nakSent then s
    else sendCtl (setPort s p fun q => { q with llr := { q.llr with nakSent := true } }) p 2 0 false
  if !llrActive s p then (false, if !bad && hasLlr s p && !llrHdrOk s p 0 h then llrMalformed s p else s)
  else if bad then (false, nak s)
  else if !llrHdrOk s p 0 h then (false, nak (llrMalformed s p))
  else
    let s := ackCarried s p h
    if h.seq.toNat ≠ (portOf s p).llr.rxExpect then (false, nak s)
    else
      let s := setPort s p fun q =>
        { q with llr := { q.llr with rxExpect := (q.llr.rxExpect + 1) % two16, nakSent := false, ackDue := q.llr.ackDue + 1 } }
      let s := if 64 ≤ (portOf s p).llr.ackDue then ackSent (sendCtl s p 1 0 false) p else s
      (fcs == .good, s)

/-! ### Cages (R83 to R85) -/

/-- The ports of this device that a cage bus serves. -/
def cagePorts (s : State) (g : Nat) (b : Bool) : List Nat :=
  ((List.range 8).map fun i => basePort s + 8 * g + i).filter fun p => portExists s p && (cagesOf s p).contains (g, b)

/-- Whether the coat uses a bus: bus B only where BUS_B_USED is 1 (R83). -/
def busUsed (s : State) (g : Nat) (b : Bool) : Bool := !b || bit (coatReg s (lnkPort Reg.lnkCageCfg (basePort s + 8 * g)) 0) 1

/-- The frequency of a cage bus in kHz (R83). -/
def cageKHz (s : State) (g : Nat) : Nat := if bit (coatReg s (lnkPort Reg.lnkCageCfg (basePort s + 8 * g)) 0) 0 then 1000 else 400

/-- The CMIS pages that firmware supports, in banks 0 to 3 (R83). -/
def cmisSupported (page bank : Nat) : Bool := [0x00, 0x01, 0x02, 0x10, 0x11].contains page && bank < 4

/-- A cage's answer to a probe: silence starts the retries; firmware selects the application that matches the mode of a port that the module
serves and takes the module out of low power; its ports train, or are DOWN without an application for their mode (R83 to R85). -/
def cageAnswer (s : State) (g : Nat) (b : Bool) : CageAnswer → State
  | .silent => setCage s g b fun c => { c with st := if c.st = 3 then 3 else 2, retrying := true, tries := 0 }
  | .module ms modes =>
    let app := ((cagePorts s g b).map (modeOf s)).find? modes.contains
    let s := setCage s g b fun c =>
      { c with st := 2, modState := ms.toNat, known := true, modes := modes, app, lowPower := app.isNone, retrying := false, tries := 0 }
    (cagePorts s g b).foldl (fun s p =>
      if cageMismatch s p then portEvent (if (portOf s p).st == .down then s else portDown s p) p 5 2
      else if cageBlocks s p then s
      else if (portOf s p).st == .down then retrain s p else s) s

end Sys2Proof.Machine
end

