-- ==== Sys2Proof/Machine/Flags.lean ====
section
/-! DEFINITION. The codes and flag bits of PMT messages: statuses (spec/00 R8), FLAGS of requests and completions (spec/06 R176),
opcodes (R178, R211, R315 and the chapters' own tables). -/

namespace Sys2Proof.Machine

/-! ### Statuses (R8) -/

abbrev St.ok : Nat := 0x00
abbrev St.retry : Nat := 0x01
abbrev St.poisoned : Nat := 0x02
abbrev St.notMapped : Nat := 0x03
abbrev St.accessDenied : Nat := 0x04
abbrev St.malformed : Nat := 0x05
abbrev St.busy : Nat := 0x06
abbrev St.jobFenced : Nat := 0x07
abbrev St.lost : Nat := 0x08
abbrev St.notReady : Nat := 0x09
abbrev St.unsupported : Nat := 0x0A
abbrev St.eraseState : Nat := 0x0B

/-! ### FLAGS (R176) -/

/-- ACQ: an acquire read. -/
abbrev flagAcq : Nat := 0

/-- VOL: a volatile read. -/
abbrev flagVol : Nat := 1

/-- REL: a release write. -/
abbrev flagRel : Nat := 2

/-- RSV_CREDIT: the reissue of a request answered RETRY. -/
abbrev flagRsv : Nat := 3

/-- NO_ALLOC in requests. -/
abbrev flagNoAlloc : Nat := 4

/-- FLAGS of a completion: DEGRADED [4], FROM_MIRROR [5], STATUS [15:8] (R176). -/
def cplFlags (degraded fromMirror : Bool) (status : Nat) : Nat :=
  (if degraded then 16 else 0) + (if fromMirror then 32 else 0) + 256 * status

/-- STATUS of a completion's FLAGS. -/
def statusOf (flags : Nat) : Nat := fld flags 8 8

/-- The status that a received completion has: codes that are never sent make it MALFORMED (R8), ERASE_STATE too unless a dense tray's bridge
sent it (R9). -/
def statusFrom (bridge : Bool) (flags : Nat) : Nat :=
  let c := statusOf flags
  if c ≤ St.unsupported ∨ (bridge = true ∧ c = St.eraseState) then c else St.malformed

/-! ### Opcodes -/

abbrev Op.read : Nat := 0x01
abbrev Op.write : Nat := 0x02
abbrev Op.writeMasked : Nat := 0x03
abbrev Op.flush : Nat := 0x04
abbrev Op.discard : Nat := 0x05
abbrev Op.atomic : Nat := 0x06
abbrev Op.rdShared : Nat := 0x10
abbrev Op.rdAny : Nat := 0x11
abbrev Op.rdOwn : Nat := 0x12
abbrev Op.upgrade : Nat := 0x13
abbrev Op.wbDirty : Nat := 0x14
abbrev Op.evictClean : Nat := 0x15
abbrev Op.register : Nat := 0x16
abbrev Op.deregister : Nat := 0x17
abbrev Op.snpInv : Nat := 0x20
abbrev Op.snpShare : Nat := 0x21
abbrev Op.snpData : Nat := 0x22
abbrev Op.snpPeek : Nat := 0x23
abbrev Op.redContrib : Nat := 0x30
abbrev Op.redResult : Nat := 0x31
abbrev Op.gaugeInc : Nat := 0x32
abbrev Op.gaugeRead : Nat := 0x33
abbrev Op.gaugeNotify : Nat := 0x34
abbrev Op.gather : Nat := 0x38
abbrev Op.sieve : Nat := 0x39
abbrev Op.resultData : Nat := 0x3A
abbrev Op.rubBcast : Nat := 0x3B
abbrev Op.tileInvoke : Nat := 0x50
abbrev Op.mirrorWrite : Nat := 0x60
abbrev Op.mirrorMasked : Nat := 0x61
abbrev Op.mirrorDiscard : Nat := 0x62
abbrev Op.mirrorFlush : Nat := 0x63
abbrev Op.mirrorRead : Nat := 0x64
abbrev Op.pairReset : Nat := 0x70
abbrev Op.creditGrant : Nat := 0x71
abbrev Op.completion : Nat := 0x7F
abbrev Op.trayIdent : Nat := 0x80
abbrev Op.trayRead : Nat := 0x81
abbrev Op.trayWrite : Nat := 0x82
abbrev Op.trayHealth : Nat := 0x83
abbrev Op.brIdent : Nat := 0x90
abbrev Op.brSense : Nat := 0x91
abbrev Op.brFetch : Nat := 0x92
abbrev Op.brLoad : Nat := 0x93
abbrev Op.brProgram : Nat := 0x94
abbrev Op.brErase : Nat := 0x95
abbrev Op.brHealth : Nat := 0x96
abbrev Op.brRelease : Nat := 0x97
abbrev Op.brDone : Nat := 0x98
abbrev Op.brNotify : Nat := 0x99
abbrev Op.regRead : Nat := 0xC0
abbrev Op.coatWrite : Nat := 0xC1
abbrev Op.coatSubmit : Nat := 0xC2
abbrev Op.cure : Nat := 0xC3
abbrev Op.spdmMsg : Nat := 0xC4
abbrev Op.frostNotice : Nat := 0xC5
abbrev Op.thaw : Nat := 0xC6
abbrev Op.telSnapshot : Nat := 0xC7
abbrev Op.mbxPost : Nat := 0xC8
abbrev Op.regWrite : Nat := 0xC9

/-- Opcodes whose address names pool memory and which the home executes on lines. -/
def isLineOp (op : Nat) : Bool :=
  (Op.read ≤ op && op ≤ Op.atomic) || (Op.rdShared ≤ op && op ≤ Op.evictClean) || (Op.mirrorWrite ≤ op && op ≤ Op.mirrorRead)

/-- Opcodes that are answered RETRY on a busy or held line (R223). -/
def isRetryKind (op : Nat) : Bool :=
  op == Op.rdShared || op == Op.rdAny || op == Op.rdOwn || op == Op.upgrade || op == Op.atomic

/-- Opcodes that write the window (R165, R588). -/
def isWriteKind (op : Nat) : Bool :=
  op == Op.write || op == Op.writeMasked || op == Op.discard || op == Op.atomic || op == Op.rdOwn || op == Op.upgrade ||
    op == Op.wbDirty || op == Op.mirrorWrite || op == Op.mirrorMasked || op == Op.mirrorDiscard

/-- Opcodes whose execution makes data visible in a window: the writes that a pair keeps in order (R183). -/
def isDataWrite (op : Nat) : Bool :=
  op == Op.write || op == Op.writeMasked || op == Op.discard || op == Op.atomic || op == Op.wbDirty || op == Op.mirrorWrite ||
    op == Op.mirrorMasked || op == Op.mirrorDiscard

/-- Mirror opcodes. -/
def isMirrorOp (op : Nat) : Bool := Op.mirrorWrite ≤ op && op ≤ Op.mirrorRead

/-- Coherence opcodes that need a COHERENT window and a registered endpoint. -/
def isCohOp (op : Nat) : Bool := Op.rdShared ≤ op && op ≤ Op.evictClean

/-- Fills (R201): opcodes that ask for a line. -/
def isFill (op : Nat) : Bool := op == Op.rdShared || op == Op.rdAny || op == Op.rdOwn

end Sys2Proof.Machine
end

