-- ==== Sys2Proof/Machine/Memory.lean ====
section
/-! DEFINITION. The block's memories: canonical lists of (address, byte), addresses strictly rising, no byte equal to what an
unlisted address reads as. A byte that nothing has written reads 0 (log entry 3). Lines are 128 bytes (R163). -/

namespace Sys2Proof.Machine

/-- What a byte that nothing has written reads as (log entry 3). -/
def blankByte : Byte := 0

/-- One byte of a memory. -/
def memByte (m : Mem) (a : Nat) : Byte := alGetD m a blankByte

/-- A cell put before the first one of a higher address. -/
def memPlace (m : Mem) (c : Host.Cell) : Mem :=
  match m with
  | [] => [c]
  | p :: r => if c.1 < p.1 then c :: p :: r else p :: memPlace r c

/-- A memory with one byte written. It keeps the canonical form, and what it says of reading holds of every list. -/
def memPut (m : Mem) (a : Nat) (b : Byte) : Mem := if b = blankByte then alErase m a else memPlace (alErase m a) (a, b)

/-- `n` bytes of a memory from an address. -/
def memRead (m : Mem) (a n : Nat) : List Byte := (List.range n).map fun i => memByte m (a + i)

/-- A memory with bytes written from an address upwards. -/
def memWrite (m : Mem) (a : Nat) (bs : List Byte) : Mem :=
  match bs with
  | [] => m
  | b :: r => memWrite (memPut m a b) (a + 1) r

/-- Every listed address lies at or above a bound. -/
def memAbove (lo : Nat) (m : Mem) : Bool :=
  match m with
  | [] => true
  | (k, v) :: r => decide (lo ≤ k) && decide (v ≠ blankByte) && memAbove (k + 1) r

/-- The canonical form: addresses strictly rising, no entry equal to what an unlisted address reads as. -/
abbrev Memory.wf (m : Mem) : Prop := memAbove 0 m = true

/-- The 128 bytes of a line, by line number. -/
def memLine (m : Mem) (line : Nat) : List Byte := memRead m (128 * line) 128

/-- A memory with a line written whole (R246). -/
def memLineWrite (m : Mem) (line : Nat) (bs : List Byte) : Mem := memWrite m (128 * line) (padTo bs 128 0)

end Sys2Proof.Machine
end

