-- ==== Sys2Proof/Machine/Operands.lean ====
section
/-! DEFINITION. The operand forms of PMT messages (spec/06 R174, R175, R178): the 32-byte header and its CRC-32C, and the payload
layouts of the pool, coherence and atomic opcodes. -/

namespace Sys2Proof.Machine

open Sys2Proof

/-! ### Header and trailer (R174, R175) -/

/-- One bit of the reflected CRC-32C (polynomial 0x1EDC6F41). -/
def crcBit (c : BitVec 32) : BitVec 32 := if c.getLsbD 0 then (c >>> 1) ^^^ 0x82F63B78#32 else c >>> 1

/-- One byte of the CRC. -/
def crcByte (c : BitVec 32) (b : Byte) : BitVec 32 :=
  let c := c ^^^ b.setWidth 32
  crcBit (crcBit (crcBit (crcBit (crcBit (crcBit (crcBit (crcBit c)))))))

/-- CRC-32C (Castagnoli) of a byte string. -/
def crc32c (l : List Byte) : BitVec 32 := ~~~ (l.foldl crcByte 0xFFFFFFFF#32)

/-- Bytes of a bit vector, big-endian. -/
def vecBytes (n : Nat) {w : Nat} (v : BitVec w) : List Byte := beBytes n v.toNat

/-- The 32 bytes of a message's header (R175). -/
def headerBytes (opcode : Nat) (m : Msg) : List Byte :=
  beBytes 1 (16 * m.version.toNat + m.cls.toNat) ++ beBytes 1 opcode ++ vecBytes 2 m.flags ++ vecBytes 3 m.source ++
    vecBytes 3 m.dest ++ vecBytes 2 m.tag ++ vecBytes 4 m.seq ++ vecBytes 2 m.length ++ vecBytes 2 m.wt ++ vecBytes 2 m.job ++
    vecBytes 2 m.epoch ++ vecBytes 8 m.address

/-- Bits of a header byte string as a number, big-endian. -/
def headerField (b : List Byte) (off n w : Nat) : BitVec w := BitVec.ofNat w (beAt b off n)

/-- The message that a 32-byte header, a payload and a trailer spell, and its opcode (R175). -/
def parseMsg (port : Nat) (b payload : List Byte) (crc : BitVec 32) : Nat × Msg :=
  (beAt b 1 1,
   { port, version := BitVec.ofNat 4 (beAt b 0 1 / 16), cls := BitVec.ofNat 4 (beAt b 0 1 % 16), flags := headerField b 2 2 16,
     source := headerField b 4 3 24, dest := headerField b 7 3 24, tag := headerField b 10 2 16, seq := headerField b 12 4 32,
     length := headerField b 16 2 16, wt := headerField b 18 2 16, job := headerField b 20 2 16, epoch := headerField b 22 2 16,
     address := headerField b 24 8 64, payload, crc })

/-- Whether a message's trailer is the CRC-32C of its header and payload (R174). -/
def crcOk (opcode : Nat) (m : Msg) : Bool := m.crc == crc32c (headerBytes opcode m ++ m.payload)

end Sys2Proof.Machine

namespace Sys2Proof

/-- SOURCE as an endpoint ID. -/
def Msg.src (m : Msg) : Nat := m.source.toNat % 1048576

/-- The payload cut to LENGTH (R175: the excess is discarded). -/
def Msg.body (m : Msg) : List Byte := m.payload.take m.length.toNat

/-- The key a header carries: tenant, job, world (R175). -/
def Msg.key (m : Msg) : Machine.Key := { tenant := m.wt.toNat % 4096, job := m.job.toNat, world := m.wt.toNat.testBit 15 }

end Sys2Proof

namespace Sys2Proof.Machine

open Sys2Proof

/-- A key as bytes 18 and 19 of a header carry its world and tenant. -/
def wtOf (k : Key) : Nat := k.tenant + if k.world then 32768 else 0

/-- Whether every byte of a list is zero. -/
def allZero (l : List Byte) : Bool := l.all (· == 0)

/-! ### Lines and ranges (R163) -/

/-- The lines that `n` bytes from an address touch, as first line and count. -/
def lineRange (a n : Nat) : Nat × Nat := (a / 128, if n = 0 then 0 else (a + n - 1) / 128 - a / 128 + 1)

/-- Whether a range of lines holds a line. -/
def inRange (r : Nat × Nat) (l : Nat) : Bool := r.1 ≤ l && l < r.1 + r.2

/-- The lines of a range. -/
def rangeLines (r : Nat × Nat) : List Nat := (List.range r.2).map fun i => r.1 + i

/-- Whether two ranges meet. -/
def rangesMeet (a b : Nat × Nat) : Bool := a.1 < b.1 + b.2 && b.1 < a.1 + a.2

/-! ### Pool payloads (R178) -/

/-- SIZE of a READ or MIRROR_READ payload. -/
def readSize (m : Msg) : Nat := beAt m.body 0 2

/-- Whether `n` bytes from `a` stay within one 4 KiB page. -/
def onePage (a n : Nat) : Bool := a % 4096 + n ≤ 4096

/-- The byte count of a FLUSH or DISCARD payload. -/
def byteCount (m : Msg) : Nat := beAt m.body 0 8

/-- Byte i of a masked line is written when bit i mod 8 of mask byte i / 8 is 1 (R178). -/
def maskBit (mask : List Byte) (i : Nat) : Bool := (mask.getD (i / 8) 0).getLsbD (i % 8)

/-- Whether a byte mask names the whole line. -/
def fullMask (mask : List Byte) : Bool := (mask.take 16).all (· == 0xFF#8) && mask.length == 16

/-- A line with masked bytes replaced (R178, R246). -/
def mergeMask (mask old new : List Byte) : List Byte :=
  (List.range 128).map fun i => if maskBit mask i then new.getD i 0 else old.getD i 0

/-- A line with `new` laid over its bytes from `off` on. -/
def mergeAt (old : List Byte) (off : Nat) (new : List Byte) : List Byte :=
  old.take off ++ new ++ old.drop (off + new.length)

/-! ### Coherence payloads (R211 to R214) -/

/-- WAY of a fill or snoop payload. -/
def wayOf (m : Msg) : Nat := beAt m.body 0 1 % 16

/-- SETS_LOG2 of a REGISTER payload. -/
def setsLog2Of (m : Msg) : Nat := beAt m.body 0 1 / 16

/-- The items of an EVICT_CLEAN (R213). -/
def evictItems (m : Msg) : List Nat := (List.range (m.body.length / 8)).map fun i => beAt m.body (8 * i) 8

/-- A grant: state, and the line where it carries data (R214). -/
def grantBytes (state : Nat) (data : Option (List Byte)) : List Byte :=
  match data with
  | some d => beBytes 1 state ++ [1, 0, 0, 0, 0, 0, 0] ++ d
  | none => beBytes 1 state ++ [0, 0, 0, 0, 0, 0, 0]

/-! ### Atomics (R229, R230) -/

/-- Operations of ATOMIC. -/
inductive Aop where
  | fetchAdd
  | fetchAnd
  | fetchOr
  | fetchXor
  | swap
  | cmpSwap
  | fetchMinS
  | fetchMaxS
  | fetchMinU
  | fetchMaxU
deriving DecidableEq, Repr

/-- AOP's codes (R229). -/
def aopOf (n : Nat) : Option Aop :=
  match n with
  | 0 => some .fetchAdd
  | 1 => some .fetchAnd
  | 2 => some .fetchOr
  | 3 => some .fetchXor
  | 4 => some .swap
  | 5 => some .cmpSwap
  | 6 => some .fetchMinS
  | 7 => some .fetchMaxS
  | 8 => some .fetchMinU
  | 9 => some .fetchMaxU
  | _ => none

/-- The value an atomic leaves, on `w`-bit values (R230): FETCH_ADD wraps, CMP_SWAP writes only when the old value equals
COMPARE, the S forms compare as two's complement. -/
def aopResult (a : Aop) (w old operand compare : Nat) : Nat :=
  match a with
  | .fetchAdd => (old + operand) % 2 ^ w
  | .fetchAnd => old &&& operand
  | .fetchOr => old ||| operand
  | .fetchXor => old ^^^ operand
  | .swap => operand
  | .cmpSwap => if old = compare then operand else old
  | .fetchMinS => if signed w operand < signed w old then operand else old
  | .fetchMaxS => if signed w old < signed w operand then operand else old
  | .fetchMinU => min old operand
  | .fetchMaxU => max old operand

/-- Whether an ATOMIC payload keeps R229's rules, ADDRESS alignment included. -/
def atomicOk (m : Msg) : Bool :=
  let b := m.body
  let size := beAt b 1 1
  (aopOf (beAt b 0 1)).isSome && (size == 4 || size == 8) && allZero (slice b 2 6) && m.address.toNat % size == 0 &&
    (size == 8 || beAt b 8 4 == 0) && (if beAt b 0 1 = 5 then size == 8 || beAt b 16 4 == 0 else beAt b 16 8 == 0)

/-! ### Keyed ranges of the coat: windows (R164, R194, R198) -/

/-- A window as the coat's registers give it. -/
structure Win where
  id : Nat
  base : Nat
  size : Nat
  owner : Nat
  key : Key
  policy : Nat
  coherent : Bool
  mirror : Bool
  secondary : Bool
  jobScope : Bool
  readOnly : Bool
  encrypt : Bool
  keySlot : Nat
  partner : Nat
  mbase : Nat
deriving DecidableEq, Repr

/-- A key register: TENANT [11:0], JOB [27:12], WORLD [28] (R194). -/
def keyOfWord (w : Nat) : Key := { tenant := fld w 0 12, job := fld w 12 16, world := bit w 28 }

/-- A window of a coat's registers. -/
def winIn (regs : List RegRec) (k : Nat) : Win :=
  let r := fun a => coatRegIn regs a k
  let attr := r Reg.poolWinAttr
  { id := k, base := (r Reg.poolWinBaseLo + two32 * r Reg.poolWinBaseHi) % 2 ^ 56, size := r Reg.poolWinSizeLo + two32 * r Reg.poolWinSizeHi,
    owner := fld (r Reg.poolWinOwner) 0 20, key := keyOfWord (r Reg.poolWinKey), policy := fld attr 0 3, coherent := bit attr 3,
    mirror := bit attr 4, secondary := bit attr 5, jobScope := bit attr 6, readOnly := bit attr 7, encrypt := bit attr 8,
    keySlot := fld attr 16 12, partner := fld (r Reg.poolWinMirror) 0 20, mbase := r Reg.poolWinMbaseLo + two32 * r Reg.poolWinMbaseHi }

/-- The selectors that a coat's records name for one of two registers. -/
def selsOf (regs : List RegRec) (a b : Nat) : List Nat :=
  regs.foldl (fun l r => if r.addr = a ∨ r.addr = b then (if l.contains r.sel then l else l ++ [r.sel]) else l) []

/-- Windows, groups and gauges each are 16,384 at most (R10). A record whose selector names none of them has no effect (log entry 222). -/
def indexMax : Nat := 16384

/-- The windows of a coat: those with a size (R164). -/
def winsIn (regs : List RegRec) : List Win :=
  (((selsOf regs Reg.poolWinSizeLo Reg.poolWinSizeHi).filter (· < indexMax)).map (winIn regs)).filter fun w => w.size != 0

/-- The windows of the active coat. -/
def wins (s : State) : List Win := winsIn (coat s).regs

/-- The window that contains an address. -/
def winAt (s : State) (a : Nat) : Option Win := (wins s).find? fun w => w.base ≤ a && a < w.base + w.size

end Sys2Proof.Machine
end

