-- ==== Sys2Proof/Machine/SwitchOps.lean ====
section
/-! DEFINITION. The stages of the forwarding pipeline (spec/04 R102): port and VLAN, layer 2 and 3, ACL, member set, class,
policer (spec/05 R151), admission, replication; squalls and ECN. -/

namespace Sys2Proof.Machine

open Sys2Proof

/-! ### Layer 2 (R104) -/

/-- The multicast bit of a MAC address. -/
def macMulticast (m : BitVec 48) : Bool := m.toNat.testBit 40

/-- A frame's source address is learned: placed, refreshed, or refused by a full bucket. True where the frame must be flooded. -/
def learn (s : State) (p v : Nat) (mac : BitVec 48) : Bool × State :=
  let st := (coat s).switch.macs
  if macMulticast mac || st.any (fun e => e.vlan == v && e.mac == mac) then (false, s)
  else if s.swc.learned.any fun e => e.vlan == v && e.mac == mac then
    (false, { s with swc := { s.swc with learned := s.swc.learned.map fun e => if e.vlan = v ∧ e.mac = mac then { e with port := p } else e } })
  else
    let b := fun (v : Nat) (m : BitVec 48) => Config.macHash v m.toNat % 65536
    let n := countBy st (fun e => b e.vlan e.mac == b v mac) + countBy s.swc.learned (fun e => b e.vlan e.mac == b v mac)
    if s.swc.learned.isEmpty && st.isEmpty || n < 8 then
      (false, { s with swc := { s.swc with learned := s.swc.learned ++ [⟨v, mac, p⟩] } })
    else (true, raise (bump s Reg.swcLearnFailLo 1) Reg.swcEventStatus 3 1 noUnit [])

/-- The members of a VLAN but the ingress port: where an unknown address is flooded. -/
def floodPorts (s : State) (p v : Nat) : List Nat := (((vlanOf s v).map Vlan.members).getD []).filter fun q => q != p

/-! ### Layer 3 (R103, R105) -/

/-- Whether an address lies under a prefix. -/
def underPrefix (v6 : Bool) (addr pfx len : Nat) : Bool :=
  let w := if v6 then 128 else 32
  addr >>> (w - len) == pfx >>> (w - len)

/-- The longest matching route (R103). -/
def routeOf (s : State) (i : Ip) : Option Target :=
  let l := (coat s).switch.routes.filter fun r => r.v6 == i.v6 && underPrefix i.v6 i.dst r.pfx r.len
  (l.foldl (fun (m : Option Route) r => match m with
    | none => some r
    | some b => if b.len < r.len then some r else some b) none).map Route.target

/-! ### ACL (R102, R107, R469) -/

/-- Whether an optional IP prefix matches. -/
def prefixMatch (i : Option Ip) (pick : Ip → Nat) : Option (Bool × Nat × Nat) → Bool
  | none => true
  | some (v6, pfx, len) =>
    match i with
    | some i => i.v6 == v6 && underPrefix v6 (pick i) pfx len
    | none => false

/-- Whether an ACL entry matches a frame. -/
def aclMatch (p v : Nat) (f : Frame) (a : Acl) : Bool :=
  (a.port.all (· == p)) && (a.vlan.all (· == v)) && (a.src.all (· == f.src)) && (a.dst.all (· == f.dst)) &&
    (a.etherType.all (· == f.etherType)) && prefixMatch f.ip Ip.src a.ipSrc && prefixMatch f.ip Ip.dst a.ipDst &&
    (a.proto.all fun x => f.ip.any fun i => i.proto == x) && (a.sport.all fun x => f.ip.any fun i => i.sport == x) &&
    (a.dport.all fun x => f.ip.any fun i => i.dport == x)

/-- The ports of a binding's place. -/
def placePorts (s : State) : Target → List Nat
  | .port p => [p]
  | .set n => (((coat s).switch.sets.lookup n).getD []).map Prod.fst
  | .list n => (((coat s).switch.repls.lookup n).getD []).map Prod.fst

/-- The index of the source binding that a PMT frame violates (R469). -/
def bindingBroken (s : State) (p : Nat) (f : Frame) : Option Nat :=
  match pmtOf s f with
  | none => none
  | some m =>
    (coat s).security.bindings.findIdx? fun b =>
      b.ep == m.msg.source.toNat % 1048576 && !((f.ip.any fun i => i.src == b.ip) && (placePorts s b.place).contains p)

/-- An ACL entry's counter plus one (R105). -/
def aclCounted (s : State) (i : Nat) : State :=
  { s with swc := { s.swc with aclCount := alMod s.swc.aclCount i 0 fun n => (n + 1) % two64 } }

/-! ### Member sets (R106, R82) -/

/-- The 256 buckets divided among members in proportion to their weights: bucket `b` belongs to the member whose share of the
cumulated weight it falls into. -/
def bucketOwner (members : List (Nat × Nat)) (b : Nat) : Option (Nat × Nat) :=
  let total := sumBy members Prod.snd
  let rec go : List (Nat × Nat) → Nat → Option (Nat × Nat)
    | [], _ => none
    | m :: r, before => if b * total < 256 * (before + m.2) then some m else go r (before + m.2)
  go members 0

/-- Whether a member keeps a bucket at its present width: a port degraded to k of n lanes keeps k of every n (R82). -/
def keepsBucket (s : State) (p b : Nat) : Bool :=
  portTakes s p && b % (portOf s p).lanes.length < portWidth s p

/-- The members in the order in which a bucket falls to them: its owner, then the others from a place of the list that spreads the
owner's buckets over them (R106; log entry 56). The order depends on nothing but the coat, so that a member's removal moves no bucket
but its own, and its return gives back those that it held before. -/
def bucketOrder (members : List (Nat × Nat)) (b : Nat) : List Nat :=
  match bucketOwner members b with
  | none => []
  | some m =>
    let rest := (members.filter fun x => x.1 != m.1).map Prod.fst
    m.1 :: rest.rotateLeft (b % max rest.length 1)

/-- The member a bucket leads to: the first in its order that serves it (R106, R82). -/
def setMember (s : State) (n b : Nat) : Option Nat :=
  let order := bucketOrder (((coat s).switch.sets.lookup n).getD []) b
  match order.find? fun p => !portHere s p || keepsBucket s p b with
  | some p => some p
  | none => order.head?

/-! ### Classes (R107) -/

/-- The internal class that the coat's PMT class map gives a PMT class (R107). -/
def pmtClass (s : State) (c : Nat) : Nat :=
  ((coat s).switch.pmtMap.lookup c).getD (if c < 12 then c else 0) % 12

/-- The internal class of a frame before any ACL override (R107). -/
def baseClass (s : State) (p : Nat) (f : Frame) : Nat :=
  match pmtOf s f with
  | some m => pmtClass s m.msg.cls.toNat
  | none =>
    let sw := (coat s).switch
    match f.ip with
    | some i => if sw.dscpPorts.contains p then (sw.dscpMap.lookup i.dscp.toNat).getD 0 % 12
      else (sw.pcpMap.lookup ((f.tag.map fun t => t.pcp.toNat).getD 0)).getD 0 % 12
    | none => (sw.pcpMap.lookup ((f.tag.map fun t => t.pcp.toNat).getD 0)).getD 0 % 12

/-- An ACL's class override moves no frame into or out of classes 8 to 11 (R107). -/
def overrideClass (c : Nat) : Option Nat → Nat
  | some d => if c < 8 ∧ d < 8 then d else c
  | none => c

/-! ### Policers (R151 to R153) -/

/-- The policer of a frame of classes 0 to 7 (R151). -/
def policerOf (s : State) (p c : Nat) (f : Frame) : Option Nat :=
  if 8 ≤ c then none
  else
    let sc := (coat s).schedule
    let byJob : Option Nat := match pmtOf s f with
      | some m => (sc.polJob.find? fun (x : Nat × Nat × Nat) => x.1 == m.msg.wt.toNat % 4096 && x.2.1 == m.msg.job.toNat).map fun (x : Nat × Nat × Nat) => x.2.2
      | none => none
    match byJob with
    | some n => some n
    | none => (sc.polPort.find? fun (x : Nat × Nat × Nat) => x.1 == p && x.2.1 == c).map fun (x : Nat × Nat × Nat) => x.2.2

/-- Colours of a policer (R152). -/
inductive Colour where
  | green
  | yellow
  | red
deriving DecidableEq, Repr

/-- The bursts CBS and PBS of a policer, in 1/16 byte. -/
def policerFull (s : State) (n : Nat) : Nat × Nat :=
  (16 * coatFld s Reg.schPolCbs n 0 24, 16 * coatFld s Reg.schPolPbs n 0 24)

/-- A policer's buckets; they start full (log entry 40). -/
def policerBuckets (s : State) (n : Nat) : Nat × Nat := alGetD s.sch.buckets n (policerFull s n)

/-- The two-rate three-colour marker (R152): the colour of a frame of `len` bytes and the buckets after it. -/
def meter (aware inYellow : Bool) (tc tp len : Nat) : Colour × Nat × Nat :=
  let l := 16 * len
  if !aware || !inYellow then
    if tp < l then (.red, tc, tp)
    else if tc < l then (.yellow, tc, tp - l)
    else (.green, tc - l, tp - l)
  else if tp < l then (.red, tc, tp)
  else (.yellow, tc, tp - l)

/-- The counter of a colour. -/
def colourReg : Colour → Nat
  | .green => Reg.schPolGreenLo
  | .yellow => Reg.schPolYellowLo
  | .red => Reg.schPolRedLo

/-- A frame meets its policer (R152, R153): whether it passes, whether DEI is set, the state after. -/
def police (s : State) (n : Nat) (f : Frame) : Bool × Bool × State :=
  let w := coatReg s Reg.schPolCfg n
  if !bit w 0 then (true, false, s)
  else
    let b := policerBuckets s n
    let r := meter (bit w 1) ((f.tag.map VTag.dei).getD false) b.1 b.2 f.len
    let s := { s with sch := { s.sch with buckets := alSet s.sch.buckets n r.2 } }
    let s := bumpSel s (colourReg r.1) n f.len
    match r.1 with
    | .green => (true, false, s)
    | .yellow => (fld w 2 2 != 2, fld w 2 2 == 1, s)
    | .red => (bit w 4, bit w 4, s)

/-! ### Leaves (R140, R144) -/

/-- The collective group that a class 11 frame names: GROUP of the ADDRESS of a RED_CONTRIB, a RED_RESULT
or a RUB_BCAST (R315, R316, R373). -/
def redGroup (s : State) (f : Frame) : Option Nat :=
  match pmtOf s f with
  | some m => if m.opcode = 0x30 ∨ m.opcode = 0x31 ∨ m.opcode = 0x3B then some (fld m.msg.address.toNat 42 14) else none
  | none => none

/-- Whether a group's calendar has an active entry that names a port (R144). -/
def entryActive (s : State) (g p : Nat) : Bool :=
  let x := alGetD s.fc g {}
  x.active.any fun i => fld (x.cal.entries.getD i 0).toNat 24 10 == p

/-- Whether calendars set no grants: ISLAND under ISLAND_POLICY 1 (R145). -/
def calendarsOff (s : State) : Bool := s.alm.st == .island && bit (coatReg s Reg.almConfig 0) 2

/-- Whether a frame enters the scheduled RED leaf of a port (R144, R145). -/
def scheduledRed (s : State) (p : Nat) (f : Frame) : Bool :=
  !calendarsOff s && (redGroup s f).any fun g => entryActive s g p

/-- The leaf a frame of class `c` enters at port `p` (R140). -/
def leafFor (s : State) (p c : Nat) (f : Frame) : NodeId :=
  if c = 11 then (if scheduledRed s p f then .pnode p 16 else .pnode p 17)
  else if 8 ≤ c then .pnode p (c + 5)
  else
    let sub : Option SubEnt := match pmtOf s f with
      | some m => (coat s).schedule.subs.find? fun (x : SubEnt) => x.tenant == m.msg.wt.toNat % 4096 && x.job == m.msg.job.toNat && x.port == p
      | none => none
    match sub with
    | some x => .leaf (8 * x.node + c)
    | none => .pnode p (1 + c)

/-! ### Admission and queueing (R110 to R117) -/

/-- A frame of a scheduled group outside an active entry is counted in the group's ALM_FC_OFFSLOT (R52): each of its copies whose output port no
active entry names is one (DEDUCED, log entry 236). -/
def countOffslot (s : State) (p c : Nat) (f : Frame) : State :=
  match redGroup s f with
  | some g =>
    if c = 11 ∧ (alGetD s.fc g {}).cal.period ≠ 0 ∧ entryActive s g p = false then bumpSel s Reg.almFcOffslotLo g 1 else s
  | none => s

/-- The cell runs that the crossbar of a pair still tells apart: those within the last 1,024 cells (R120). -/
def xKept (x : XPair) : List XRun := x.runs.filter fun r => (x.next + 4096 - r.first) % 4096 ≤ 1024

/-- A frame's cells cross from its input to an output: numbered, and spread over the planes in service (R120). -/
def crossCells (s : State) (b : BufFrame) (p : Nat) : State :=
  { s with swc := { s.swc with xpairs := alMod s.swc.xpairs (b.inPort, p) {} fun x =>
      let run : XRun := { first := x.next, cells := b.cells, frame := b.id }
      let x := { x with next := (x.next + b.cells) % 4096, spread := x.spread + b.cells, runs := x.runs ++ [run] }
      { x with runs := xKept x } } }

/-- A copy put into its queue: its cells charged, the frame's shared, headroom and skid cells raised to what this copy needs of
them (a frame is stored once, R113); a queue that is then KMAX deep or more raises a squall (R127). -/
def enqueue (s : State) (b : BufFrame) (p c v : Nat) (rewrite : Option Nat) (fromMin fromShared head skid : Nat) : State :=
  let moreS := fromShared - b.shared
  let moreH := head - b.headroom
  let moreK := skid - b.skid
  let s := setQueue s p c fun q => { q with minUsed := q.minUsed + fromMin, sharedUsed := q.sharedUsed + fromShared, depth := q.depth + b.cells }
  let s := setBufFrame s b.id fun b => { b with refs := b.refs + 1, shared := b.shared + moreS, headroom := b.headroom + moreH, skid := b.skid + moreK }
  let s := { s with swc := { s.swc with sharedUsed := s.swc.sharedUsed + moreS, headroomUsed := s.swc.headroomUsed + moreH, skidUsed := s.swc.skidUsed + moreK } }
  let s := match b.acct with
    | some (ip, q) => setAccount s ip q fun a => { a with cells := a.cells + moreS, headroom := a.headroom + moreH }
    | none => s
  let n := leafFor s p c b.frame
  let e : QEnt := { frame := b.id, rewrite, port := p, cls := c, fromMin, fromShared, tick := tickNow s, slot := slotNow s }
  let s := countOffslot (setLeaf s n (leafOf s n ++ [e])) p c b.frame
  let s := judgeAccounts (crossCells s b p)
  if kmaxCells s p c ≤ (queueOf s p c).depth then squall s p c 0 v b.frame else s

/-- A copy refused by its queue (R111). -/
def refuse (s : State) (p c v : Nat) (f : Frame) : State :=
  let s := bumpSel s Reg.swcQDropLo (qSel p c) 1
  let s := if 8 ≤ c then raise (bump s Reg.swcPrivDropLo 1) Reg.swcEventStatus 4 1 p [] else s
  squall s p c 1 v f

/-- What the headroom has for a frame: the least of what its (port, priority) may still hold there, what the pool has free, and the
frame's cells (R117). -/
def headroomFor (s : State) (b : BufFrame) (c : Nat) : Nat :=
  let held := (accountOf s b.inPort c).headroom - b.headroom
  min b.cells (min (coatFld s Reg.swcPortPfc b.inPort 16 16 - held) (headroomFree s + b.headroom))

/-- What admission decides for a copy at its queue (R110, R111, R117): the cells it takes of the minimum and of the shared pool; the
headroom; refused. -/
inductive Admission where
  | queue (fromMin fromShared : Nat)
  | headroom
  | refused
deriving DecidableEq, Repr

/-- Admission of a stored frame's copy to a queue. -/
def admission (s : State) (b : BufFrame) (p c : Nat) : Admission :=
  let lossless := losslessAt s b.inPort p c
  if lossless && (accountOf s b.inPort c).paused then .headroom
  else if 1 ≤ minFree s p c || belowThreshold s p c then
    let m := min b.cells (minFree s p c)
    .queue m (min (b.cells - m) (sharedFree s + b.shared))
  else if lossless then .headroom else .refused

/-- A frame finds no headroom: it is dropped (R117). -/
def headroomFull (s : State) (b : BufFrame) (p c v : Nat) : State :=
  squall (raise (bump s Reg.swcHrDropLo 1) Reg.swcEventStatus 1 1 b.inPort []) p c 1 v b.frame

/-- One copy of a stored frame is offered to its output queue (R110, R111, R113, R117). -/
def enqueueAt (s : State) (id p c v : Nat) (rewrite : Option Nat) : State :=
  match bufFrame s id with
  | none => s
  | some b =>
    match admission s b p c with
    | .queue m sh => enqueue s b p c v rewrite m sh 0 (b.cells - m - sh)
    | .headroom =>
      let h := headroomFor s b c
      if h = 0 then headroomFull s b p c v else enqueue s b p c v rewrite 0 0 h (b.cells - h)
    | .refused => refuse s p c v b.frame

/-- A copy for a port of the other twin: admitted here, charged to its output queue (R505), and gone over the bridge at once; or
refused. True where it crosses. -/
def crossCopy (s : State) (b : BufFrame) (p c v : Nat) : Bool × State :=
  match admission s b p c with
  | .queue _ _ => (true, s)
  | .headroom => if headroomFor s b c = 0 then (false, headroomFull s b p c v) else (true, s)
  | .refused => (false, refuse s p c v b.frame)

/-- Whether an output cuts a frame through: CT_EN, idle, and no faster than the input (R122). -/
def cutsThrough (s : State) (inPort p : Nat) : Bool :=
  bit (coatReg s Reg.swcPortPfc p) 8 && (portOf s p).txBusy.isNone && portWidth s p ≤ portWidth s inPort &&
    s.sch.leaves.all fun l => l.2.all fun e => e.port != p

/-! ### The pipeline (R102) -/

/-- Copies of a frame: output port and VLAN rewrite. -/
abbrev Copies := List (Nat × Option Nat)

/-- The copies that a table entry's target asks for (R106, R124). -/
def targetCopies (s : State) (v : Nat) (f : Frame) : Target → Copies
  | .port p => [(p, none)]
  | .set n => ((setMember s n (Config.flowHash (hashFields s v f) % 256)).map fun p => (p, none)).toList
  | .list n => ((coat s).switch.repls.lookup n).getD []

/-- Layer 2 and layer 3: the copies of a frame; none where it is dropped for want of a route (R104, R105, R124). -/
def lookupCopies (s : State) (p v : Nat) (f : Frame) (flood : Bool) : Option Copies :=
  let flooded : Copies := (floodPorts s p v).map fun q => (q, none)
  let l2 : Copies :=
    if flood then flooded
    else match (coat s).switch.macs.find? fun e => e.vlan == v && e.mac == f.dst with
      | some e => targetCopies s v f e.target
      | none =>
        match s.swc.learned.find? fun e => e.vlan == v && e.mac == f.dst with
        | some e => [(e.port, none)]
        | none => flooded
  if (coat s).switch.routerMacs.contains f.dst then
    match f.ip with
    | some i => (routeOf s i).map (targetCopies s v f)
    | none => none
  else match f.ip with
    | some i =>
      if ipMulticast i i.dst then
        match routeOf s i with
        | some t => some (targetCopies s v f t)
        | none => some l2
      else some l2
    | none => some l2

/-- A copy for a port of this device: queued, or dropped at a port that does not take it (R60, R82, R87). -/
def sendCopy (s : State) (id c v : Nat) (x : Nat × Option Nat) : State :=
  if !portExists s x.1 then s
  else if portTakes s x.1 && (portOf s x.1).st != .awaitingKey then enqueueAt s id x.1 c v x.2
  else bumpPort s Reg.lnkPortDropLo x.1 1

/-- The copies for the other twin's ports cross the bridge once, those that are admitted (R124, R505). -/
def crossBridge (s : State) (b : BufFrame) (c v : Nat) (copies : Copies) : State :=
  let r := copies.foldl (fun (r : Copies × State) x =>
    let a := crossCopy r.2 b x.1 c v
    (if a.1 then r.1 ++ [x] else r.1, a.2)) (([] : Copies), s)
  if r.1.isEmpty then r.2 else emit r.2 (.bridge (.frame b.frame r.1))

/-- A counter of frames counts a frame once, however many of its copies it counted since `was` (R130). -/
def countedOnce (was s : State) (reg : Nat) : State :=
  if ctrGet s reg 0 = ctrGet was reg 0 then s
  else { s with ctr := alSet s.ctr (reg, 0) ((ctrGet was reg 0 + 1) % two64) }

/-- A frame stored for the copies it is to leave in; one that no queue took is gone (R113). `bad` is a frame that turned bad after its
output began to send it: only outputs that cut it through carry it, and they stomp it, cut at 9,216 bytes (R122). -/
def replicate (s : State) (p c v : Nat) (f : Frame) (bad : Bool) (copies : Copies) : State :=
  let was := s
  let copies := copies.filter fun x => portExists s x.1
  let mine := copies.filter fun x => portHere s x.1 && (!bad || cutsThrough s p x.1)
  let other := if bad then [] else copies.filter fun x => !portHere s x.1
  if mine.isEmpty && other.isEmpty then s
  else
    let f := if bad then { f with len := min f.len 9216 } else f
    let id := s.swc.nextFrame
    let acct := if c < 8 && p < 1024 && (mine ++ other).any (fun x => losslessAt s p x.1 c) then some (p, c) else none
    let b : BufFrame := { id, frame := f, inPort := p, cls := c, cells := cellsOf f.len, refs := 0, acct, stomped := bad }
    let s := { s with swc := { s.swc with frames := s.swc.frames ++ [b], nextFrame := id + 1 } }
    let s := mine.foldl (fun s x => sendCopy s id c v x) s
    let s := if other.isEmpty then s else crossBridge s ((bufFrame s id).getD b) c v other
    let s := countedOnce was (countedOnce was s Reg.swcPrivDropLo) Reg.swcHrDropLo
    match bufFrame s id with
    | some b => if b.refs = 0 then freeFrame s b else s
    | none => s

/-- A frame with DEI set on its outer tag; an untagged frame is unchanged (R153). -/
def withDei (f : Frame) : Frame := { f with tag := f.tag.map fun t => { t with dei := true } }

/-- The copies of a frame that the ACL and its own address leave (R102, R108): an ACL redirect's, none for the device itself, else those
that layers 2 and 3 found. -/
def aclCopies (s : State) (v : Nat) (f : Frame) (act : AclAct) (own : Bool) (found : Copies) : Copies :=
  match act.redirect with
  | some t => targetCopies s v f t
  | none => if own then [] else found

/-- The ingress pipeline for a frame of an up port, its stages in order (R102). A frame without a route is dropped at layer 3 (R105).
`deliver` takes a PMT frame for the device itself (R108). -/
def pipeline (deliver : State → Nat → Frame → State) (s : State) (p : Nat) (f : Frame) (bad : Bool) : State :=
  let v := ingressVlan s p f
  match vlanOf s v with
  | none => bump s Reg.swcRouteMissLo 1
  | some vl =>
    if !vl.members.contains p then bump s Reg.swcRouteMissLo 1
    else
      let l := if vl.learn && !bad then learn s p v f.src else (false, s)
      let s := l.2
      let own := udpTo f (pmtUdpPort s) && toOwnIp s f
      match (if own then some [] else lookupCopies s p v f l.1) with
      | none => bump s Reg.swcRouteMissLo 1
      | some found =>
        match bindingBroken s p f with
        | some i => aclCounted s ((coat s).switch.acls.length + i)
        | none =>
          let hit := (coat s).switch.acls.findIdx? (aclMatch p v f)
          let act := (hit.map fun i => ((coat s).switch.acls.getD i {}).act).getD {}
          let s := match hit with
            | some i => if act.count || act.drop then aclCounted s i else s
            | none => s
          if act.drop then s
          else
            let copies := aclCopies s v f act own found
            let c := overrideClass (baseClass s p f) act.cls
            let pol := match policerOf s p c f with
              | some n => if bad then (true, false, s) else police s n f
              | none => (true, false, s)
            let s := pol.2.2
            if !pol.1 then s
            else
              let f := if pol.2.1 then withDei f else f
              let copies := copies ++ (act.mirror.map fun m => (m, none)).toList
              let s := replicate s p c v f bad copies
              if own && act.redirect.isNone && !bad then deliver s p f else s

/-- A frame that the other twin received and passes over the bridge: its copies for this twin's ports, which that twin admitted under the
same coat, are queued here (R124, R505). -/
def bridged (s : State) (p : Nat) (f : Frame) : State :=
  let v := ingressVlan s p f
  let act := (((coat s).switch.acls.find? (aclMatch p v f)).map Acl.act).getD {}
  let own := udpTo f (pmtUdpPort s) && toOwnIp s f
  let copies := aclCopies s v f act own ((lookupCopies s p v f false).getD []) ++ (act.mirror.map fun m => (m, none)).toList
  replicate s p (overrideClass (baseClass s p f) act.cls) v f false (copies.filter fun x => portHere s x.1)

/-- IEEE 802.3 MAC control frames: PAUSE is counted and discarded, the others are not forwarded (R61). -/
def macControl (s : State) (p : Nat) (f : Frame) : State :=
  if beAt f.body 0 2 = 1 then setPort s p fun q => { q with pauseRx := q.pauseRx + 1 } else s

/-- Whether a frame is an Almanac beacon or claim by its EtherType and address: consumed by the Almanac, never forwarded. -/
def isAlmanacFrame (s : State) (f : Frame) : Bool :=
  f.etherType == (coat s).almanac.etherType && f.dst == (coat s).almanac.dest

/-- Whether a frame's length or its end makes R62 discard it. -/
def frameBad (f : Frame) : Bool := f.fcs != .good || f.len < 64 || 9216 < f.len

/-- Whether an out-of-rack port may deliver a frame: it is protected, and its ICV verifies under one of the installed secure association
keys (R86, R88). On other ports MACsec is not terminated (R87). -/
def macsecOk (s : State) (p : Nat) (f : Frame) : Bool :=
  !outOfRack s p || f.sec.any fun t => (alGetD s.lnk.macsec p {}).saks.any fun k => t.icv == Config.gcmIcv k t.pn.toNat (wireBytes f)

/-- A frame of a port with its MACsec protection taken off (R86). -/
def unprotected (s : State) (p : Nat) (f : Frame) : Frame := if outOfRack s p then { f with sec := none } else f

/-- A frame received on a port, its replay header taken off: counted, checked under R62, and passed to the pipeline; `deliver` takes the
device's own, Almanac frames among them. -/
def receive (deliver : State → Nat → Frame → State) (s : State) (p : Nat) (f : Frame) : State :=
  let s := bump (bumpPort s Reg.lnkRxBytesLo p f.len) Reg.telDevRxBytesLo f.len
  if frameBad f then
    let s := bumpPort s Reg.lnkRxErrLo p 1
    if f.len < 64 || !portUp s p || !macsecOk s p f then s else pipeline deliver s p (unprotected s p f) true
  else if (portOf s p).st == .awaitingKey then bumpPort s Reg.lnkPortDropLo p 1
  else if f.etherType == 0x8808 then macControl s p f
  else if !portTakes s p || !macsecOk s p f then s
  else if isAlmanacFrame s f then deliver s p (unprotected s p f)
  else pipeline deliver s p (unprotected s p f) false

/-! ### What the device's own units send (R107, R127, R140, R174) -/

/-- A message of the device's own as a header and payload with its CRC-32C (R174, R175). -/
def msgOf (m : PmtOut) : Msg :=
  let x : Msg :=
    { port := 1024, version := 1, cls := BitVec.ofNat 4 m.cls, flags := BitVec.ofNat 16 m.flags, source := BitVec.ofNat 24 m.source,
      dest := BitVec.ofNat 24 m.dest, tag := BitVec.ofNat 16 m.tag, seq := BitVec.ofNat 32 m.seq, length := BitVec.ofNat 16 m.payload.length,
      wt := BitVec.ofNat 16 (wtOf m.key), job := BitVec.ofNat 16 m.key.job, epoch := BitVec.ofNat 16 m.epoch,
      address := BitVec.ofNat 64 m.address, payload := m.payload, crc := 0 }
  { x with crc := crc32c (headerBytes m.opcode x ++ m.payload) }

/-- Where an endpoint is reached: the address of its source binding, or one that the spec does not give (R469; log entry 46). -/
def epAddr (s : State) (ep : Nat) : Bool × Nat :=
  match (coat s).security.bindings.find? fun b => b.ep == ep with
  | some b => (decide (two32 ≤ b.ip), b.ip)
  | none => Config.epAddr ep

/-- A UDP datagram of the device's own as a frame. -/
def ownDatagram (v6 : Bool) (src dst sport dport : Nat) (pmt : Option PmtFrame) (payload : List Byte) : Frame :=
  { dst := Config.hopMac dst, src := Config.ownMac, len := max 64 ((if v6 then 40 else 20) + 26 + payload.length), fcs := .good, tag := none,
    inner := none, etherType := if v6 then 0x86DD else 0x0800,
    ip := some { v6, src, dst, proto := 17, sport := BitVec.ofNat 16 sport, dport := BitVec.ofNat 16 dport, dscp := Config.ownDscp, ecn := Config.ownEcn },
    pmt, body := payload }

/-- The frame of a PMT message of the device's own: UDP source port 0xC000 + destination [13:0], destination PMT_UDP_PORT, CRC-32C trailer
(R174). -/
def pmtDatagram (s : State) (m : PmtOut) : Frame :=
  let x := msgOf m
  let dst := epAddr s m.dest
  ownDatagram dst.1 (epAddr s m.source).2 dst.2 (0xC000 + m.dest % 16384) (pmtUdpPort s) (some { opcode := BitVec.ofNat 8 m.opcode, msg := x })
    (headerBytes m.opcode x ++ m.payload ++ vecBytes 4 x.crc)

/-- The copies of a message to an endpoint: at the place of its source binding, else by the route of its address; none where the coat
shows no way (log entry 46). -/
def ownCopies (s : State) (f : Frame) (ep : Nat) : Copies :=
  match (coat s).security.bindings.find? fun b => b.ep == ep with
  | some b => targetCopies s 1 f b.place
  | none => ((f.ip.bind (routeOf s)).map (targetCopies s 1 f)).getD []

/-- The 46 bytes of a beacon or claim (R28). -/
def beaconBytes (b : Beacon) : List Byte :=
  beBytes 1 (16 * b.version.toNat + b.typ.toNat) ++ vecBytes 1 b.priority ++ vecBytes 1 b.clockClass ++
    beBytes 1 ((if b.holdover then 1 else 0) + if b.island then 2 else 0) ++ vecBytes 4 b.domain ++ vecBytes 8 b.gmEui ++ vecBytes 8 b.origin ++
    vecBytes 8 b.correction ++ vecBytes 2 b.steps ++ vecBytes 2 b.seq ++ List.replicate 10 0

/-- The beacon or claim that 46 bytes spell (R28). -/
def beaconOf (l : List Byte) : Beacon :=
  { version := BitVec.ofNat 4 (beAt l 0 1 / 16), typ := BitVec.ofNat 4 (beAt l 0 1), priority := BitVec.ofNat 8 (beAt l 1 1),
    clockClass := BitVec.ofNat 8 (beAt l 2 1), holdover := bit (beAt l 3 1) 0, island := bit (beAt l 3 1) 1,
    domain := BitVec.ofNat 32 (beAt l 4 4), gmEui := BitVec.ofNat 64 (beAt l 8 8), origin := BitVec.ofNat 64 (beAt l 16 8),
    correction := BitVec.ofNat 64 (beAt l 24 8), steps := BitVec.ofNat 16 (beAt l 32 2), seq := BitVec.ofNat 16 (beAt l 34 2) }

/-- The Ethernet frame of a beacon or claim. -/
def beaconFrame (s : State) (b : Beacon) : Frame :=
  { dst := (coat s).almanac.dest, src := Config.ownMac, len := 64, fcs := .good, tag := none, inner := none,
    etherType := (coat s).almanac.etherType, ip := none, pmt := none, body := beaconBytes b }

/-- What one of the device's units has sent enters the queues of its ports, in its class (R107, R140): a PMT message in the class that its
PMT class maps to, a collective down leg on its group's list (R124), a squall and a beacon in class MGMT. -/
def handOne (s : State) : Out → State
  | .pmt m =>
    let f := pmtDatagram s m
    replicate s 1024 (pmtClass s m.cls) 1 f false (ownCopies s f m.dest)
  | .multicast repl m =>
    replicate s 1024 (pmtClass s m.cls) 1 (pmtDatagram s m) false (((coat s).switch.repls.lookup repl).getD [])
  | .squall v6 ip payload =>
    let f := ownDatagram v6 (coat s).switch.mgmtIp ip Config.squallSport.toNat (squallUdpPort s) none payload
    replicate s 1024 8 1 f false (((f.ip.bind (routeOf s)).map (targetCopies s 1 f)).getD [])
  | .beacon p b => replicate s 1024 8 1 (beaconFrame s b) false [(p, none)]
  | _ => s

/-- What has been sent since the last time is taken in, once. -/
def handPass (s : State) : State :=
  let news := s.out.drop s.swc.handed
  news.foldl handOne { s with swc := { s.swc with handed := s.out.length } }

/-- What a command's units have sent is taken into the switch core, and then the squalls that this raised; a squall raises none (R127). -/
def handOver (s : State) : State :=
  let s := handPass s
  let s := handPass s
  { s with swc := { s.swc with handed := s.out.length } }

end Sys2Proof.Machine
end

