-- ==== Sys2Proof/Machine/Live.lean ====
section
/-! DEFINITION. The gate of every meaning, and what a command hands to the switch core. -/

namespace Sys2Proof.Machine

open Sys2Proof

/-- The gate of every meaning. A command that names an object outside the spec's ranges changes nothing (log entry 211), and while the
device is held in reset (R626, R628) nothing happens; otherwise the effect takes place, and what the device's own units have sent is
taken into the switch core (R140). -/
def live (ok : Bool) (s : State) (f : State → State) : Host.Outcome State Fault Refusal :=
  if ok && !s.pwr.inReset then .next (handOver (f s)) else .next s

/-- The gate of the commands that reset governs itself: they take effect in reset too. -/
def always (ok : Bool) (s : State) (f : State → State) : Host.Outcome State Fault Refusal :=
  if ok then .next (handOver (f s)) else .next s

end Sys2Proof.Machine
end

