-- ==== Sys2Proof/Machine/Almanac.lean ====
section
/-! DEFINITION. Almanac time, beacons, claims, holdover and island, Forecast calendars (spec/02), and the time services of the
ports (spec/03 R89 to R92). -/

namespace Sys2Proof.Machine

open Sys2Proof

/-! ### Ports and settings -/

/-- The role the coat's Almanac section gives a port (R29, R91). -/
def portRole (s : State) (p : Nat) : PortRole :=
  ((coat s).almanac.roles.find? fun r => r.port == p).getD { port := p }

/-- The Almanac-enabled ports, in port order as the coat lists them. -/
def almPorts (s : State) : List Nat := ((coat s).almanac.roles.filter PortRole.almanac).map PortRole.port

/-- The downstream Almanac-enabled ports: all but the upstream port (log entry 30). -/
def downstreamPorts (s : State) : List Nat := (almPorts s).filter fun p => s.alm.upPort != some p

/-- ALM_CONFIG.GM_CAPABLE (R55). -/
def gmCapable (s : State) : Bool := bit (coatReg s Reg.almConfig 0) 0

/-- ALM_CONFIG.BUILDING_GM, which requires GM_CAPABLE: without it the bit designates nothing (R55; log entry 216). -/
def buildingGmCfg (s : State) : Bool := bit (coatReg s Reg.almConfig 0) 1 && gmCapable s

/-- ALM_CONFIG.ISLAND_POLICY (R55). -/
def islandPolicy (s : State) : Bool := bit (coatReg s Reg.almConfig 0) 2

/-- ALM_CONFIG.PRIORITY (R55). -/
def almPriority (s : State) : Nat := coatFld s Reg.almConfig 0 8 8

/-- ALM_CONFIG.CLOCK_CLASS (R55). -/
def almClass (s : State) : Nat := coatFld s Reg.almConfig 0 16 8

/-- ALM_CONFIG.EXT_REF_EN (R55). -/
def extRefEn (s : State) : Bool := bit (coatReg s Reg.almConfig 0) 3

/-- A port's mean link delay in 1/16 ns: the average of its last eight measurements (R90). Before eight exist it is the average of those
made, 0 before the first, and a part of 1/16 ns is dropped (log entry 217). -/
def meanDelay16 (s : State) (p : Nat) : Nat :=
  let l := (portOf s p).pdelays
  if l.isEmpty then 0 else l.foldl (· + ·) 0 / l.length

/-- The delay of a port's ingress link in 1/16 ns: the mean link delay with LNK_PORT_CFG.ASYM added (R89, R96; log entry 218). -/
def ingressDelay16 (s : State) (p : Nat) : Int :=
  (meanDelay16 s p : Nat) + signed 16 (coatFld s (lnkPort Reg.lnkPortCfg p) 0 16 16)

/-- A frame for the device's clocks on a port that awaits its first MACsec key is dropped and counted like any other (R87). -/
def keyed (p : Nat) (f : State → State) (s : State) : State :=
  if (portOf s p).st == .awaitingKey then bumpPort s Reg.lnkPortDropLo p 1 else f s

/-- Frames of the device's clocks that leave by their ports at once, by port (R90, R91); a port that awaits its first key drops them
(R87). -/
def clockOut (s : State) (l : List (Nat × Out)) : State := l.foldl (fun s x => keyed x.1 (fun s => emit s x.2) s) s

/-- The beacon interval in ns (R21). -/
def beaconInterval : Nat := 128000

/-- The Almanac changed. -/
def setAlm (s : State) (f : Alm → Alm) : State := { s with alm := f s.alm }

/-! ### Grandmaster and state changes (R24, R36, R37, R40) -/

/-- A grandmaster's identity is taken over; a new EUI-64 raises GM_CHANGED (R40, R56). -/
def setGm (s : State) (cls eui prio clk steps : Nat) : State :=
  let changed := s.alm.gmEui ≠ eui
  let s := setAlm s fun a => { a with gmEui := eui, gmPriority := prio, gmClass := clk, gmSteps := steps }
  if changed then raise s Reg.almEventStatus 3 cls noUnit [] else s

/-- The device takes itself as grandmaster. -/
def setGmSelf (s : State) (cls : Nat) : State :=
  setGm s cls Config.eui64.toNat (almPriority s) (almClass s) 0

/-- What steers the clock of the building grandmaster, or of a device that no beacon corrects: the 1PPS and 10 MHz input where EXT_REF_EN
is set, the input valid and the device building grandmaster, else its own oscillator (R25, R633). -/
def freeRate (s : State) : ClockRate :=
  if s.alm.building && extRefEn s && s.alm.extValid then .external else .oscillator

/-- The clock runs uncorrected. -/
def runFree (s : State) : State := setAlm s fun a => { a with rate := freeRate s }

/-- Entry to LOCKED (R24, R56). -/
def enterLocked (s : State) (cls : Nat) : State :=
  raise (setAlm s fun a => { a with st := .locked, missRun := 0 }) Reg.almEventStatus 0 cls noUnit []

/-- Entry to LOCKED as building grandmaster (R24, R25). -/
def enterBuilding (s : State) (cls : Nat) : State :=
  let s := setAlm s fun a => { a with building := true, gm := true, claiming := true, upPort := none, heard := [], noTime := false, pendingStep := none }
  setGmSelf (enterLocked (runFree s) cls) cls

/-- Entry to HOLDOVER: the device runs on its own oscillator (R23, R24, R56). -/
def enterHoldover (s : State) (cls : Nat) : State :=
  raise (runFree (setAlm s fun a => { a with st := .holdover, missRun := 0, accRun := 0 })) Reg.almEventStatus 1 cls noUnit []

/-- UNSYNC set in every group that has a calendar (R36). -/
def setUnsync (s : State) : State :=
  { s with fc := s.fc.map fun p => (p.1, if p.2.cal.period = 0 then p.2 else { p.2 with unsync := true }) }

/-- Entry to ISLAND: UNSYNC, ISLAND_ENTERED; no grandmaster sits yet, and a GM_CAPABLE device claims (R36, R37, R39; log entry 215). -/
def enterIsland (s : State) (cls : Nat) : State :=
  let unset := s.alm.st == .unset
  let s := setAlm s fun a => { a with st := .island, missRun := 0, accRun := 0, fromUnset := unset, claiming := gmCapable s, claimed := false, gm := false }
  let s := setAlm s fun a => { a with gmTick := none, gmSits := false, heard := [], upPort := none, pendingStep := none }
  raise (setUnsync (runFree s)) Reg.almEventStatus 2 cls noUnit []

/-- A beacon is taken for a step of `delta` at the next slot boundary (R27): its grandmaster is seen with it (R40; DEDUCED, log entry 235), and
it stands as last accepted for the window only (R32). -/
def stepsTo (s : State) (delta : Int) (b : Beacon) : State :=
  let s := setAlm s fun a => { a with pendingStep := some delta, expect := b.origin.toNat + beaconInterval, lastCorr := b.correction.toNat, noTime := false, taken := true }
  setGm s 1 b.gmEui.toNat b.priority.toNat b.clockClass.toNat b.steps.toNat

/-- Entry to ACQUIRING, with the step to the beacon's time (R24, R27). -/
def enterAcquiring (s : State) (delta : Int) (b : Beacon) : State :=
  let leave : Alm → Alm := fun a => { a with st := .acquiring, accRun := 0, missRun := 0, claiming := false, claimed := false, gm := false, fromUnset := false }
  stepsTo (runFree (setAlm s leave)) delta b

/-- One more missed or rejected beacon: no offset is left to correct, and the run's third takes ACQUIRING to ISLAND and LOCKED to HOLDOVER
(R24, R27). -/
def almMiss (s : State) (cls : Nat) : State :=
  let s := runFree (setAlm s fun a => { a with missRun := a.missRun + 1, accRun := 0 })
  if s.alm.missRun < 3 then s
  else match s.alm.st with
    | .acquiring => enterIsland s cls
    | .locked => enterHoldover s cls
    | _ => s

/-- The ports that showed no beacon of the interval E are forgotten (R29; log entry 212). -/
def forgetSilent (s : State) : State :=
  let heard := s.alm.heard.filter fun x => decide (s.alm.expect ≤ x.2.2)
  setAlm s fun a => { a with heard, upPort := bestHeard heard }

/-- The interval E is missed: it is counted, and the next is expected (R32, R34). -/
def missInterval (s : State) (cls : Nat) : State :=
  let s := setAlm (forgetSilent s) fun a => { a with expect := a.expect + beaconInterval }
  almMiss (bump s Reg.almBcnMissedLo 1) cls

/-- `n` intervals missed, from E on (R32, R34). -/
def almMissed (s : State) (cls : Nat) : Nat → State
  | 0 => s
  | n + 1 => almMissed (missInterval s cls) cls n

/-! ### Beacons (R28 to R35) -/

/-- The field checks of R28. -/
def beaconOk (s : State) (b : Beacon) : Bool :=
  b.version == 1 && b.typ.toNat ≤ 1 && b.domain == (coat s).almanac.domain &&
    (b.typ != 0 || b.origin.toNat % beaconInterval == 0) && !b.correction.msb && b.steps.toNat ≤ 64

/-- The offset of a beacon in units of 2^-16 ns: own time at the ingress timestamp, less CORRECTION, less the mean link delay,
less ORIGIN_TIME (R89's asymmetry corrects the link delay). -/
def beaconOffset (s : State) (p stamp16 : Nat) (b : Beacon) : Int :=
  (stamp16 * 4096 : Nat) - (b.correction.toNat : Int) - ingressDelay16 s p * 4096 - (b.origin.toNat * 65536 : Nat)

/-- The beacon a port heard, for the choice of the upstream port (R29): STEPS_REMOVED, an island beacon behind every other
while the device is not LOCKED (R38). -/
def hear (s : State) (p : Nat) (b : Beacon) : State :=
  let rank := b.steps.toNat + if b.island && s.alm.st != .locked then 65536 else 0
  let clear : Alm → Alm := fun a => if b.island then a else { a with heardClear := true, clearTick := some (tickNow s) }
  let heard := alSet s.alm.heard p (rank, b.origin.toNat)
  setAlm (setAlm s clear) fun a => { a with heard, upPort := bestHeard heard }

/-- A beacon regenerated on every downstream port: the origin time stays, CORRECTION grows by the ingress link delay and the
residence time (a free value: when it leaves is timing), STEPS_REMOVED by one. -/
def regenerate (s : State) (p : Nat) (b : Beacon) : List Nat → State
  | [] => s
  | q :: rest =>
    let d := draw s
    let corr : Int := b.correction.toNat + ingressDelay16 s p * 4096 + (d.1 : Nat)
    let b' := { b with correction := BitVec.ofInt 64 corr, steps := b.steps + 1, holdover := b.holdover }
    regenerate (emit d.2 (.beacon q b')) p b rest

/-- A beacon of its own interval, accepted within 8 ns or rejected (R31, R24); the offset of an accepted one is corrected over the next
interval (R27, R37). -/
def judge (s : State) (p stamp16 : Nat) (b : Beacon) : State :=
  let off := beaconOffset s p stamp16 b
  let s := setAlm s fun a => { a with expect := b.origin.toNat + beaconInterval }
  if off < -524288 then almMiss (bump s Reg.almBcnEarlyLo 1) 1
  else if off > 524288 then almMiss (bump s Reg.almBcnLateLo 1) 1
  else
    let s := bump s Reg.almBcnAcceptedLo 1
    let s := setAlm s fun a => { a with accRun := a.accRun + 1, missRun := 0, lastCorr := b.correction.toNat, offset16 := off / 4096, upHoldover := b.holdover }
    let s := setAlm s fun a => { a with taken := true }
    let s := setGm s 1 b.gmEui.toNat b.priority.toNat b.clockClass.toNat b.steps.toNat
    let s := match s.alm.st with
      | .acquiring => if 2 ≤ s.alm.accRun then enterLocked s 1 else s
      | .holdover => enterLocked s 1
      | _ => s
    let s := if s.alm.st == .locked || s.alm.st == .island then setAlm s fun a => { a with rate := .slewing off } else s
    regenerate s p b (downstreamPorts s)

/-- A beacon for timing: a stale one is counted late and ignored; one from a later interval first counts the intervals before it
as missed (R34). -/
def judgeBeacon (s : State) (p stamp16 : Nat) (b : Beacon) : State :=
  if b.origin.toNat < s.alm.expect then bump s Reg.almBcnLateLo 1
  else judge (almMissed s 1 ((b.origin.toNat - s.alm.expect) / beaconInterval)) p stamp16 b

/-- The step that brings the device's time to a beacon's: less its offset, which is taken down to a whole ns (R24, R27; log entry 219). -/
def stepTo (s : State) (p stamp16 : Nat) (b : Beacon) : Int := -(beaconOffset s p stamp16 b / 65536)

/-- The full comparison of claims: PRIORITY, CLOCK_CLASS, EUI-64, the lower first (R39). -/
def claimBetter (p1 c1 e1 p2 c2 e2 : Nat) : Bool :=
  p1 < p2 || (p1 == p2 && (c1 < c2 || (c1 == c2 && e1 < e2)))

/-- Strictly better on PRIORITY or on CLOCK_CLASS (R39). -/
def claimDisplaces (p1 c1 p2 c2 : Nat) : Bool := p1 < p2 || (p1 == p2 && c1 < c2)

/-- A claimant stops sending claims and beacons and raises GM_CLAIM_LOST (R40). -/
def stopClaiming (s : State) : State :=
  let lost := s.alm.claiming
  let s := setAlm s fun a => { a with claiming := false, claimed := false, gm := false }
  if lost then raise s Reg.almEventStatus 4 1 noUnit [] else s

/-- The sender of an island beacon sits as the island's grandmaster: a claimant whose claim would not displace it stops claiming (R37,
R39, R40; log entry 215). -/
def islandGm (s : State) (b : Beacon) : State :=
  let since := if s.alm.gmSits && s.alm.gmEui == b.gmEui.toNat then s.alm.gmTick else some (tickNow s)
  let s := setAlm s fun a => { a with gmSits := true, gmTick := since }
  if s.alm.claiming && !claimDisplaces (almPriority s) (almClass s) b.priority.toNat b.clockClass.toNat then stopClaiming s else s

/-- A well-formed beacon on the upstream port (R24, R25, R37). -/
def useBeacon (s : State) (p stamp16 : Nat) (b : Beacon) : State :=
  match s.alm.st with
  | .unset => if b.island then s else enterAcquiring s (stepTo s p stamp16 b) b
  | .island =>
    if !b.island then enterAcquiring s (stepTo s p stamp16 b) b
    else
      let s := islandGm s b
      if s.alm.fromUnset && s.alm.noTime then stepsTo s (stepTo s p stamp16 b) b else judgeBeacon s p stamp16 b
  | .acquiring =>
    if b.island then s
    else if s.alm.noTime then enterAcquiring s (stepTo s p stamp16 b) b
    else judgeBeacon s p stamp16 b
  | _ => if b.island then s else judgeBeacon s p stamp16 b

/-- Whether this twin takes its time from the left over the bridge (R508). -/
def timeFromLeft (s : State) : Bool := s.scr.role == 2 && (s.scr.st == .paired || s.scr.st == .rejoining)

/-- A beacon or claim on an endpoint-facing port, or one that fails a field check, is counted and ignored (R28, R29); one on a
port that is not Almanac-enabled is not used. -/
def almArrival (s : State) (p : Nat) (b : Beacon) (f : State → State) : State :=
  if (portRole s p).facing || ((portRole s p).almanac && !beaconOk s b) then bump s Reg.almBcnMalformedLo 1
  else if (portRole s p).almanac && !timeFromLeft s then f s else s

/-! ### Claims (R37 to R40) -/

/-- A better claim: a claimant yields, and the new grandmaster is seen (R40). It sits once its beacons come (log entry 215). -/
def yieldTo (s : State) (b : Beacon) : State :=
  let s := setAlm (stopClaiming s) fun a => { a with gmTick := some (tickNow s), gmSits := false }
  setGm s 1 b.gmEui.toNat b.priority.toNat b.clockClass.toNat b.steps.toNat

/-- The building grandmaster yields: it is in ACQUIRING, and steps to the winner's first beacon; until then its own count says when
beacons are missed (R24, R40). -/
def yieldBuilding (s : State) (b : Beacon) : State :=
  let s := setAlm (yieldTo s b) fun a => { a with building := false, st := .acquiring, noTime := true, accRun := 0, missRun := 0, rate := .oscillator }
  setAlm s fun a => { a with expect := (a.time / beaconInterval + 1) * beaconInterval, lastCorr := 0, heard := [], upPort := none }

/-- Whether an island claim with identity (p, c, e) is better than what stands at this device: its own claim, or the grandmaster seen. The
full comparison decides while no grandmaster sits and between claims of one tick, else a sitting one is displaced on PRIORITY or
CLOCK_CLASS alone (R39). -/
def claimWins (s : State) (p c e : Nat) : Bool :=
  let full := !s.alm.gmSits || s.alm.gmTick == some (tickNow s)
  if s.alm.claiming then
    if full then claimBetter p c e (almPriority s) (almClass s) Config.eui64.toNat
    else claimDisplaces p c (almPriority s) (almClass s)
  else if s.alm.gmTick.isNone then true
  else if full then claimBetter p c e s.alm.gmPriority s.alm.gmClass s.alm.gmEui
  else claimDisplaces p c s.alm.gmPriority s.alm.gmClass

/-- A well-formed claim (R25, R39, R40). A claim with ISLAND clear is noted in ISLAND (R24). -/
def useClaim (s : State) (b : Beacon) : State :=
  let p := b.priority.toNat
  let c := b.clockClass.toNat
  let e := b.gmEui.toNat
  if e = Config.eui64.toNat then s
  else if s.alm.building then
    if !b.island && claimBetter p c e (almPriority s) (almClass s) Config.eui64.toNat then
      yieldBuilding s b
    else s
  else match s.alm.st with
    | .island =>
      if !b.island then setAlm s fun a => { a with clearTick := some (tickNow s) }
      else if !s.alm.claiming && s.alm.gmTick.isSome && s.alm.gmEui == e then setGm s 1 e p c b.steps.toNat
      else if claimWins s p c e then yieldTo s b else s
    | _ => s

/-! ### Meanings -/

/-- ALM_START (R22): a designated device starts its count at ALM_START_TIME. -/
def execAlmStart (s : State) : Host.Outcome State Fault Refusal := live true s fun s =>
  if buildingGmCfg s && !s.alm.started && s.alm.st == .unset && s.alm.noTime then
    setAlm s fun a => { a with started := true, noTime := false, time := coatReg s Reg.almStartTimeLo 0 + two32 * coatReg s Reg.almStartTimeHi 0 }
  else s

/-- The building grandmaster's clock takes the external input, or leaves it (R25, R633). -/
def steered (s : State) : State := if s.alm.building then runFree s else s

/-- EXT_REF_EDGE (R633): the third consecutive good edge makes the reference valid; a bad one ends it. -/
def execExtRefEdge (intervalNs : Nat) (tenMOk : Bool) (s : State) : Host.Outcome State Fault Refusal := live true s fun s =>
  if tenMOk && 999999900 ≤ intervalNs && intervalNs ≤ 1000000100 then
    steered (setAlm s fun a => { a with extEdges := a.extEdges + 1, extValid := a.extValid || 3 ≤ a.extEdges + 1 })
  else steered (setAlm s fun a => { a with extEdges := 0, extValid := false })

/-- EXT_REF_LOST (R633): the device runs on REFCLK_CORE without a time step. -/
def execExtRefLost (s : State) : Host.Outcome State Fault Refusal := live true s fun s =>
  steered (setAlm s fun a => { a with extEdges := 0, extValid := false })

/-- A beacon or claim that arrived on a port at an ingress timestamp in 1/16 ns (R28 to R40). The building grandmaster takes no beacon for
timing (R25), nor does a sitting island grandmaster another island's (R37). -/
def takeBeacon (s : State) (p stamp16 : Nat) (b : Beacon) : State :=
  almArrival s p b fun s =>
    if b.typ = 1 then useClaim s b
    else if s.alm.building || (s.alm.gm && b.island) then s
    else
      let s := hear s p b
      if s.alm.upPort = some p then useBeacon s p stamp16 b else s

/-- BEACON_RX (R31). -/
def execBeaconRx (port stamp16 : Nat) (b : Beacon) (s : State) : Host.Outcome State Fault Refusal :=
  live (Instr.beaconRx port stamp16 b).wf s (keyed port fun s => takeBeacon s port stamp16 b)

/-- CLAIM_RX (R39). -/
def execClaimRx (port : Nat) (b : Beacon) (s : State) : Host.Outcome State Fault Refusal :=
  live (Instr.claimRx port b).wf s (keyed port fun s => almArrival s port b fun s => if b.typ = 1 then useClaim s b else s)

/-- Whether the device waits for beacons: it has a time of its own that beacons correct, or has yielded (R24, R25, R27, R37, R508). -/
def awaitsBeacons (s : State) : Bool :=
  !s.alm.building && !s.alm.gm && s.alm.st != .unset && (!s.alm.noTime || s.alm.st == .acquiring) && s.alm.pendingStep.isNone && !timeFromLeft s

/-- The time at which the acceptance window for E closes, in units of 2^-16 ns: E + mean link delay + CORRECTION of the last accepted beacon +
8 ns (R32). -/
def windowEnd (s : State) : Int :=
  (s.alm.expect * 65536 : Nat) + ((s.alm.upPort.map (ingressDelay16 s)).getD 0) * 4096 + (s.alm.lastCorr : Nat) + 524288

/-- BEACON_WINDOW_CLOSE (R32): once the device's own time has reached its end, the window of E closes, and the interval is missed. An interval
that has an outcome is E no longer, and its window closes no more (R33, R45). -/
def execBeaconWindowClose (s : State) : Host.Outcome State Fault Refusal := live true s fun s =>
  if awaitsBeacons s && decide (windowEnd s ≤ (s.alm.time * 65536 : Nat)) then missInterval s 3 else s

/-- HOLDOVER_LIMIT_EXPIRY (R26, R24). -/
def execHoldoverLimitExpiry (s : State) : Host.Outcome State Fault Refusal := live true s fun s =>
  if s.alm.st == .holdover then enterIsland s 3 else s

/-- ALMANAC_START_TIMEOUT (R24): three beacon intervals in UNSET without a beacon with ISLAND clear. -/
def execAlmanacStartTimeout (s : State) : Host.Outcome State Fault Refusal := live true s fun s =>
  if s.alm.st == .unset && !s.alm.heardClear then (if buildingGmCfg s then enterBuilding s 3 else enterIsland s 3) else s

/-- ISLAND_GM_TIMEOUT (R24): three beacon intervals in ISLAND without a beacon or claim with ISLAND clear, which starts them again; one
heard in the tick of the expiry cancels it (R45). -/
def execIslandGmTimeout (s : State) : Host.Outcome State Fault Refusal := live true s fun s =>
  if s.alm.st == .island && buildingGmCfg s && s.alm.clearTick != some (tickNow s) then enterBuilding s 3 else s

/-- TIME_STEPPED (R27): the step takes place at a slot boundary and calendars restart at their next period boundary. -/
def execTimeStepped (s : State) : Host.Outcome State Fault Refusal := live true s fun s =>
  match s.alm.pendingStep with
  | none => s
  | some d =>
    let s := setAlm s fun a => { a with pendingStep := none, started := true, time := (((a.time : Int) + d) % (two64 : Int)).toNat }
    raise { s with fc := s.fc.map fun p => (p.1, { p.2 with active := [], restart := p.2.cal.period != 0 }) } Reg.almEventStatus 5 4 noUnit []

/-- A beacon of the device's own: from its count, at a multiple of the beacon interval (R25, R35, R37). SEQUENCE is a count of the device's
own, in HOLDOVER too (log entry 220). -/
def ownBeacon (s : State) (typ : BitVec 4) (holdover island : Bool) (seq : Nat) : Beacon :=
  { version := 1, typ, priority := BitVec.ofNat 8 (if holdover then s.alm.gmPriority else almPriority s),
    clockClass := BitVec.ofNat 8 (if holdover then s.alm.gmClass else almClass s), holdover, island,
    domain := (coat s).almanac.domain, gmEui := if holdover then BitVec.ofNat 64 s.alm.gmEui else Config.eui64,
    origin := BitVec.ofNat 64 (now s / beaconInterval * beaconInterval), correction := 0,
    steps := BitVec.ofNat 16 (if holdover then s.alm.gmSteps + 1 else 0), seq := BitVec.ofNat 16 seq }

/-- BEACON_SEND (R25, R35, R37): the building grandmaster, an island's grandmaster and a device in HOLDOVER send a beacon on
every downstream Almanac-enabled port. -/
def execBeaconSend (s : State) : Host.Outcome State Fault Refusal := live true s fun s =>
  let island := s.alm.st == .island && s.alm.gm
  let holdover := s.alm.st == .holdover
  if s.alm.building || island || holdover then
    let b := ownBeacon s 0 holdover island s.alm.bcnSeq
    let s := emits s ((downstreamPorts s).map fun p => .beacon p b)
    setAlm s fun a => { a with bcnSeq := (a.bcnSeq + 1) % two16 }
  else s

/-- A claimant whose claim has been out for a beacon interval without a better one sits as the island's grandmaster (R37; log entry 215). -/
def sit (s : State) : State :=
  if s.alm.building || s.alm.gm then s
  else if s.alm.claimed then
    setGmSelf (runFree (setAlm s fun a => { a with gm := true, gmSits := true, gmTick := some (tickNow s), noTime := false, pendingStep := none, heard := [], upPort := none })) 3
  else setAlm s fun a => { a with claimed := true }

/-- CLAIM_FLOOD (R25, R37): the building grandmaster with ISLAND clear, a claimant in ISLAND with ISLAND set, on every
Almanac-enabled port. -/
def execClaimFlood (s : State) : Host.Outcome State Fault Refusal := live true s fun s =>
  if s.alm.building || (s.alm.st == .island && s.alm.claiming) then
    let s := sit s
    let b := ownBeacon s 1 false (!s.alm.building) s.alm.claimSeq
    let s := emits s ((almPorts s).map fun p => .beacon p b)
    setAlm s fun a => { a with claimSeq := (a.claimSeq + 1) % two16 }
  else s

/-- PDELAY_MEASURE (R90): the last eight measurements are kept. -/
def execPdelayMeasure (port delay16 : Nat) (s : State) : Host.Outcome State Fault Refusal :=
  live (Instr.pdelayMeasure port delay16).wf s <| keyed port fun s =>
    if (portRole s port).almanac then
      setPort s port fun q => { q with pdelays := (q.pdelays ++ [delay16]).drop (q.pdelays.length + 1 - 8) }
    else s

/-- LNK_PORT_CFG.PTP_EN of a port (R96). -/
def ptpEn (s : State) (p : Nat) : Bool := bit (coatReg s (lnkPort Reg.lnkPortCfg p) 0) 3

/-- PDELAY_REQ_RX (R90): answered on every port with PTP_EN set or with Almanac enabled. -/
def execPdelayReqRx (port : Nat) (seqId : BitVec 16) (s : State) : Host.Outcome State Fault Refusal :=
  live (Instr.pdelayReqRx port seqId).wf s <| keyed port fun s =>
    if ptpEn s port || (portRole s port).almanac then emit s (.pdelayResp port seqId) else s

/-- The other ports with PTP_EN set. -/
def ptpOthers (s : State) (p : Nat) : List Nat :=
  ((coat s).almanac.roles.map PortRole.port).filter fun q => q != p && ptpEn s q

/-- What a transparent clock adds to a frame of a port: its residence time, and peer-to-peer the delay of the ingress link (R91). -/
def transit (s : State) (port : Nat) (p2p : Bool) (f : Ptp) : Int :=
  (f.residence : Nat) + if p2p then ingressDelay16 s port * 4096 else 0

/-- A frame of a transparent clock leaves by every other port with PTP_EN set, with an addition to its correction field. -/
def ptpOn (s : State) (port : Nat) (f : Ptp) (add : Int) : State :=
  clockOut s ((ptpOthers s port).map fun q => (q, .ptp q { f with correction := f.correction + add }))

/-- What a two-step transparent clock holds for the follow-up of a frame, held and taken out again (R91). -/
def keepTransit (s : State) (port key : Nat) (add : Int) : State :=
  { s with lnk := { s.lnk with residences := alSet s.lnk.residences (port, key) add } }

/-- The additions held under a key of frames that came by any port that satisfies a test, and the state without them. -/
def takeTransit (s : State) (key : Nat) (by_ : Nat → Bool) : Int × State :=
  let hit := s.lnk.residences.filter fun x => x.1.2 == key && by_ x.1.1
  ((hit.map Prod.snd).foldl (· + ·) 0, { s with lnk := { s.lnk with residences := s.lnk.residences.filter fun x => !(x.1.2 == key && by_ x.1.1) } })

/-- PTP_FRAME_RX (R91): a boundary clock serves Almanac time plus the coat's PTP offset; a transparent clock passes frames on, and their
residence time is added to the correction field of the event frame itself (one-step) or of the Follow_Up or Delay_Resp that follows it
(two-step). -/
def execPtpFrameRx (port : Nat) (f : Ptp) (s : State) : Host.Outcome State Fault Refusal :=
  live (Instr.ptpFrameRx port f).wf s <| keyed port fun s =>
    if !ptpEn s port then s
    else match (portRole s port).ptp with
      | .off => s
      | .boundary =>
        match f.kind with
        | .delayReq => emit s (.ptpTime port .delayResp f.seqId ((now s : Int) + (coat s).almanac.ptpOffset))
        | .pdelayReq => emit s (.pdelayResp port f.seqId)
        | _ => s
      | .transparent oneStep p2p =>
        let n := f.seqId.toNat
        match f.kind with
        | .sync => if oneStep then ptpOn s port f (transit s port p2p f) else ptpOn (keepTransit s port n (transit s port p2p f)) port f 0
        | .followUp =>
          let r := takeTransit s n fun q => q == port
          ptpOn r.2 port f r.1
        | .delayReq => if oneStep then ptpOn s port f (transit s port false f) else ptpOn (keepTransit s port (65536 + n) (transit s port false f)) port f 0
        | .delayResp =>
          let r := takeTransit s (65536 + n) fun q => q != port
          ptpOn r.2 port f r.1
        | .pdelayReq => if p2p then emit s (.pdelayResp port f.seqId) else ptpOn s port f (transit s port false f)
        | .pdelayResp => if p2p then s else ptpOn s port f (transit s port false f)

/-- SYNCE_SELECT (R92): the reference is the UP port with SYNCE_SRC set whose ESMC quality level is best, the lower port among
equals (log entry 31). -/
def execSynceSelect (levels : List (Nat × Nat)) (s : State) : Host.Outcome State Fault Refusal :=
  live (Instr.synceSelect levels).wf s fun s =>
    let ok := levels.filter fun x => bit (coatReg s (lnkPort Reg.lnkPortCfg x.1) 0) 4 && (portOf s x.1).st == .up
    let best := ok.foldl (fun (m : Option (Nat × Nat)) x => match m with
      | none => some x
      | some y => if x.2 < y.2 ∨ (x.2 = y.2 ∧ x.1 < y.1) then some x else some y) none
    { s with lnk := { s.lnk with syncE := best.map Prod.fst } }

/-- The Almanac state a code of R23 names. -/
def almOfCode (n : Nat) : AlmSt :=
  match n with
  | 0 => .unset
  | 1 => .acquiring
  | 2 => .locked
  | 3 => .holdover
  | _ => .island

/-- The right twin's Almanac state follows the left's: entry to LOCKED, HOLDOVER and ISLAND has its event, and ISLAND its UNSYNC, here too
(R36, R56, R508). -/
def followLeft (s : State) (st : AlmSt) : State :=
  if s.alm.st = st then s
  else
    let s := setAlm s fun a => { a with st }
    match st with
    | .locked => raise s Reg.almEventStatus 0 4 noUnit []
    | .holdover => raise s Reg.almEventStatus 1 4 noUnit []
    | .island => raise (setUnsync s) Reg.almEventStatus 2 4 noUnit []
    | _ => s

/-- TWIN_TIME_SYNC (R508): the right twin takes time and state from the left. -/
def execTwinTimeSync (leftTime : BitVec 64) (leftState : BitVec 3) (s : State) : Host.Outcome State Fault Refusal :=
  live true s fun s =>
    if timeFromLeft s then followLeft (setAlm s fun a => { a with time := leftTime.toNat, noTime := false }) (almOfCode leftState.toNat) else s

/-! ### Forecast (R48 to R52) -/

/-- A group's calendar changed. -/
def setFc (s : State) (g : Nat) (f : FcGrp → FcGrp) : State := { s with fc := alMod s.fc g {} f }

/-- FORECAST_ENTRY_START (R48): in the first of its slots the entry becomes active; after a step of time none does before the next period
boundary (R27). -/
def execForecastEntryStart (group entry : Nat) (s : State) : Host.Outcome State Fault Refusal :=
  live (Instr.forecastEntryStart group entry).wf s fun s =>
    let g := alGetD s.fc group {}
    if !g.restart && inForce g.cal entry (slotNow s) then setFc s group fun g => { g with active := addOnce g.active entry } else s

/-- FORECAST_ENTRY_END (R48): past the last of its slots the entry is active no longer. -/
def execForecastEntryEnd (group entry : Nat) (s : State) : Host.Outcome State Fault Refusal :=
  live (Instr.forecastEntryEnd group entry).wf s fun s =>
    match alGet s.fc group with
    | none => s
    | some g => if inForce g.cal entry (slotNow s) then s else setFc s group fun g => { g with active := without g.active entry }

/-- FORECAST_PERIOD_BOUNDARY (R51, R36, R27): in the first slot of a period a replacement takes over, a calendar that a step of time stopped
runs again, and UNSYNC clears once the device is LOCKED. -/
def execForecastPeriodBoundary (group : Nat) (s : State) : Host.Outcome State Fault Refusal :=
  live (Instr.forecastPeriodBoundary group).wf s fun s =>
    match alGet s.fc group with
    | none => s
    | some g =>
      if !atBoundary g.cal (slotNow s) then s
      else
        let g := match g.next with
          | none => g
          | some c => { g with cal := c.getD {}, next := none, active := [] }
        { s with fc := alSet s.fc group { g with unsync := g.unsync && s.alm.st != .locked, restart := false } }

end Sys2Proof.Machine
end

