-- ==== Sys2Proof/Machine/Formats.lean ====
section
/-! DEFINITION. Number formats (spec/13): the twelve formats of R321 and R426, exact decoding, the one rounding of R427 with the
saturation of R428, special values (R429), conversions (R430), FP32 arithmetic, element packing (R425), MX scales (R431 to R434) and
compressed operand blocks (R435 to R441). -/

namespace Sys2Proof.Machine

open Sys2Proof

/-- A format of R426: width, exponent and mantissa bits, bias; the encoding of the largest finite magnitude; the infinity and the
canonical NaN where it has them. Integers have no exponent. -/
structure Fmt where
  bits : Nat
  exp : Nat := 0
  man : Nat := 0
  bias : Nat := 0
  maxMag : Nat := 0
  inf : Option Nat := none
  nan : Option Nat := none
  int : Bool := false
deriving DecidableEq, Repr

/-- The formats by their codes (R321, R426). -/
def fmtOf (code : Nat) : Fmt :=
  match code with
  | 0 => { bits := 32, exp := 8, man := 23, bias := 127, maxMag := 0x7F7FFFFF, inf := some 0x7F800000, nan := some 0x7FC00000 }
  | 1 => { bits := 16, exp := 8, man := 7, bias := 127, maxMag := 0x7F7F, inf := some 0x7F80, nan := some 0x7FC0 }
  | 2 => { bits := 16, exp := 5, man := 10, bias := 15, maxMag := 0x7BFF, inf := some 0x7C00, nan := some 0x7E00 }
  | 3 => { bits := 8, exp := 5, man := 2, bias := 15, maxMag := 0x7B, inf := some 0x7C, nan := some 0x7E }
  | 4 => { bits := 8, exp := 4, man := 3, bias := 7, maxMag := 0x7E, nan := some 0x7F }
  | 5 => { bits := 6, exp := 3, man := 2, bias := 3, maxMag := 0x1F }
  | 6 => { bits := 6, exp := 2, man := 3, bias := 1, maxMag := 0x1F }
  | 7 => { bits := 4, exp := 2, man := 1, bias := 1, maxMag := 0x7 }
  | 8 => { bits := 4, int := true }
  | 9 => { bits := 8, int := true }
  | 10 => { bits := 32, int := true }
  | 11 => { bits := 64, int := true }
  | _ => { bits := 8, int := true }

/-- FP32. -/
def fp32 : Fmt := fmtOf 0

/-- The value of an integer. -/
def Num.ofInt (v : Int) : Num := .fin (decide (v < 0)) v.natAbs 0

/-- The value an encoding stands for (R426). -/
def decodeNum (f : Fmt) (w : Nat) : Num :=
  let w := w % 2 ^ f.bits
  if f.int then Num.ofInt (signed f.bits w)
  else
    let neg := w.testBit (f.bits - 1)
    let mag := w % 2 ^ (f.bits - 1)
    let e := mag / 2 ^ f.man
    let m := mag % 2 ^ f.man
    if f.inf = some mag then .inf neg
    else if f.maxMag < mag then .nan
    else if e = 0 then .fin neg m (1 - (f.bias : Int) - f.man)
    else .fin neg (2 ^ f.man + m) (e - (f.bias : Int) - f.man)

/-! ### Rounding (R427 to R429) -/

/-- `m / 2^k` rounded to the nearest integer, ties to even. -/
def rneShift (m k : Nat) : Nat :=
  let q := m >>> k
  let r := m % 2 ^ k
  if k = 0 then m
  else if r * 2 > 2 ^ k ∨ (r * 2 = 2 ^ k ∧ q % 2 = 1) then q + 1 else q

/-- The encoding of the magnitude m * 2^e rounded once into a floating format and saturated (R427, R428). -/
def roundMag (f : Fmt) (m : Nat) (e : Int) : Nat :=
  if m = 0 then 0
  else
    let low : Int := 1 - (f.bias : Int) - f.man
    let q := max ((Nat.log2 m : Int) + e - f.man) low
    let r := if q ≤ e then m <<< (e - q).toNat else rneShift m (q - e).toNat
    min ((q - low).toNat * 2 ^ f.man + r) f.maxMag

/-- The integer nearest to (-1)^neg * m * 2^e, ties to even. -/
def roundInt (neg : Bool) (m : Nat) (e : Int) : Int :=
  let v := if 0 ≤ e then m <<< e.toNat else rneShift m (-e).toNat
  if neg then -(v : Int) else v

/-- The encoding of a value in a format, rounded once (R427 to R430). -/
def encodeNum (f : Fmt) (x : Num) : Nat :=
  let sign : Nat := 2 ^ (f.bits - 1)
  if f.int then
    let hi : Int := (sign : Int) - 1
    let lo : Int := -(sign : Int)
    match x with
    | .nan => 0
    | .inf neg => unsigned f.bits (if neg then lo else hi)
    | .fin neg m e => unsigned f.bits (max lo (min hi (roundInt neg m e)))
  else
    match x with
    | .nan => f.nan.getD 0
    | .inf neg => (if neg then sign else 0) + f.inf.getD f.maxMag
    | .fin neg m e => (if neg then sign else 0) + roundMag f m e

/-- A conversion between formats (R430): integers to integers wrap or sign-extend, everything else rounds once. -/
def convert (src dst : Fmt) (w : Nat) : Nat :=
  if src.int && dst.int then unsigned dst.bits (signed src.bits w) else encodeNum dst (decodeNum src w)

/-! ### Exact arithmetic on values, and FP32 arithmetic rounded once (R427, R428) -/

/-- A value's sign. -/
def Num.neg : Num → Bool
  | .nan => false
  | .inf n => n
  | .fin n _ _ => n

/-- Whether a value is finite. -/
def Num.finite : Num → Bool
  | .fin _ _ _ => true
  | _ => false

/-- Whether a value is a zero. -/
def Num.isZero : Num → Bool
  | .fin _ m _ => m == 0
  | _ => false

/-- A value with its sign changed. -/
def Num.flip : Num → Num
  | .nan => .nan
  | .inf n => .inf !n
  | .fin n m e => .fin (!n) m e

/-- A finite value as an integer multiple of 2^e, for e at or below its own exponent. -/
def Num.scaled (e : Int) : Num → Int
  | .fin n m f => let v : Int := m <<< (f - e).toNat; if n then -v else v
  | _ => 0

/-- Exact sum, with the special values and zero signs of IEEE 754. -/
def Num.add (a b : Num) : Num :=
  match a, b with
  | .nan, _ => .nan
  | _, .nan => .nan
  | .inf x, .inf y => if x = y then .inf x else .nan
  | .inf x, _ => .inf x
  | _, .inf y => .inf y
  | .fin x m e, .fin y n f =>
    let g := min e f
    let v := (Num.fin x m e).scaled g + (Num.fin y n f).scaled g
    if v = 0 then .fin (x && y) 0 0 else .fin (decide (v < 0)) v.natAbs g

/-- Exact product, with the special values and signs of IEEE 754. -/
def Num.mul (a b : Num) : Num :=
  match a, b with
  | .nan, _ => .nan
  | _, .nan => .nan
  | .inf x, .inf y => .inf (x != y)
  | .inf x, .fin y m _ => if m = 0 then .nan else .inf (x != y)
  | .fin x m _, .inf y => if m = 0 then .nan else .inf (x != y)
  | .fin x m e, .fin y n f => .fin (x != y) (m * n) (e + f)

/-- A quotient to 80 bits and a sticky bit, so that every format rounds it as the exact one would be. -/
def Num.div (a b : Num) : Num :=
  match a, b with
  | .nan, _ => .nan
  | _, .nan => .nan
  | .inf _, .inf _ => .nan
  | .inf x, .fin y _ _ => .inf (x != y)
  | .fin x _ _, .inf y => .fin (x != y) 0 0
  | .fin x m e, .fin y n f =>
    if n = 0 then (if m = 0 then .nan else .inf (x != y))
    else
      let k := 80 + Nat.log2 n
      let q := (m <<< k) / n
      let sticky := if (m <<< k) % n = 0 then 0 else 1
      .fin (x != y) (2 * q + sticky) (e - f - k - 1)

/-- The integer square root of a number below 4^n, bit by bit. -/
def isqrt (n v : Nat) : Nat :=
  (List.range n).foldl (fun r i =>
    let c := r + 2 ^ (n - 1 - i)
    if c * c ≤ v then c else r) 0

/-- A square root to 60 bits and a sticky bit; the root of a negative value is a NaN, of -0 it is -0. -/
def Num.sqrt (a : Num) : Num :=
  match a with
  | .nan => .nan
  | .inf n => if n then .nan else .inf false
  | .fin x m e =>
    if m = 0 then .fin x 0 0
    else if x then .nan
    else
      let k := 120 + (e % 2).toNat
      let v := m <<< k
      let r := isqrt (Nat.log2 v / 2 + 1) v
      let sticky := if r * r = v then 0 else 1
      .fin false (2 * r + sticky) ((e - k) / 2 - 1)

/-- Whether a value is below another; false where either is a NaN. Zeros are equal. -/
def Num.lt (a b : Num) : Bool :=
  match a, b with
  | .nan, _ => false
  | _, .nan => false
  | .inf x, .inf y => x && !y
  | .inf x, _ => x
  | _, .inf y => !y
  | .fin x m e, .fin y n f =>
    let g := min e f
    decide ((Num.fin x m e).scaled g < (Num.fin y n f).scaled g)

/-- Whether two values are equal; false where either is a NaN. -/
def Num.eqv (a b : Num) : Bool := a != .nan && b != .nan && !a.lt b && !b.lt a

/-- MAX and MIN (R429): -0 below +0, NaN where either is one. -/
def Num.max (a b : Num) : Num :=
  if a = .nan ∨ b = .nan then .nan
  else if a.lt b then b else if b.lt a then a else if a.neg then b else a

/-- MIN (R429). -/
def Num.min (a b : Num) : Num :=
  if a = .nan ∨ b = .nan then .nan
  else if a.lt b then a else if b.lt a then b else if a.neg then a else b

/-- An FP32 operation: exact, then rounded once into FP32 (R427, R428). -/
def f32op (f : Num → Num → Num) (a b : Nat) : Nat := encodeNum fp32 (f (decodeNum fp32 a) (decodeNum fp32 b))

/-- FP32 sum. -/
def f32add (a b : Nat) : Nat := f32op Num.add a b

/-- FP32 difference. -/
def f32sub (a b : Nat) : Nat := f32op (fun x y => x.add y.flip) a b

/-- FP32 product. -/
def f32mul (a b : Nat) : Nat := f32op Num.mul a b

/-- FP32 quotient. -/
def f32div (a b : Nat) : Nat := f32op Num.div a b

/-- FP32 square root, correctly rounded. -/
def f32sqrt (a : Nat) : Nat := encodeNum fp32 (decodeNum fp32 a).sqrt

/-- FP32 1. -/
def f32one : Nat := 0x3F800000

/-! ### Packing (R425) -/

/-- The low `n` bits of each of some numbers packed from the least significant bit upwards, in whole bytes. -/
def packElems (bits : Nat) (l : List Nat) : List Byte :=
  if bits % 8 = 0 then l.flatMap (leBytes (bits / 8))
  else leBytes (ceilDiv (l.length * bits) 8) (l.foldr (fun x n => x % 2 ^ bits + n * 2 ^ bits) 0)

/-- Element `i` of packed bytes. -/
def elemAt (bits : Nat) (l : List Byte) (i : Nat) : Nat :=
  let lo := i * bits
  leNat (slice l (lo / 8) (ceilDiv (lo % 8 + bits) 8)) / 2 ^ (lo % 8) % 2 ^ bits

/-- The first `n` elements of packed bytes. -/
def unpackElems (bits n : Nat) (l : List Byte) : List Nat := (List.range n).map (elemAt bits l)

/-- The bytes that `n` elements take packed. -/
def packedBytes (bits n : Nat) : Nat := ceilDiv (n * bits) 8

/-! ### Microscaling (R431 to R434) -/

/-- The formats that MX may scale: both FP8, both FP6, FP4, INT8 (R431). -/
def mxFormat (code : Nat) : Bool := (3 ≤ code && code ≤ 7) || code == 9

/-- Blocks of a row of `n` elements. -/
def mxBlocks (n : Nat) : Nat := ceilDiv n 32

/-- The bytes of a row of `n` elements as stored: packed, or with MX padded to blocks and followed by the scales (R432). -/
def rowBytes (code n : Nat) (mx : Bool) : Nat :=
  if mx then mxBlocks n * (4 * (fmtOf code).bits) + mxBlocks n else packedBytes (fmtOf code).bits n

/-- A value times a power of two. -/
def Num.scale2 (x : Num) (k : Int) : Num :=
  match x with
  | .fin n m e => .fin n m (e + k)
  | x => x

/-- An MX element's value under its block's scale (R431). -/
def mxValue (code scale w : Nat) : Num :=
  if scale = 0xFF then .nan
  else ((decodeNum (fmtOf code) w).scale2 (if code = 9 then -6 else 0)).scale2 ((scale : Int) - 127)

/-- The values of a row of `n` elements as stored (R425, R431, R432). -/
def rowValues (code n : Nat) (mx : Bool) (b : List Byte) : List Num :=
  let w := (fmtOf code).bits
  if mx then
    let data := mxBlocks n * (4 * w)
    (List.range n).map fun i => mxValue code (b.getD (data + i / 32) 0).toNat (elemAt w b i)
  else (unpackElems w n b).map (decodeNum (fmtOf code))

/-- EMAX of an element format (R433). -/
def mxEmax (code : Nat) : Int :=
  match code with
  | 3 => 15
  | 4 => 8
  | 5 => 4
  | 6 => 2
  | 7 => 2
  | _ => 0

/-- Floor of the base-2 logarithm of a finite value that is not zero. -/
def Num.log2 : Num → Int
  | .fin _ m e => (Nat.log2 m : Int) + e
  | _ => 0

/-- The scale and the elements that R433 chooses for a block of values. -/
def mxEncode (code : Nat) (l : List Num) : Nat × List Nat :=
  if l.any (fun x => !x.finite) then (0xFF, l.map fun _ => 0)
  else
    match l.filter fun x => !x.isZero with
    | [] => (0, l.map fun x => encodeNum (fmtOf code) (if code = 9 then x.scale2 6 else x))
    | x :: r =>
      let top := r.foldl (fun a y => max a y.log2) x.log2
      let e := max (-127) (min 127 (top - mxEmax code))
      ((e + 127).toNat, l.map fun y => encodeNum (fmtOf code) ((y.scale2 (-e)).scale2 (if code = 9 then 6 else 0)))

/-- The blocks of 32 of a list, `n` of them. -/
def chunksOf {α : Type} (k n : Nat) (l : List α) : List (List α) := (List.range n).map fun i => (l.drop (k * i)).take k

/-- A row of values stored in a format, MX-scaled or not (R432, R433). -/
def storeRow (code : Nat) (mx : Bool) (l : List Num) : List Byte :=
  let w := (fmtOf code).bits
  if mx then
    let bs := (chunksOf 32 (mxBlocks l.length) l).map (mxEncode code)
    packElems w (bs.flatMap fun b => padTo b.2 32 0) ++ bs.map fun b => BitVec.ofNat 8 b.1
  else packElems w (l.map (encodeNum (fmtOf code)))

/-! ### Compressed operand blocks (R435 to R441) -/

/-- The formats that COBs apply to (R435). -/
def cobFormat (code : Nat) : Bool := (1 ≤ code && code ≤ 9)

/-- Rounded up to a multiple of 16. -/
def up16 (n : Nat) : Nat := (n + 15) / 16 * 16

/-- The size of a raw COB (R437). -/
def cobRaw (code : Nat) : Nat := up16 (8 + 16 * (fmtOf code).bits)

/-- The size of a sparse COB of `c` present elements. -/
def cobSparse (code c : Nat) : Nat := up16 (24 + packedBytes (fmtOf code).bits c)

/-- A COB's header (R436). -/
def cobHeader (code : Nat) (mx raw : Bool) (count : Nat) (scales : List Nat) : List Byte :=
  beBytes 1 (code + (if mx then 16 else 0) + if raw then 32 else 0) ++ beBytes 1 count ++ [0, 0] ++
    (padTo (if mx then scales else []) 4 0).map fun s => BitVec.ofNat 8 s

/-- A writer's COB of 128 elements (R437, R439); an element beyond the end is absent, and zero. -/
def cobBytes (code : Nat) (mx : Bool) (scales elems : List Nat) : List Byte :=
  let w := (fmtOf code).bits
  let e := padTo elems 128 0
  let present := e.filter fun x => x != 0
  let bitmap := (List.range 16).map fun i =>
    BitVec.ofNat 8 ((List.range 8).foldl (fun b j => if e.getD (8 * i + j) 0 ≠ 0 then b + 2 ^ j else b) 0)
  if cobSparse code present.length < cobRaw code then
    padTo (cobHeader code mx false present.length scales ++ bitmap ++ packElems w present) (cobSparse code present.length) 0
  else padTo (cobHeader code mx true 0 scales ++ packElems w e) (cobRaw code) 0

/-- A COB as read: its scales, its 128 elements, its size; none where R436 to R438 are broken. `room` is what is left of the reserved
extent, `n` how many of its elements lie within the axis: a sparse COB holds none beyond. -/
def cobRead (code : Nat) (mx : Bool) (b : List Byte) (room n : Nat) : Option (List Nat × List Nat × Nat) :=
  let w := (fmtOf code).bits
  let h := (b.getD 0 0).toNat
  let count := (b.getD 1 0).toNat
  let raw := bit h 5
  let bits := (List.range 128).filter fun i => (b.getD (8 + i / 8) 0).getLsbD (i % 8)
  let size := if raw then cobRaw code else cobSparse code count
  let scales := (slice b 4 4).map BitVec.toNat
  let full := if raw then 8 + 16 * w else 24 + packedBytes w count
  if h % 16 ≠ code ∨ bit h 4 ≠ mx ∨ h / 64 ≠ 0 ∨ !allB (slice b 2 2) ∨ (mx = false ∧ !allB (slice b 4 4)) ∨
      (raw = true ∧ count ≠ 0) ∨ (raw = false ∧ (count ≠ bits.length ∨ bits.any (n ≤ ·) = true)) ∨ room < size ∨ !allB (slice b full (size - full)) then none
  else
    let body := slice b (if raw then 8 else 24) size
    let elems :=
      if raw then unpackElems w 128 body
      else (List.range 128).map fun i => if bits.contains i then elemAt w body (countBy bits fun j => j < i) else 0
    some (scales, elems, size)
where
  /-- Whether every byte is zero. -/
  allB (l : List Byte) : Bool := l.all (· == 0)

/-- The groups of 128 of a COB tensor whose rows hold `last` elements (R438). -/
def cobGroups (rows last : Nat) : Nat := rows * ceilDiv last 128

/-- A COB region's directory, padded (R438). -/
def cobDir (groups : Nat) : Nat := up16 (4 * ceilDiv groups 64)

/-- A COB region's reserved extent (R438). -/
def cobExtent (code groups : Nat) : Nat := cobDir groups + groups * cobRaw code

end Sys2Proof.Machine
end

