-- ==== Sys2Proof/Machine/PmtOps.lean ====
section
/-! DEFINITION. What the home sends (spec/06): completions and credit grants, kept completions (R181), numbered requests of its own
with their tags, sequences and retransmissions (R179, R187, R657), tracker entries (R184, R185). -/

namespace Sys2Proof.Machine

open Sys2Proof

/-- POOL_ENDPOINT: this device's endpoint ID (R194). -/
def selfEp (s : State) : Nat := coatFld s Reg.poolEndpoint 0 0 20

/-- The class map of R107, for a PMT class. -/
def internalClass (s : State) (c : Nat) : Nat := ((coat s).switch.pmtMap.lookup c).getD (if c < 12 then c else 0) % 12

/-- The lowest PMT class that the class map sends to an internal class, or 0 (R657). -/
def classFor (s : State) (internal : Nat) : Nat := ((List.range 16).find? fun c => internalClass s c == internal).getD 0

/-- Internal classes by name (R107). -/
abbrev Cls.mgmt : Nat := 8
abbrev Cls.pmtCtrl : Nat := 9
abbrev Cls.coh : Nat := 10
abbrev Cls.red : Nat := 11

/-! ### Sources and completions -/

/-- What the home keeps for a source. -/
def srcOf (s : State) (ep : Nat) : Src := alGetD s.pool.srcs ep {}

/-- A source's record changed. -/
def setSrc (s : State) (ep : Nat) (f : Src → Src) : State :=
  { s with pool := { s.pool with srcs := alSet s.pool.srcs ep (f (srcOf s ep)) } }

/-- POOL_SRC_CFG.CREDITS of a source (R194). -/
def creditsOf (s : State) (ep : Nat) : Nat := coatFld s Reg.poolSrcCfg ep 0 13

/-- The counters that a completion's status moves (R194, R239). -/
def countStatus (s : State) (status : Nat) : State :=
  if status = St.malformed then bump s Reg.poolMalformedLo 1
  else if status = St.busy then bump s Reg.poolBusyLo 1
  else if status = St.poisoned then bump s Reg.cohPoisonReadLo 1
  else if status = St.retry then bump s Reg.cohRetryLo 1
  else s

/-- The completion of a request: the echoed fields of R657, its status and payload. -/
def cplOf (m : Msg) (status : Nat) (degraded fromMirror : Bool) (payload : List Byte) : Cpl :=
  { source := m.src, tag := m.tag.toNat, seq := m.seq.toNat, status, flags := cplFlags degraded fromMirror status,
    wt := m.wt.toNat &&& 0x8FFF, job := m.job.toNat, epoch := m.epoch.toNat, address := m.address.toNat, payload }

/-- A COMPLETION frame (R657). -/
def cplFrame (s : State) (c : Cpl) : PmtOut :=
  { opcode := Op.completion, cls := classFor s Cls.pmtCtrl, flags := c.flags, source := selfEp s, dest := c.source, tag := c.tag,
    seq := c.seq, key := { tenant := c.wt % 4096, job := c.job, world := c.wt.testBit 15 }, epoch := c.epoch, address := c.address,
    payload := c.payload }

/-- The completion is kept, in place of an earlier one of the same tag (R181). -/
def keepCpl (s : State) (c : Cpl) : State :=
  setSrc s c.source fun x => { x with kept := x.kept.filter (fun y => y.tag != c.tag) ++ [c] }

/-- Whether an endpoint ID is that of a resident slot of this device (R453). -/
def residentEp (s : State) (ep : Nat) : Bool := (coat s).resident.slots.any fun (r : ResEnt) => r.ep == ep

/-- A completion leaves: to its requester, or to the core that waits for it (R454). -/
def sendCpl (s : State) (c : Cpl) : State :=
  if residentEp s c.source then { s with hooks := s.hooks ++ [.coreDone c] } else emit s (.pmt (cplFrame s c))

/-- A request completes: counted, sent, and kept unless its pair was reset meanwhile (R181, R182). -/
def complete (s : State) (m : Msg) (status : Nat) (payload : List Byte) (degraded fromMirror keep : Bool) : State :=
  let c := cplOf m status degraded fromMirror payload
  let s := sendCpl (countStatus s status) c
  if keep then keepCpl s c else s

/-- A completion that carries a status and nothing else. -/
def answer (s : State) (m : Msg) (status : Nat) : State := complete s m status [] false false true

/-- CREDIT_GRANT to a request answered RETRY (R186, R657). -/
def sendGrant (s : State) (m : Msg) : State :=
  if residentEp s m.src then { s with hooks := s.hooks ++ [.coreGrant m] } else emit s (.pmt { cplFrame s (cplOf m 0 false false []) with opcode := Op.creditGrant, flags := 0 })

/-! ### Requests of the Volinar's own (R179, R187, R657) -/

/-- The next sequence towards a target. -/
def nextSeqOf (s : State) (target : Nat) : Nat := alGetD s.pool.nextSeq target 0

/-- The sequence towards a target taken. -/
def takeSeq (s : State) (target : Nat) : State :=
  { s with pool := { s.pool with nextSeq := alSet s.pool.nextSeq target ((nextSeqOf s target + 1) % two32) } }

/-- The tags of media commands whose BR_DONE is still to come, at a target (R269). -/
def mediaTags (s : State) (target : Nat) : List Nat :=
  let of := fun (tray tag : Nat) =>
    if ((coat s).dense.trays.find? fun t => t.index == tray).map DenseEnt.ep = some target then [tag] else []
  s.dns.jobs.flatMap fun (p : Nat × Media) =>
    match p.2 with
    | .sector t _ _ _ _ _ tag _ _ => of t tag
    | .program _ _ _ t _ _ _ _ tag _ => of t tag
    | .erase t _ _ _ _ tag => of t tag
    | _ => []

/-- The lowest tag that no outstanding request, snoop or media command of the pair holds (R657). -/
def freeTag (s : State) (target : Nat) : Nat :=
  let used := (s.pool.outs.filter fun o => o.target == target).map OutReq.tag ++
    (s.pool.txs.flatMap fun t => (t.snoops.filter fun x => x.ep == target).map Snoop.tag) ++ mediaTags s target
  ((List.range (used.length + 1)).find? fun t => !used.contains t).getD 0

/-- The endpoint that a request goes out for: a resident program's (R454), else this device's. -/
def outSource (s : State) (o : OutReq) : Nat :=
  match o.purpose with
  | .coreCall slot _ => (((coat s).resident.slots.find? fun (r : ResEnt) => r.slot == slot).map ResEnt.ep).getD (selfEp s)
  | _ => selfEp s

/-- The pair a request is numbered on (R179). -/
def outPair (s : State) (o : OutReq) : Nat := if outSource s o = selfEp s then o.target else o.target + 1048576 * (1 + outSource s o)

/-- The frame of a request. -/
def outFrame (s : State) (o : OutReq) : PmtOut :=
  { opcode := o.opcode, cls := o.cls, flags := o.flags, source := outSource s o, dest := o.target, tag := o.tag, seq := o.seq, key := o.key,
    epoch := o.epoch, address := o.address, payload := o.payload }

/-- The endpoint of a capacity tray. -/
def capTrayEp (s : State) (tray : Nat) : Option Nat := (coat s).pool.trays.lookup tray

/-- The endpoint of a dense tray. -/
def denseTrayEp (s : State) (tray : Nat) : Option Nat :=
  ((coat s).dense.trays.find? fun t => t.index == tray).map DenseEnt.ep

/-- The limit of a target's outstanding requests: what a tray declared (R191, R271); none for other targets. -/
def outLimit (s : State) (target : Nat) : Option Nat :=
  match (coat s).pool.trays.find? fun t => t.2 == target with
  | some t => some (alGetD s.pool.capTrays t.1 {}).maxOut
  | none => ((coat s).dense.trays.find? fun t => t.ep == target).map fun t => (alGetD s.dns.trays t.index {}).maxOut

/-- Whether one more request may be outstanding at a target. -/
def outRoom (s : State) (target : Nat) : Bool :=
  match outLimit s target with
  | none => true
  | some n => countBy s.pool.outs (fun o => o.target == target && o.sent && !o.busyWait) < n

/-- An outstanding request changed. -/
def setOut (s : State) (target tag : Nat) (f : OutReq → OutReq) : State :=
  { s with pool := { s.pool with outs := s.pool.outs.map fun o => if o.target = target ∧ o.tag = tag then f o else o } }

/-- A request that waits is numbered and sent (R179). -/
def sendOut (s : State) (o : OutReq) : State :=
  let o' := { o with seq := nextSeqOf s (outPair s o), sent := true, busyWait := false }
  emit (setOut (takeSeq s (outPair s o)) o.target o.tag fun _ => o') (.pmt (outFrame s o'))

/-- Whether a request is a program or an erase of a tray that has announced a power loss (R274). -/
def heldBack (s : State) (o : OutReq) : Bool :=
  match o.purpose with
  | .brProgram tray _ => (alGetD s.dns.trays tray {}).halted
  | .brErase tray _ => (alGetD s.dns.trays tray {}).halted
  | _ => false

/-- A refused request goes out again once its target has room (R191), and is not held back (R274). -/
def sendAgain (s : State) (o : OutReq) : State :=
  if outRoom s o.target && !heldBack s o then sendOut s o else setOut s o.target o.tag fun o => { o with sent := false, busyWait := false }

/-- The requests that wait for a target's limit are sent as far as it allows, in order. -/
def sendWaiting (s : State) (target : Nat) : State :=
  (s.pool.outs.filter fun o => o.target == target && !o.sent && !o.busyWait && !heldBack s o).foldl
    (fun s o => if outRoom s target then sendOut s o else s) s

/-- A new request of the Volinar's own (R187). -/
def request (s : State) (target opcode : Nat) (cls : Nat) (key : Key) (epoch address : Nat) (payload : List Byte)
    (purpose : Purpose) : State :=
  let o : OutReq := { target, tag := freeTag s target, seq := 0, opcode, address, payload, key, cls, epoch, purpose }
  sendWaiting { s with pool := { s.pool with outs := s.pool.outs ++ [o] } } target

/-- An outstanding request by target and tag. -/
def outOf (s : State) (target tag : Nat) : Option OutReq :=
  s.pool.outs.find? fun o => o.target == target && o.tag == tag && o.sent

/-- A request is over: another may be sent in its place. -/
def dropOut (s : State) (target tag : Nat) : State :=
  sendWaiting { s with pool := { s.pool with outs := s.pool.outs.filter fun o => !(o.target == target && o.tag == tag) } } target

/-- The same request goes out again with its tag, sequence and content (R187). -/
def resendOut (s : State) (o : OutReq) : State :=
  emit (setOut s o.target o.tag fun o => { o with resends := o.resends + 1 }) (.pmt (outFrame s o))

/-- The outstanding request with a purpose. -/
def outWith (s : State) (p : Purpose) : Option OutReq := s.pool.outs.find? fun o => o.purpose == p

/-! ### Tracker entries -/

/-- A transaction by its number. -/
def txOf (s : State) (id : Nat) : Option Tx := s.pool.txs.find? fun t => t.id == id

/-- A transaction changed. -/
def setTx (s : State) (id : Nat) (f : Tx → Tx) : State :=
  { s with pool := { s.pool with txs := s.pool.txs.map fun t => if t.id = id then f t else t } }

/-- Whether an entry belongs to a request. -/
def Tx.isReq (t : Tx) : Bool :=
  match t.work with
  | .req _ _ => true
  | _ => false

/-- Whether an entry is a write-back of another transaction's making, which takes no entry of its own (R184). -/
def Tx.isWriteBack (t : Tx) : Bool :=
  match t.work with
  | .writeBack _ => true
  | _ => false

/-- The entries a source holds (R185, R186). -/
def inFlight (s : State) (ep : Nat) : Nat := countBy s.pool.txs fun t => t.isReq && t.source == ep

/-- Whether a tag of a source is in progress at this home (R175, R180). -/
def tagInUse (s : State) (ep tag : Nat) : Bool := s.pool.txs.any fun t => t.isReq && t.source == ep && t.tag == tag

/-- A new entry; its number is returned. -/
def newTx (s : State) (t : Tx) : State :=
  let t := { t with id := s.pool.nextTx, ord := s.pool.nextTx, tick := tickNow s }
  { s with pool := { s.pool with txs := s.pool.txs ++ [t], nextTx := s.pool.nextTx + 1 } }

/-- An entry freed (R185). -/
def dropTx (s : State) (id : Nat) : State := { s with pool := { s.pool with txs := s.pool.txs.filter fun t => t.id != id } }

/-- Whether an entry is one of the tracker's own: what a request causes is covered by the request's (R184). -/
def Tx.ownEntry (t : Tx) : Bool :=
  !t.isWriteBack &&
    match t.work with
    | .tileOp _ => false
    | _ => true

/-- The tracker entries in use (R184, R194). -/
def entriesUsed (s : State) : Nat := countBy s.pool.txs Tx.ownEntry

/-- BG_RESERVE (R184). -/
def bgReserve (s : State) : Nat := coatFld s Reg.poolTrkCfg 0 0 16

/-- Whether background work may take one more entry. -/
def bgRoom (s : State) : Bool := countBy s.pool.txs (fun t => !t.isReq && t.ownEntry) < bgReserve s

/-- Background work that cannot be put off takes an entry of BG_RESERVE, or waits for one (R184). -/
def bgTx (s : State) (t : Tx) : State :=
  if bgRoom s && s.pool.bgWait.isEmpty then newTx s t else { s with pool := { s.pool with bgWait := s.pool.bgWait ++ [t] } }

/-- Background work that waited takes the entries that have become free, in order (R184). -/
def startWaiting (s : State) : State :=
  s.pool.bgWait.foldl (fun s t => if bgRoom s then newTx { s with pool := { s.pool with bgWait := s.pool.bgWait.drop 1 } } t else s) s

end Sys2Proof.Machine
end

