-- ==== Sys2Proof/Machine/CohOps.lean ====
section
/-! DEFINITION. The coherence engine's own state (spec/07): slots and records, poison (R234 to R236), lines of the home cache
(R167, R168), snoops on the wire (R211, R221, R232). -/

namespace Sys2Proof.Machine

open Sys2Proof

/-! ### Twin mode: what a commit record carries is logged while the twins are PAIRED (R513) -/

/-- This twin's number: 0 left, 1 right. -/
def myTwin (s : State) : Nat := if s.scr.role = 2 then 1 else 0

/-- Whether this twin sends commit records. -/
def paired (s : State) : Bool := s.scr.st == .paired

/-- The home twin of a line (R511): the exclusive or of address bits [12:7]. -/
def homeTwin (line : Nat) : Nat := (fld line 0 1 + fld line 1 1 + fld line 2 1 + fld line 3 1 + fld line 4 1 + fld line 5 1) % 2

/-- A line's data has reached its tier, for the next commit record (R514). -/
def logFreed (s : State) (line : Nat) : State :=
  if paired s then { s with scr := { s.scr with freedLog := addOnce s.scr.freedLog line } } else s

/-- A line written, for the next commit record. -/
def logLine (s : State) (line : Nat) : State :=
  if paired s then { s with scr := { s.scr with dirtySent := addOnce s.scr.dirtySent line } } else s

/-! ### Slots and records (R203 to R208) -/

/-- Caching slots: 1,024, and 2,048 in twin mode (R10, R203). A record whose selector names no slot has no effect (log entry 222). -/
def slotMax (c : Coat) : Nat := if c.twin.isSome then 2048 else 1024

/-- The slots that a coat lists: slot and endpoint (R203, R241). -/
def slotsIn (c : Coat) : List (Nat × Nat) :=
  ((selsOf c.regs Reg.cohEpCfg Reg.cohEpCfg).filter (· < slotMax c)).filterMap fun i =>
    let w := coatRegIn c.regs Reg.cohEpCfg i
    if bit w 31 then some (i, fld w 0 20) else none

/-- A slot. -/
def slotOf (s : State) (i : Nat) : Slot := alGetD s.coh.slots i {}

/-- A slot changed. -/
def setSlot (s : State) (i : Nat) (f : Slot → Slot) : State :=
  { s with coh := { s.coh with slots := alSet s.coh.slots i (f (slotOf s i)) } }

/-- The slot that the coat lists for an endpoint. -/
def listedSlot (s : State) (ep : Nat) : Option Nat := ((slotsIn (coat s)).find? fun p => p.2 == ep).map fun p => p.1

/-- Whether a slot's endpoint is served: registered or deregistering. -/
def slotLive (x : Slot) : Bool := x.st == .registered || x.st == .deregistering

/-- The slot whose records are an endpoint's: the one it registered at while that stands (R206), else the one listed. -/
def slotOfEp (s : State) (ep : Nat) : Option Nat :=
  match s.coh.slots.find? fun p => p.2.ep == ep && slotLive p.2 with
  | some p => some p.1
  | none => listedSlot s ep

/-- The set a line falls into (R205). -/
def setOfLine (x : Slot) (line : Nat) : Nat := line % 2 ^ x.setsLog2

/-- The record at a line's set and a way. -/
def recAt (s : State) (slot line way : Nat) : Option SfRec :=
  let x := slotOf s slot
  alGet x.recs (setOfLine x line, way)

/-- A record set, or made Invalid. -/
def putRec (s : State) (slot set way : Nat) (r : Option SfRec) : State :=
  let s := setSlot s slot fun x =>
    { x with recs := match r with
      | some r => alSet x.recs (set, way) r
      | none => alErase x.recs (set, way) }
  if paired s then
    { s with scr := { s.scr with recLog := s.scr.recLog ++ [(slot, 16 * set + way, r.getD { line := 0, state := 0, stale := false })] } }
  else s

/-- A record of the snoop filter with its place: slot, set, way. -/
structure RecAt where
  slot : Nat
  set : Nat
  way : Nat
  it : SfRec
deriving DecidableEq, Repr

/-- Every record that is not Invalid. -/
def allRecs (s : State) : List RecAt :=
  s.coh.slots.flatMap fun p => p.2.recs.map fun (r : (Nat × Nat) × SfRec) => { slot := p.1, set := r.1.1, way := r.1.2, it := r.2 }

/-- The records of lines in some ranges. -/
def recsIn (s : State) (ranges : Ranges) : List RecAt :=
  (allRecs s).filter fun r => ranges.any fun g => inRange g r.it.line

/-- The records of a line. -/
def recsOf (s : State) (line : Nat) : List RecAt := (allRecs s).filter fun r => r.it.line == line

/-- Whether a record shows an owner (R202). -/
def isOwner (r : RecAt) : Bool := r.it.state == 3

/-- A slot's registration changed, for the next commit record. -/
def logSlot (s : State) (slot : Nat) : State :=
  if paired s then { s with scr := { s.scr with slotLog := addOnce s.scr.slotLog slot } } else s

/-- A slot unregistered, its records Invalid (R206, R207). -/
def clearSlot (s : State) (slot : Nat) (st : EpSt) : State :=
  let s := logSlot ((slotOf s slot).recs.foldl (fun s r => putRec s slot r.1.1 r.1.2 none) s) slot
  setSlot s slot fun x => { x with st, setsLog2 := 0, ways := 0, recs := [] }

/-! ### Windows of lines -/

/-- The records of the former coat, if a transaction that was admitted under it still runs on a line (R47, R193). -/
def formerRegs (s : State) (line : Nat) : Option (List RegRec) :=
  match s.pool.before with
  | none => none
  | some (n, regs) =>
    if s.pool.txs.any fun t => decide (t.ord < n) && t.stage != .reserved true && t.stage != .reserved false &&
        (t.reads ++ t.writes).any fun g => inRange g line then some regs else none

/-- The window that holds a line: that of the coat in force, or of the one under which the line's transaction was admitted. -/
def winOfLine (s : State) (line : Nat) : Option Win :=
  match formerRegs s line with
  | some regs => (winsIn regs).find? fun w => w.base ≤ 128 * line && 128 * line < w.base + w.size
  | none => winAt s (128 * line)

/-- Whether a transaction was admitted under the coat before the last patch. -/
def Tx.older (s : State) (t : Tx) : Bool :=
  match s.pool.before with
  | some (n, _) => decide (t.ord < n)
  | none => false

/-- A window by its index, as a transaction knows it. -/
def winFor (s : State) (tx k : Nat) : Option Win :=
  match s.pool.before, (txOf s tx).any (Tx.older s) with
  | some (_, regs), true => (winsIn regs).find? fun w => w.id == k
  | _, _ => (wins s).find? fun w => w.id == k

/-- A window's state (R189, R236). -/
def winSt (s : State) (w : Nat) : WinSt := alGetD s.pool.wins w {}

/-- A window's state changed. -/
def setWin (s : State) (w : Nat) (f : WinSt → WinSt) : State :=
  { s with pool := { s.pool with wins := alSet s.pool.wins w (f (winSt s w)) } }

/-! ### Poison (R234 to R237, R569) -/

/-- The 64 KiB unit of a line. -/
def unitOfLine (line : Nat) : Nat := line / 512

/-- The entries of the poison table in use (R234). -/
def poisonUsed (s : State) : Nat := ((s.coh.poison.map unitOfLine).foldl addOnce []).length

/-- Whether a line's bit is set, or its window is marked (R234, R236). -/
def isPoisoned (s : State) (line : Nat) : Bool :=
  s.coh.poison.contains line || ((winOfLine s line).map fun w => (winSt s w.id).poisoned).getD false

/-- A change of the poison table is noted for the twin (R513). -/
def notePoison (s : State) (line : Nat) (on : Bool) : State :=
  if paired s then { s with scr := { s.scr with poisonLog := s.scr.poisonLog ++ [(line, on)] } } else s

/-- A line poisoned (R234, R569); a full table marks its window instead (R236). -/
def poisonLine (s : State) (line : Nat) : State :=
  if s.coh.poison.contains line then s
  else if 131072 ≤ poisonUsed s ∧ (s.coh.poison.any fun l => unitOfLine l == unitOfLine line) = false then
    match winOfLine s line with
    | some w => raise (setWin s w.id fun x => { x with poisoned := true }) Reg.cohEventStatus 2 2 w.id (det 2 w.id)
    | none => s
  else
    let s := notePoison { s with coh := { s.coh with poison := s.coh.poison ++ [line] } } line true
    raise (bump s Reg.rasPoisonSetLo 1) Reg.cohEventStatus 1 2 noUnit []

/-- A line's bit cleared (R235, R237). -/
def clearPoison (s : State) (line : Nat) : State :=
  if s.coh.poison.contains line then
    bump (notePoison { s with coh := { s.coh with poison := without s.coh.poison line } } line false) Reg.rasPoisonClearLo 1
  else s

/-! ### The home cache (R168) -/

/-- Whether a line's window is PINNED: its lines always lie in HBM (R170). -/
def isPinned (s : State) (line : Nat) : Bool := ((winOfLine s line).map fun w => w.policy == 0).getD false

/-- A cached line. -/
def cacheGet (s : State) (line : Nat) : Option CLine := alGet s.pool.cache line

/-- Whether the HBM holds a line. -/
def inHbm (s : State) (line : Nat) : Bool := isPinned s line || (cacheGet s line).isSome

/-- Whether the home cache holds a line dirty. -/
def isDirty (s : State) (line : Nat) : Bool := ((cacheGet s line).map CLine.dirty).getD false

/-- A cached line used now. -/
def touchLine (s : State) (line : Nat) (f : CLine → CLine) : State :=
  if isPinned s line then s
  else
    { s with pool := { s.pool with cache := alMod s.pool.cache line {} (fun c => { f c with age := s.pool.useClock, leaving := false }),
                                   useClock := s.pool.useClock + 1 } }

/-- A cached line leaves the HBM; its bytes are forgotten. -/
def dropLine (s : State) (line : Nat) : State :=
  { s with pool := { s.pool with cache := alErase s.pool.cache line }, mem := memLineWrite s.mem line [] }

/-- A line's bytes in HBM. -/
def hbmLine (s : State) (line : Nat) : List Byte := memLine s.mem line

/-- A line written whole in HBM: dirty in the cache, or pinned (R168, R246); a full line clears its poison (R235). -/
def writeLine (s : State) (line : Nat) (bs : List Byte) : State :=
  let s := { s with mem := memLineWrite s.mem line bs }
  logLine (clearPoison (touchLine s line fun c => { c with dirty := true }) line) line

/-- A clean line put into the cache from its tier (R168). -/
def cacheLine (s : State) (line : Nat) (bs : List Byte) : State :=
  touchLine { s with mem := memLineWrite s.mem line bs } line fun c => c

/-- Whether the cache holds a dirty line whose data it has not lost; its line's bytes. -/
def dirtyLines (s : State) (ranges : Ranges) : List Nat :=
  (s.pool.cache.filter fun c => c.2.dirty && ranges.any fun g => inRange g c.1).map fun c => c.1

/-- One hit or miss of PMT service (R168). -/
def countHit (s : State) (hit : Bool) : State := bump s (if hit then Reg.poolCacheHitLo else Reg.poolCacheMissLo) 1

/-! ### Snoops on the wire -/

/-- SNP_CREDITS (R240). -/
def snpCredits (s : State) : Nat := coatFld s Reg.cohCfg 0 13 11

/-- The snoops outstanding to an endpoint. -/
def snoopsTo (s : State) (ep : Nat) : Nat := sumBy s.pool.txs fun t => countBy t.snoops fun x => x.ep == ep

/-- A snoop's frame: the key of the window that holds the line (R211, R657). -/
def snoopFrame (s : State) (x : Snoop) : PmtOut :=
  { opcode := x.opcode, cls := classFor s Cls.coh, source := selfEp s, dest := x.ep, tag := x.tag, seq := x.seq,
    key := ((winOfLine s x.line).map Win.key).getD {}, address := 128 * x.line, payload := beBytes 1 x.way ++ [0, 0, 0, 0, 0, 0, 0] }

/-- A transaction's waiting snoops sent, as far as SNP_CREDITS allows; each sent one is counted (R221, R239). -/
def sendSnoops (s : State) (id : Nat) : State :=
  match txOf s id with
  | none => s
  | some t =>
    t.toSnoop.foldl (fun s x =>
      if snoopsTo s x.ep < snpCredits s then
        let x' := { x with tag := freeTag s x.ep, seq := nextSeqOf s x.ep }
        let s := setTx (takeSeq s x.ep) id fun t => { t with toSnoop := without t.toSnoop x, snoops := t.snoops ++ [x'] }
        bump (emit s (.pmt (snoopFrame s x'))) Reg.cohSnoopTxLo 1
      else s) s

/-- A lookup of the snoop filter: a hit or a miss of its on-die cache, a free value (R209; log entry 20). -/
def countLookup (s : State) : State :=
  let d := draw s
  bump d.2 (if d.1 % 2 = 0 then Reg.cohSfcHitLo else Reg.cohSfcMissLo) 1

/-- The record behind a snoop, if it still shows the line. -/
def snoopRec (s : State) (x : Snoop) : Option SfRec :=
  match alGet (slotOf s x.slot).recs (x.set, x.way) with
  | some r => if r.line = x.line then some r else none
  | none => none

/-- The responses R220 allows: the record's state, the snoop, the answered state and whether data came. -/
def responseOk (recState op state : Nat) (data : Bool) : Bool :=
  (state == 0 && !data) ||
  (if op == Op.snpInv then recState == 3 && state == 0
   else if op == Op.snpShare then (recState == 3 && state == 1) || (recState == 1 && state == 1 && !data) ||
     (recState == 2 && state == 2 && !data)
   else if op == Op.snpData then (recState == 1 && state == 1 && !data) || (recState == 2 && state == 2 && data) ||
     (recState == 3 && ((state == 3 && !data) || (state == 4 && data)))
   else (recState == 1 && state == 1 && !data) || (recState == 2 && state == 2 && !data) ||
     (recState == 3 && ((state == 3 && !data) || (state == 4 && data))))

/-- A snoop answered: the record follows (R216). SNP_INV makes it Invalid, SNP_SHARE Shared; data is a write to the window (R218). -/
def snoopAnswered (s : State) (id : Nat) (x : Snoop) (data : Option (List Byte)) : State :=
  let s := setTx s id fun t => { t with snoops := t.snoops.filter fun y => !(y.ep == x.ep && y.line == x.line) }
  let s :=
    match snoopRec s x with
    | some r =>
      if x.opcode = Op.snpInv then putRec s x.slot x.set x.way none
      else if x.opcode = Op.snpShare then putRec s x.slot x.set x.way (some { r with state := 1 })
      else s
    | none => s
  match data with
  | some d => setTx (writeLine s x.line d) id fun t => { t with got := alSet t.got x.line d }
  | none => s

end Sys2Proof.Machine
end

