-- ==== Sys2Proof/Machine/TierOps.lean ====
section
/-! DEFINITION. The backing tiers (spec/06 R170 to R173, R191, R192): where a line's tier copy lies, its protection (spec/15 R485 to
R489), capacity trays and their requests. -/

namespace Sys2Proof.Machine

open Sys2Proof

/-! ### Protection of tier copies (R485 to R489) -/

/-- The key slot of a sealed window (R488). -/
def sealedSlot (s : State) (w : Nat) : Option Nat := (coat s).security.sealed.lookup w

/-- A key slot (R480). -/
def keySlotOf (s : State) (i : Nat) : KeySlot := alGetD s.sec.keys i {}

/-- Whether a slot is ACTIVE or ROTATING. -/
def keyLive (k : KeySlot) : Bool := k.st == .active || k.st == .rotating

/-- Whether the key a window needs is usable; true where it needs none (R486, R488). -/
def keyUsable (s : State) (w : Win) : Bool :=
  match sealedSlot s w.id with
  | some i => let k := keySlotOf s i; keyLive k && k.kind == 1
  | none =>
    if w.encrypt then let k := keySlotOf s w.keySlot; keyLive k && k.kind == 0 && k.owner == w.key.tenant else true

/-- Whether the slot's cursor has passed a line of a window (R487). -/
def cursorPast (k : KeySlot) (w : Win) (line : Nat) : Bool :=
  w.id < k.curWin || (w.id == k.curWin && 128 * line - w.base < k.curOff)

/-- The pair that a tier access to a line uses: the new one before the cursor of a ROTATING slot, the old one past it (R487). -/
def pairFor (k : KeySlot) (w : Win) (line : Nat) : List Byte :=
  if k.st = .rotating then (if cursorPast k w line then k.pair.getD [] else k.old.getD []) else k.pair.getD []

/-- The tweak of an ENCRYPT window's line: pool address [55:7], home endpoint (R485). -/
def lineTweak (s : State) (line : Nat) : Nat := line % 2 ^ 49 + 2 ^ 49 * selfEp s

/-- The tweak of a sealed window's line: window offset [50:7], set ID (R489). -/
def sealTweak (k : KeySlot) (w : Win) (line : Nat) : Nat := (line - w.base / 128) % 2 ^ 44 + 2 ^ 44 * (k.owner % 2 ^ 16)

/-- A line as its tier copy holds it. A sealed window's bytes are ciphertext already (R489). -/
def tierEncode (s : State) (line : Nat) (bs : List Byte) : List Byte :=
  match winOfLine s line with
  | some w =>
    if w.encrypt ∧ sealedSlot s w.id = none then Config.xtsEncrypt (pairFor (keySlotOf s w.keySlot) w line) (lineTweak s line) bs
    else bs
  | none => bs

/-- A line from what its tier copy holds. -/
def tierDecode (s : State) (line : Nat) (bs : List Byte) : List Byte :=
  match winOfLine s line with
  | some w =>
    if w.encrypt ∧ sealedSlot s w.id = none then Config.xtsDecrypt (pairFor (keySlotOf s w.keySlot) w line) (lineTweak s line) bs
    else bs
  | none => bs

/-- A sealed window's line as the device's own readers see it (R489). -/
def openSeal (s : State) (line : Nat) (bs : List Byte) : List Byte :=
  match winOfLine s line with
  | some w =>
    match sealedSlot s w.id with
    | some i => let k := keySlotOf s i; Config.xtsDecrypt (pairFor k w line) (sealTweak k w line) bs
    | none => bs
  | none => bs

/-- A line as a sealed window stores it. -/
def closeSeal (s : State) (line : Nat) (bs : List Byte) : List Byte :=
  match winOfLine s line with
  | some w =>
    match sealedSlot s w.id with
    | some i => let k := keySlotOf s i; Config.xtsEncrypt (pairFor k w line) (sealTweak k w line) bs
    | none => bs
  | none => bs

/-! ### Capacity trays (R191) -/

/-- A capacity tray's state. -/
def capTrayOf (s : State) (i : Nat) : CapTray := alGetD s.pool.capTrays i {}

/-- A capacity tray's state changed. -/
def setCapTray (s : State) (i : Nat) (f : CapTray → CapTray) : State :=
  { s with pool := { s.pool with capTrays := alSet s.pool.capTrays i (f (capTrayOf s i)) } }

/-- Whether a capacity tray serves: accepted, and not sheeted (R191, R547). -/
def capServes (s : State) (i : Nat) : Bool := (capTrayOf s i).st == 2 && inService s 7 i

/-- The capacity trays in service. -/
def capTraysUp (s : State) : List Nat := ((coat s).pool.trays.map fun t => t.1).filter (capServes s)

/-- TRAY_IDENT goes to every listed capacity tray that has not been asked (R191). -/
def identifyTrays (s : State) : State :=
  (coat s).pool.trays.foldl (fun s t =>
    if (capTrayOf s t.1).st = 0 then
      request (setCapTray s t.1 fun x => { x with st := 1 }) t.2 Op.trayIdent 0 {} 0 0 [] (.trayIdent t.1)
    else s) s

/-- Whether CAP_REDUND is PAIR (R172, R197). -/
def capPair (s : State) : Bool := !bit (coatReg s Reg.poolTierCfg 0) 17

/-- The trays that a unit's copies are first placed on, two different ones under PAIR. The spec gives no placement: it is
uninterpreted. -/
def firstCopies (s : State) (unit : Nat) : List Nat :=
  let ts := (coat s).pool.trays.map fun t => t.1
  let a := Config.trayPick unit 0 % max ts.length 1
  let b := (a + 1 + Config.trayPick unit 1 % max (ts.length - 1) 1) % max ts.length 1
  let far := ((coat s).pool.trays.filter fun t => Config.trayTwin t.2 != Config.trayTwin ((capTrayEp s (ts.getD a 0)).getD 0)).map fun t => t.1
  if ts.isEmpty then []
  else if capPair s ∧ s.scr.role ≠ 0 ∧ !far.isEmpty then [ts.getD a 0, far.getD (Config.trayPick unit 1 % far.length) 0]
  else if capPair s ∧ 1 < ts.length then [ts.getD a 0, ts.getD b 0]
  else [ts.getD a 0]

/-- A unit's record. -/
def capUnitOf (s : State) (unit : Nat) : CapUnit := alGetD s.pool.capUnits unit {}

/-- A unit's record changed. -/
def setCapUnit (s : State) (unit : Nat) (f : CapUnit → CapUnit) : State :=
  { s with pool := { s.pool with capUnits := alSet s.pool.capUnits unit (f (capUnitOf s unit)) } }

/-- The trays that hold a good copy of a unit: none that has failed (R172); one that a replacement made new holds none but those written
since (R548). -/
def goodCopies (s : State) (unit : Nat) : List Nat :=
  match (capUnitOf s unit).copies with
  | some l => l.filter fun i => (capTrayOf s i).st != 4
  | none => (firstCopies s unit).filter fun i => !(capTrayOf s i).fresh && (capTrayOf s i).st != 4

/-- The trays that hold a good copy of a unit and are in service. -/
def copiesOf (s : State) (unit : Nat) : List Nat :=
  match s.pool.capTrays with
  | [] => []
  | _ => (goodCopies s unit).filter (capServes s)

/-- Whether a unit's trays have all answered or failed: a copy that a tray not yet identified holds cannot be judged (R586). -/
def copiesKnown (s : State) (unit : Nat) : Bool :=
  match s.pool.capTrays with
  | [] => false
  | _ => (goodCopies s unit).any (capServes s) || (goodCopies s unit).all fun i => 3 ≤ (capTrayOf s i).st

/-- A tray's copy of a unit is no longer good: it failed, or a write passed it by. -/
def loseCopy (s : State) (unit tray : Nat) : State :=
  setCapUnit s unit fun u => { u with copies := some (without (goodCopies s unit) tray) }

/-- The outstanding requests at an endpoint. -/
def outsAt (s : State) (ep : Nat) : Nat := countBy s.pool.outs fun o => o.target == ep

/-- Of the trays that hold a copy, the one with fewer outstanding requests, the lower index when equal (R172). -/
def lessBusy (s : State) (copies : List Nat) : Option Nat :=
  copies.foldl (fun (b : Option Nat) i =>
    match b with
    | none => some i
    | some j =>
      let n := outsAt s ((capTrayEp s i).getD 0)
      let m := outsAt s ((capTrayEp s j).getD 0)
      if n < m ∨ (n = m ∧ i < j) then some i else some j) none

/-- The copy a read takes (R172). -/
def bestCopy (s : State) (unit : Nat) : Option Nat := lessBusy s (copiesOf s unit)

/-- The trays in service that hold a map page (R280), placed as a unit beyond the pool's addresses is: uninterpreted (log entry 229). -/
def mapCopies (s : State) (page : Nat) : List Nat := (firstCopies s (2 ^ 40 + page)).filter (capServes s)

/-- The address of a map page on a tray. -/
def mapAddr (tray page : Nat) : Nat := Config.trayAddr tray false (2 ^ 40 + page) % 2 ^ 44

/-! ### Where a line's tier copy lies (R170, R279) -/

/-- The map entry of a unit (R279). -/
def mapOf (s : State) (unit : Nat) : MapEnt := alGetD s.dns.map unit {}

/-- Ranges of lines without those of one range. -/
def cutRange (l : Ranges) (c : Nat × Nat) : Ranges :=
  l.flatMap fun g =>
    if rangesMeet g c then [(g.1, c.1 - g.1), (c.1 + c.2, g.1 + g.2 - (c.1 + c.2))].filter fun h => decide (h.2 ≠ 0) else [g]

/-- A map entry changed; ZERO is not listed. A unit that moves is written whole, so none of its lines reads as zeros any more (R171). -/
def setMap (s : State) (unit : Nat) (e : MapEnt) : State :=
  let m := if e.st = .zero then alErase s.dns.map unit else alSet s.dns.map unit e
  let stays := e.st == .landed && (mapOf s unit).st == .landed
  let zeros := if stays then s.pool.zeros else cutRange s.pool.zeros (512 * unit, 512)
  let page := unit / 512
  { s with dns := { s.dns with map := m, changed := addOnce s.dns.changed unit, mapCache := addOnce s.dns.mapCache page,
                               mapDirty := addOnce s.dns.mapDirty page }, pool := { s.pool with zeros } }

/-- A map entry as stored (R279). -/
def mapWord (e : MapEnt) : Nat :=
  match e.st with
  | .zero => 0
  | .dense => 2 ^ 62 + 2 ^ 60 * e.temp + 2 ^ 54 * e.tray + 2 ^ 32 * e.eu + 2 ^ 20 * e.stride
  | .lost => 2 ^ 63 + 2 ^ 60 * e.temp + 2 ^ 54 * e.tray + 2 ^ 32 * e.eu + 2 ^ 20 * e.stride
  | .landed => 2 ^ 63 + 2 ^ 62 + 2 ^ 60 * e.temp + e.slot

/-- A map page of 512 entries (R280). -/
def mapPage (s : State) (page : Nat) : List Byte := (List.range 512).flatMap fun i => beBytes 8 (mapWord (mapOf s (512 * page + i)))

/-- Where the tier copy of a line lies. -/
inductive TierAt where
  | none
  | zeros
  | capacity (landed : Bool) (key : Nat)
  | dense
  | lost
  | unready
deriving DecidableEq, Repr

/-- Whether a line lies in a range that a DISCARD, or the first landing of its unit, made read as zeros (R178). -/
def zeroed (s : State) (line : Nat) : Bool := s.pool.zeros.any fun g => inRange g line

/-- The tier copy of a line (R170, R178, R279). A dense-backed unit's entry is not known while the dense tier recovers (R302). -/
def tierOf (s : State) (line : Nat) : TierAt :=
  match winOfLine s line with
  | none => .none
  | some w =>
    if w.policy = 0 then .none
    else if w.policy = 1 then (if zeroed s line then .zeros else .capacity false (unitOfLine line))
    else if s.dns.st ≠ 2 then .unready
    else
      let e := mapOf s (unitOfLine line)
      match e.st with
      | .zero => .zeros
      | .dense => .dense
      | .lost => .lost
      | .landed => if zeroed s line then .zeros else .capacity true e.slot

/-- A line's own data has reached the tier: it no longer reads as zeros. -/
def clearZero (s : State) (line : Nat) : State := { s with pool := { s.pool with zeros := cutRange s.pool.zeros (line, 1) } }

/-- Lines that read as zeros from now on. -/
def setZeros (s : State) (g : Nat × Nat) : State := { s with pool := { s.pool with zeros := s.pool.zeros ++ [g] } }

/-- The byte address of a line on a tray. -/
def trayLineAddr (tray : Nat) (landed : Bool) (key line : Nat) : Nat :=
  (Config.trayAddr tray landed key + 128 * (line % 512)) % 2 ^ 44

/-! ### Fills from the capacity tier -/

/-- A line's data came from its tier: every transaction that waits for it has it. -/
def fillArrived (s : State) (line : Nat) (bs : List Byte) : State :=
  let f := fun (t : Tx) =>
    if t.fills.contains line then { t with fills := without t.fills line, got := alSet t.got line bs } else t
  { s with pool := { s.pool with txs := s.pool.txs.map f } }

/-- A line's tier cannot give it: every transaction that waits for it ends with a status. -/
def fillFailed (s : State) (line status : Nat) : State :=
  let f := fun (t : Tx) =>
    if t.fills.contains line then { t with fills := without t.fills line, bad := t.bad ++ [(line, status)] } else t
  { s with pool := { s.pool with txs := s.pool.txs.map f } }

/-- A line that no tray holds any more is poisoned (R172). -/
def capacityLost (s : State) (line : Nat) : State := fillFailed (poisonLine s line) line St.poisoned

/-- TRAY_READ of a line from its best copy (R172, R192). -/
def trayFill (s : State) (line : Nat) (landed : Bool) (key cls : Nat) : State :=
  match bestCopy s (unitOfLine line) with
  | some i =>
    request s ((capTrayEp s i).getD 0) Op.trayRead cls {} 0 (trayLineAddr i landed key line) (beBytes 2 128 ++ [0, 0])
      (.trayFill line i)
  | none => capacityLost s line

/-! ### Write-backs to the capacity tier -/

/-- Whether a write-back of a line is on its way. -/
def writingBack (s : State) (line : Nat) : Bool := s.pool.txs.any fun t => t.work == .writeBack line

/-- A write-back is done: those that wait for it go on; a line that was leaving is gone. -/
def writeBackDone (s : State) (line : Nat) : State :=
  let txs := (s.pool.txs.filter fun t => t.work != .writeBack line).map fun t => { t with wbs := without t.wbs line }
  logFreed { s with pool := { s.pool with txs } } line

/-- A dirty line's bytes go to every copy of its unit (R172); the write-back ends when all trays have acknowledged. `evict`: the
line leaves the cache now, else it stays clean. A line that no tray can hold is poisoned. -/
def capWriteBack (s : State) (line : Nat) (landed : Bool) (key cls : Nat) (evict : Bool) : State :=
  let data := tierEncode s line (hbmLine s line)
  let unit := unitOfLine line
  let copies := copiesOf s unit
  let s := clearZero (setCapUnit s unit fun u => { u with lastWrite := tickNow s, copies := some copies }) line
  let s := if evict then dropLine s line
    else { s with pool := { s.pool with cache := alMod s.pool.cache line {} fun c => { c with dirty := false } } }
  if copies.isEmpty then writeBackDone (poisonLine s line) line
  else
    let s := newTx s { id := 0, work := .writeBack line, stage := .finishing, writes := [(line, 1)] }
    copies.foldl (fun s i =>
      request s ((capTrayEp s i).getD 0) Op.trayWrite cls {} 0 (trayLineAddr i landed key line) data (.trayWrite line i)) s

/-- A tray acknowledged its part of a write-back, or failed (R172). -/
def trayWriteEnded (s : State) (line : Nat) : State :=
  if s.pool.outs.any (fun o =>
    match o.purpose with
    | .trayWrite l _ => l == line
    | _ => false) then s
  else
    let s := writeBackDone s line
    if (copiesOf s (unitOfLine line)).isEmpty then poisonLine s line else s

/-! ### The landing area (R170, R171, R173) -/

/-- The capacity the trays in service declare, halved under PAIR, less the map region and the poison copy (R170). -/
def capUsable (s : State) : Nat :=
  let total := sumBy (capTraysUp s) fun i => (capTrayOf s i).bytes
  let dense := sumBy ((wins s).filter fun w => w.policy == 2 || w.policy == 3) Win.size
  (if capPair s then total / 2 else total) - 8 * (dense / 65536) - 16777216

/-- Landing slots that the space beyond CAPACITY windows offers. -/
def landingSlots (s : State) : Nat := (capUsable s - sumBy ((wins s).filter fun w => w.policy == 1) Win.size) / 65536

/-- The landing slots in use. -/
def landedSlots (s : State) : List Nat := (s.dns.map.filter fun e => e.2.st == .landed).map fun e => e.2.slot

/-- A free landing slot, if there is capacity-tier space (R173). -/
def freeLanding (s : State) : Option Nat :=
  let used := landedSlots s
  if used.length < landingSlots s then (List.range (used.length + 1)).find? fun i => !used.contains i else none

end Sys2Proof.Machine
end

