-- ==== Sys2Proof/Machine/DenseOps.lean ====
section
/-! DEFINITION. The dense tier (spec/09): trays and geometry, the media format, reading with retries and reconstruction, the write
streams, stripes, erase units, garbage collection and rebuild. -/

namespace Sys2Proof.Machine

open Sys2Proof

/-! ### Trays and geometry (R266 to R271, R277) -/

/-- A dense tray. -/
def dTrayOf (s : State) (i : Nat) : DTray := alGetD s.dns.trays i {}

/-- A dense tray changed. -/
def setDTray (s : State) (i : Nat) (f : DTray → DTray) : State :=
  { s with dns := { s.dns with trays := alSet s.dns.trays i (f (dTrayOf s i)) } }

/-- The dense trays in service, ascending. -/
def denseUp (s : State) : List Nat :=
  ((s.dns.trays.filter fun t => t.2.st == 1 && inService s 8 t.1).map fun t => t.1).foldl (fun l i => l.filter (· < i) ++ [i] ++ l.filter (i < ·)) []

/-- The geometry of the first tray the home accepted (R266). -/
def denseGeom (s : State) : DTray :=
  ((s.dns.trays.find? fun t => t.2.euCount != 0).map fun (t : Nat × DTray) => t.2).getD {}

/-- Program units per 64 KiB stride. -/
def pagesPerStride (g : DTray) : Nat := if g.pu64 then 1 else 4

/-- Strides per erase unit (R277). -/
def stridesPerEu (g : DTray) : Nat := g.pages / pagesPerStride g

/-- Frames per program unit. -/
def framesPerPage (g : DTray) : Nat := if g.pu64 then 16 else 4

/-- An erase unit. -/
def euOf (s : State) (tray eu : Nat) : EuSt := alGetD (dTrayOf s tray).eus eu {}

/-- An erase unit changed. -/
def setEu (s : State) (tray eu : Nat) (f : EuSt → EuSt) : State :=
  setDTray s tray fun t => { t with eus := alSet t.eus eu (f (euOf s tray eu)) }

/-- The address field of a bridge message (R268). -/
def brAddr (eu page off : Nat) : Nat := eu * 2 ^ 34 + page * 2 ^ 20 + off

/-- The CLASS of a media job: that of the request that caused it, 0 for background work (R657). -/
def jobClass (s : State) (j : Nat) : Nat := alGetD s.dns.jobCls j 0

/-- The media job that a bridge request is for. -/
def Purpose.job? (p : Purpose) : Option Nat :=
  match p with
  | .brSense _ j => some j
  | .brFetch _ j => some j
  | .brLoad _ j => some j
  | .brProgram _ j => some j
  | .brErase _ j => some j
  | .brHealth _ j => some j
  | _ => none

/-- A bridge request (R267): TENANT, JOB and EPOCH zero, a given CLASS. -/
def brRequestAs (s : State) (cls tray opcode eu page off : Nat) (payload : List Byte) (p : Purpose) : State :=
  match denseTrayEp s tray with
  | some ep => request s ep opcode cls {} 0 (brAddr eu page off) payload p
  | none => s

/-- A bridge request under the CLASS of its job (R657). -/
def brRequest (s : State) (tray opcode eu page off : Nat) (payload : List Byte) (p : Purpose) : State :=
  brRequestAs s ((p.job?.map (jobClass s)).getD 0) tray opcode eu page off payload p

/-- The tag of the request with a purpose. -/
def tagOf (s : State) (p : Purpose) : Nat := ((outWith s p).map OutReq.tag).getD 0

/-! ### Jobs -/

/-- A new media job of a CLASS; its number is the count before. -/
def newJobAs (s : State) (cls : Nat) (m : Media) : State :=
  let j := s.dns.nextJob
  { s with dns := { s.dns with jobs := s.dns.jobs ++ [(j, m)], nextJob := j + 1,
                               jobCls := if cls = 0 then s.dns.jobCls else s.dns.jobCls ++ [(j, cls)] } }

/-- A new media job of background work. -/
def newJob (s : State) (m : Media) : State := newJobAs s 0 m

/-- The CLASS of what a sector is read for. -/
def readClass (s : State) (why : ReadFor) : Nat :=
  match why with
  | .fill cls _ => cls
  | .part j => jobClass s j
  | .recon j _ => jobClass s j
  | _ => 0

/-- A media job. -/
def jobOf (s : State) (j : Nat) : Option Media := alGet s.dns.jobs j

/-- A media job changed. -/
def setJob (s : State) (j : Nat) (m : Media) : State := { s with dns := { s.dns with jobs := alSet s.dns.jobs j m } }

/-- A media job ended. -/
def dropJob (s : State) (j : Nat) : State := 
  { s with dns := { s.dns with jobs := alErase s.dns.jobs j, jobCls := alErase s.dns.jobCls j,
                               oldRetries := alErase s.dns.oldRetries j } }

/-- A stripe as recovery finds it: a row under way some of whose data strides are not written counts as programmed, with no parity; those
strides count as never written (R302). -/
def stripeFound (d : Dns) (i : Nat) (x : Stripe) : Stripe :=
  match d.active.find? fun a => a.1 == i && 0 < a.2.2.1 && a.2.2.1 < 8 with
  | none => x
  | some a =>
    let open_ := fun (k : Nat) => 8 ≤ k || d.jobs.any fun (p : Nat × Media) =>
      match p.2 with
      | .program st sd m _ _ _ _ _ _ _ => st == i && sd == a.2.1 && m == k
      | _ => false
    { x with rows := x.rows + 1, voids := x.voids ++ ((List.range 10).filter open_).map fun k => (a.2.1, k) }

/-- The parity that recovery writes anew: P and Q not yet programmed of rows whose data strides are complete (R302). -/
def parityDue (s : State) (p : Nat × Media) : Option (Nat × Media) :=
  match p.2 with
  | .program st sd m t e _ _ _ _ ent =>
    if 8 ≤ m ∧ (s.dns.active.any fun a => a.1 == st && a.2.1 == sd && 8 ≤ a.2.2.1) = true then
      some (p.1, .program st sd m t e (sd * pagesPerStride (denseGeom s)) 0 0 0 ent)
    else none
  | _ => none

/-- What the media and the capacity tier hold after a commit: what recovery finds and goes on with (R301, R302; log entry 61). -/
def saveMedia (s : State) : State :=
  let d := s.dns
  let trays := d.trays.map fun (t : Nat × DTray) => (t.1, { t.2 with st := 0, halted := false })
  let stripes := d.stripes.map fun (p : Nat × Stripe) => (p.1, stripeFound d p.1 p.2)
  let m : Dns := { trays, map := d.map, stripes, nextStripe := d.nextStripe, closeCount := d.closeCount, opens := d.opens,
                   active := d.active.filter (fun a => 8 ≤ a.2.2.1), jobs := d.jobs.filterMap (parityDue s), nextJob := d.nextJob,
                   writeSerial := d.writeSerial, eraseSerial := d.eraseSerial }
  { s with nv := { s.nv with media := m } }

/-! ### Media format (R275, R276) -/

/-- The sync word of a frame. -/
def syncWord : List Byte := [0xA5, 0xC3, 0x3C, 0x5A]

/-- The POISON bits of one sector of a unit, from the unit's poisoned lines. -/
def poisonBits (poison : List Nat) (sector : Nat) : Nat :=
  (List.range 32).foldl (fun b i => if poison.contains (32 * sector + i) then b + 2 ^ i else b) 0

/-- A frame: sync header, data, parity (R275). -/
def frameBytes (page sector kind temp eraseSerial unit serial poison : Nat) (data : List Byte) : List Byte :=
  let head := beBytes 2 page ++ beBytes 1 (sector + 16 * kind) ++ beBytes 1 (temp % 4) ++ beBytes 6 eraseSerial ++ beBytes 5 unit ++
    beBytes 6 serial ++ beBytes 4 poison ++ [0, 0, 0]
  syncWord ++ head ++ data ++ Config.ldpcParity (head ++ data)

/-- How many bits of two bytes differ. -/
def bitDiff (a b : Byte) : Nat := countBy (List.range 8) fun i => a.getLsbD i != b.getLsbD i

/-- What a frame that was read shows (R276, R290). -/
inductive FrameRead where
  | good (data : List Byte) (poison strength : Nat)
  | missing
  | wrongPlace
  | bad
deriving DecidableEq, Repr

/-- A frame judged against the place it was read from; a primer's own erase serial is not known before it is read. -/
def judgeFrame (raw : List Byte) (page sector : Nat) (eraseSerial : Option Nat) : FrameRead :=
  let sync := sumBy (List.zip (raw.take 4) syncWord) fun (p : Byte × Byte) => bitDiff p.1 p.2
  if 4 < sync then .missing
  else
    match Config.ldpcDecode raw with
    | none => .bad
    | some (body, strength) =>
      if beAt body 0 2 ≠ page ∨ beAt body 2 1 % 16 ≠ sector ∨ (eraseSerial.any fun e => beAt body 4 6 != e) then .wrongPlace
      else .good (slice body 28 4096) (beAt body 21 4) strength

/-- The primer record of R299. -/
def primerBytes (s : State) (tray eu serial count : Nat) : List Byte :=
  let b := beBytes 8 0x4D565052494D4552 ++ beBytes 3 (selfEp s) ++ [0] ++ beBytes 1 tray ++ [0, 0, 0] ++ beBytes 4 eu ++
    beBytes 6 serial ++ beBytes 4 count ++ [0, 0] ++ beBytes 8 (euOf s tray eu).erased ++ List.replicate 20 0
  padTo (b ++ vecBytes 4 (crc32c b)) 4096 0

/-- The raw bytes of page `page` of a stride that holds an entry: frames from OFFSET 0 on (R275). -/
def pageBytes (s : State) (tray eu page : Nat) (e : RowEnt) : List Byte :=
  let g := denseGeom s
  let n := framesPerPage g
  let first := page % pagesPerStride g * n
  (List.range n).flatMap fun k =>
    frameBytes page k e.kind e.temp (euOf s tray eu).serial (if e.kind = 0 ∨ e.kind = 3 then e.unit.getD 0 else 0)
      (if e.unit.isSome then e.serial else s.dns.writeSerial)
      (poisonBits e.poison (first + k)) (slice e.data (4096 * (first + k)) 4096)

/-! ### Stripes -/

/-- A stripe. -/
def stripeOf (s : State) (i : Nat) : Option Stripe := alGet s.dns.stripes i

/-- A stripe changed. -/
def setStripe (s : State) (i : Nat) (x : Stripe) : State := { s with dns := { s.dns with stripes := alSet s.dns.stripes i x } }

/-- The stripe and member number of an erase unit. -/
def memberOf (s : State) (tray eu : Nat) : Option (Nat × Nat) :=
  s.dns.stripes.findSome? fun (p : Nat × Stripe) => (p.2.members.findIdx? (· == (tray, eu))).map fun m => (p.1, m)

/-- Where a member's stride is read: its own place, or where a rebuild has written it; none where it is missing (R294) or its tray
is sheeted (R547). -/
def memberPlace (s : State) (x : Stripe) (m stride : Nat) : Option (Nat × Nat) :=
  (if x.missing.contains m then
    match x.rebuild with
    | some (m', tray, eu, done) => if m' = m ∧ stride < done then some (tray, eu) else none
    | none => none
  else x.members[m]?).filter fun p => inService s 8 p.1

/-- Whether the page slots of a stride are retired, or were never written in a row that a power loss cut short: it counts as zeros and is
never read (R289, R302). -/
def slotRetired (s : State) (tray eu stride : Nat) : Bool :=
  (euOf s tray eu).slots.contains stride ||
    s.dns.stripes.any fun (p : Nat × Stripe) => p.2.voids.any fun v => v.1 == stride && p.2.members[v.2]? == some (tray, eu)

/-! ### Sector reads (R290, R291) -/

/-- REF_SHIFT of a sense: 0, +1, −1, +2, −2 and so on. -/
def refShift (tries : Nat) : Nat := if tries % 2 = 1 then (tries + 1) / 2 else (256 - tries / 2) % 256

/-- Page of a sector of a stride, and its frame there. -/
def sectorPlace (g : DTray) (stride sector : Nat) : Nat × Nat :=
  (stride * pagesPerStride g + sector / framesPerPage g, sector % framesPerPage g)

/-- Whether a sector job is under way on a page. -/
def pageBusy (s : State) (tray eu page : Nat) : Bool :=
  s.dns.jobs.any fun (p : Nat × Media) =>
    match p.2 with
    | .sector t e st k _ ph _ _ _ => t == tray && e == eu && 0 < ph && (sectorPlace (denseGeom s) st k).1 == page
    | _ => false

/-- The sense of a sector job goes out (R290); one with non-zero REF_SHIFT is counted. -/
def senseSector (s : State) (j : Nat) (tray eu stride sector tries : Nat) (why : ReadFor) : State :=
  let pl := sectorPlace (denseGeom s) stride sector
  let s := if tries = 0 then s else bump s Reg.dnsReadRetryLo 1
  let s := brRequest s tray Op.brSense eu pl.1 0 (beBytes 1 (refShift tries) ++ [0, 0, 0]) (.brSense tray j)
  setJob s j (.sector tray eu stride sector tries 1 (tagOf s (.brSense tray j)) [] why)

/-- The first of the reads that wait for a page and have been tried as often. -/
def pageNext (s : State) (tray eu page tries : Nat) : Option (Nat × Nat × Nat × ReadFor) :=
  s.dns.jobs.findSome? fun (p : Nat × Media) =>
    match p.2 with
    | .sector t e st k n 0 _ _ why =>
      if t = tray ∧ e = eu ∧ (sectorPlace (denseGeom s) st k).1 = page ∧ n = tries then some (p.1, st, k, why) else none
    | _ => none

/-- Whether some read waits for a page. -/
def pageWanted (s : State) (tray eu page : Nat) : Bool :=
  s.dns.jobs.any fun (p : Nat × Media) =>
    match p.2 with
    | .sector t e st k _ 0 _ _ _ => t == tray && e == eu && (sectorPlace (denseGeom s) st k).1 == page
    | _ => false

/-- The first 4,096 raw bytes of a frame are fetched from its page's buffer (R269, R290). -/
def fetchFrame (s : State) (j tray eu stride sector tries : Nat) (why : ReadFor) : State :=
  let pl := sectorPlace (denseGeom s) stride sector
  let s := brRequest s tray Op.brFetch eu pl.1 (4624 * pl.2) (beBytes 2 4096 ++ [0, 0]) (.brFetch tray j)
  setJob s j (.sector tray eu stride sector tries 3 0 [] why)

/-- A read has done with a page: the next frame that this sense was for is fetched; the buffer is released, under the CLASS of the read, where
nothing wants the page any more (R290, R291, R657). -/
def pageFree (s : State) (cls tray eu page tries : Nat) : State :=
  match pageNext s tray eu page tries with
  | some (j, st, k, why) => fetchFrame s j tray eu st k tries why
  | none => if pageWanted s tray eu page then s else brRequestAs s cls tray Op.brRelease eu page 0 [] (.brRelease tray)

/-- The sector jobs that wait for their page are started. -/
def startSectors (s : State) : State :=
  s.dns.jobs.foldl (fun s (p : Nat × Media) =>
    match p.2 with
    | .sector t e st k n 0 _ _ why =>
      if pageBusy s t e (sectorPlace (denseGeom s) st k).1 then s else senseSector s p.1 t e st k n why
    | _ => s) s

/-- A sector is rebuilt from the same sector of the row's other members that are not missing (R291); a data member whose page slot
is retired counts as zeros, as P and Q took it (R289); retired parity is no help (log entry 228). -/
def startRecon (s : State) (x : Stripe) (stripe member stride sector : Nat) (why : ReadFor) : State :=
  let others := (List.range 10).filter fun m => m != member && (memberPlace s x m stride).isSome
  let zero := others.filter fun m =>
    match memberPlace s x m stride with
    | some (t, e) => slotRetired s t e stride
    | none => false
  let want := others.filter fun m => !zero.contains m
  let zero := zero.filter (· < 8)
  let j := s.dns.nextJob
  let s := newJobAs s (readClass s why) (.recon stripe member stride sector want (zero.map fun m => (m, List.replicate 4096 0)) [] why)
  want.foldl (fun s m =>
    match memberPlace s x m stride with
    | some (t, e) => newJobAs s (jobClass s j) (.sector t e stride sector 0 0 0 [] (.recon j m))
    | none => s) s

/-- A sector of a member's stride is to be read: from its place, or by reconstruction where the member is missing (R291, R294). -/
def readSector (s : State) (stripe member stride sector : Nat) (why : ReadFor) : State :=
  match stripeOf s stripe with
  | none => s
  | some x =>
    match memberPlace s x member stride with
    | some (t, e) => newJobAs s (readClass s why) (.sector t e stride sector 0 0 0 [] why)
    | none =>
      startRecon s x stripe member stride sector why

/-- A sector of a unit in the dense tier is to be read. -/
def readUnitSector (s : State) (unit sector : Nat) (why : ReadFor) : State :=
  let e := mapOf s unit
  match memberOf s e.tray e.eu with
  | some (i, m) => readSector s i m e.stride sector why
  | none => s

/-- The unit that lies at a place of the dense tier. -/
def unitAt (s : State) (tray eu stride : Nat) : Option Nat :=
  (s.dns.map.find? fun (e : Nat × MapEnt) => e.2.st == .dense && e.2.tray == tray && e.2.eu == eu && e.2.stride == stride).map
    fun (e : Nat × MapEnt) => e.1

/-- A unit is to be refreshed (R292). -/
def dueRefresh (s : State) (unit : Option Nat) : State :=
  match unit with
  | some u => { s with dns := { s.dns with refreshDue := addOnce s.dns.refreshDue u } }
  | none => s

/-- A unit marked LOST (R297): fills of its lines end with LOST; a relocation of it is given up, a write of it goes on
with its other lines poisoned (R298). -/
def markLost (s : State) (unit : Nat) : State :=
  let e := mapOf s unit
  if e.st ≠ .dense then s
  else
    let s := setMap s unit { e with st := .lost }
    let w := ((winOfLine s (512 * unit)).map Win.id).getD 0
    let s := raise (bump s Reg.dnsLostLo 1) Reg.dnsEventStatus 2 2 noUnit (det 2 w ++ det 7 (65536 * unit))
    let hit := (s.pool.txs.flatMap Tx.fills).filter fun l => unitOfLine l == unit
    let s := hit.foldl (fun s l => fillFailed s l St.lost) s
    let zero := List.replicate 4096 (0 : Byte)
    let jobs := s.dns.jobs.filterMap fun (p : Nat × Media) =>
      match p.2 with
      | .gather u t land reloc want parts ovr lines =>
        if u = unit then
          (if reloc.isSome then none else some (p.1, Media.gather u t land reloc [] (parts ++ want.map fun k => (k, zero)) ovr lines))
        else some p
      | _ => some p
    let bad := s.dns.jobs.flatMap fun (p : Nat × Media) =>
      match p.2 with
      | .gather u _ _ none _ _ ovr _ => if u = unit then (List.range 512).filter fun i => (alGet ovr (512 * unit + i)).isNone else []
      | _ => []
    let s := bad.foldl (fun s i => if inHbm s (512 * unit + i) then s else poisonLine s (512 * unit + i)) s
    saveMedia { s with dns := { s.dns with jobs } }

/-! ### Gathering a unit (R281, R171) -/

/-- The lines of a unit whose data the home cache has and the tier has not: dirty, or in a row that is not programmed. -/
def unitNewLines (s : State) (unit : Nat) : List Nat :=
  (s.pool.cache.filter fun (c : Nat × CLine) => (c.2.dirty || c.2.staged) && unitOfLine c.1 == unit).map fun (c : Nat × CLine) => c.1

/-- A sector of a unit of which nothing is written, as its tier would hold it. -/
def zeroSector (s : State) (unit sector : Nat) : List Byte :=
  (List.range 32).flatMap fun i => tierEncode s (512 * unit + 32 * sector + i) (List.replicate 128 0)

/-- A gather job: a write-back, spill, relocation, refresh, re-key or landing of a unit. Cached lines are taken from
the home cache, and a sector that is cached whole is not read; a ZERO or LOST unit reads as zeros (R281). -/
def gatherUnit (s : State) (unit temp cls : Nat) (land : Bool) (reloc : Option Nat) (lines : List Nat) : State :=
  let e := mapOf s unit
  let fresh := if reloc.isSome then [] else (s.pool.cache.map fun c => c.1).filter fun l => unitOfLine l == unit
  let ovr := fresh.map fun l => (l, tierEncode s l (hbmLine s l))
  let whole := (List.range 16).filter fun k => (List.range 32).all fun i => fresh.contains (512 * unit + 32 * k + i)
  let want := if e.st = .dense then (List.range 16).filter fun k => !whole.contains k else []
  let parts := ((List.range 16).filter fun k => !want.contains k).map fun k => (k, zeroSector s unit k)
  let j := s.dns.nextJob
  let s := newJobAs s cls (.gather unit temp land reloc want parts ovr lines)
  want.foldl (fun s k => readUnitSector s unit k (.part j)) s

/-- The 64 KiB of a gathered unit, new lines laid over what was read. -/
def unitBytes (parts : List (Nat × List Byte)) (unit : Nat) (ovr : List (Nat × List Byte)) : List Byte :=
  (List.range 512).flatMap fun i =>
    match alGet ovr (512 * unit + i) with
    | some b => padTo b 128 0
    | none => slice (alGetD parts (i / 32) []) (128 * (i % 32)) 128

/-- A unit's data strides appended to a stream (R282). -/
def enqueueRow (s : State) (stream : Nat) (e : RowEnt) : State :=
  let e := { e with serial := s.dns.writeSerial + 1 }
  { s with dns := { s.dns with rows := alMod s.dns.rows stream [] fun l => l ++ [e], writeSerial := s.dns.writeSerial + 1 } }

/-- The first page's write address when a gathered unit lands (R171). -/
def landPages (s : State) (j unit slot : Nat) (bytes : List Byte) : State :=
  (copiesOf s unit).foldl (fun s i =>
    (List.range 16).foldl (fun s k =>
      request s ((capTrayEp s i).getD 0) Op.trayWrite (jobClass s j) {} 0 ((Config.trayAddr i true slot + 4096 * k) % 2 ^ 44)
        (slice bytes (4096 * k) 4096) (.landWrite j k i)) s) s

/-- A write-back's lines stay readable in the home cache until the data is programmed (R283). -/
def stageLines (s : State) (lines : List Nat) : State :=
  let f := fun (c : Nat × CLine) => if lines.contains c.1 then (c.1, { c.2 with dirty := false, staged := true }) else c
  { s with pool := { s.pool with cache := s.pool.cache.map f } }

/-- A gathered unit goes to its stream, or to the landing area; where that has no room it is spilled, and counted (R173). -/
def gatherDone (s : State) (j unit temp : Nat) (land : Bool) (reloc : Option Nat) (parts ovr : List (Nat × List Byte))
    (lines : List Nat) : State :=
  let bytes := unitBytes parts unit ovr
  let poison := (s.coh.poison.filter fun l => unitOfLine l == unit).map fun l => l % 512
  match land, freeLanding s with
  | true, some slot =>
    let s := setMap s unit { st := .landed, slot, serial := s.dns.writeSerial + 1, temp }
    let s := setCapUnit { s with dns := { s.dns with writeSerial := s.dns.writeSerial + 1 } } unit fun u => { u with lastWrite := tickNow s }
    landPages s j unit slot bytes
  | _, _ =>
    let s := if land then bump s Reg.poolCapSpillLo 1 else s
    enqueueRow (dropJob s j) temp { unit := some unit, data := bytes, poison, serial := 0, temp, reloc, lines, cls := jobClass s j }

/-- The lines whose data has reached the tier: write-backs end, leaving lines go. -/
def linesWritten (s : State) (lines : List Nat) : State :=
  let f := fun (c : Nat × CLine) =>
    if lines.contains c.1 then (c.1, { c.2 with staged := false }) else c
  let s := lines.foldl logFreed { s with pool := { s.pool with cache := s.pool.cache.map f } }
  (s.pool.cache.filter fun (c : Nat × CLine) => lines.contains c.1 && c.2.leaving && !c.2.dirty).foldl
    (fun s (c : Nat × CLine) => dropLine s c.1) s

/-- The write-backs that wait for lines go on. -/
def releaseWaits (s : State) (lines : List Nat) : State :=
  { s with pool := { s.pool with txs := s.pool.txs.map fun t => { t with wbs := t.wbs.filter fun l => !lines.contains l } } }

/-! ### Delivering sectors -/

/-- A good sector of a unit goes where it was wanted; its POISON bits are loaded (R276), but for lines written since. -/
def deliverSector (s : State) (tray eu stride sector : Nat) (data : List Byte) (poison : Nat) (why : ReadFor) : State :=
  let unit := unitAt s tray eu stride
  let s :=
    match unit with
    | some u => (List.range 32).foldl (fun s i =>
      let l := 512 * u + 32 * sector + i
      if bit poison i && !inHbm s l then poisonLine s l else s) s
    | none => s
  match why with
  | .fill _ u =>
    let lines := (s.pool.txs.flatMap Tx.fills).filter fun l => l / 32 == 16 * u + sector
    lines.foldl (fun s l => fillArrived s l (tierDecode s l (slice data (128 * (l % 32)) 128))) s
  | .part j =>
    match jobOf s j with
    | some (.gather u t land reloc want parts ovr lines) =>
      setJob s j (.gather u t land reloc (without want sector) (alSet parts sector data) ovr lines)
    | some (.rebuild st m sd want parts) => setJob s j (.rebuild st m sd (without want sector) (alSet parts sector data))
    | _ => s
  | .recon j m =>
    match jobOf s j with
    | some (.recon st mem sd k want parts lost w) => setJob s j (.recon st mem sd k (without want m) (alSet parts m data) lost w)
    | _ => s
  | .patrol => s
  | .primer => s

/-- The sectors of a stripe's row are rebuilt from eight good members: by XOR where P serves, else by the code (R277). -/
def rebuildBytes (member : Nat) (parts : List (Nat × List Byte)) : List Byte :=
  let need := (List.range 9).filter fun m => m != member
  if member ≤ 8 ∧ need.all (fun m => (alGet parts m).isSome) then
    need.foldl (fun acc m => List.zipWith (fun (a b : Byte) => a ^^^ b) acc (padTo (alGetD parts m []) acc.length 0))
      (List.replicate ((parts.map fun p => p.2.length).foldl max 0) 0)
  else Config.parityRebuild member parts

/-- A sector that no member can give: the units of the row's data sectors that cannot be recovered are LOST (R291, R295). -/
def sectorsLost (s : State) (stripe stride : Nat) (members : List Nat) : State :=
  match stripeOf s stripe with
  | none => s
  | some x =>
    members.foldl (fun s m =>
      match x.members[m]? with
      | some (t, e) =>
        match unitAt s t e stride with
        | some u => markLost s u
        | none => s
      | none => s) s

/-- A reconstruction whose nine members have answered: the sector is rebuilt from any eight good ones, else lost; a fill of a unit that has
moved meanwhile reads it at its new place. -/
def reconEnded (s : State) (j stripe member stride sector : Nat) (parts : List (Nat × List Byte)) (lost : List Nat) (why : ReadFor) :
    State :=
  let s := dropJob s j
  match stripeOf s stripe with
  | none => s
  | some x =>
    let pl := (x.members[member]?).getD (0, 0)
    if 8 ≤ parts.length then
      let s := dueRefresh (bump s Reg.dnsReconstructLo 1) (unitAt s pl.1 pl.2 stride)
      deliverSector s pl.1 pl.2 stride sector (rebuildBytes member parts) 0 why
    else
      let s := sectorsLost s stripe stride ((member :: lost ++ x.missing).filter (· < 8))
      match why with
      | .part g =>
        let zero := List.replicate 4096 (0 : Byte)
        match jobOf s g with
        | some (.rebuild st m sd want ps) => setJob s g (.rebuild st m sd (without want sector) (alSet ps sector zero))
        | some (.gather u t land reloc want ps ovr lines) => setJob s g (.gather u t land reloc (without want sector) (alSet ps sector zero) ovr lines)
        | _ => s
      | .fill _ u => if (s.pool.txs.flatMap Tx.fills).any fun l => l / 32 == 16 * u + sector then readUnitSector s u sector why else s
      | _ => s

/-- A sector that could not be read at its own place, for a reader that is itself a reconstruction, or not (R291). -/
def sectorUnread (s : State) (tray eu stride sector : Nat) (why : ReadFor) : State :=
  match why with
  | .recon j m =>
    match jobOf s j with
    | some (.recon st mem sd k want parts lost w) => setJob s j (.recon st mem sd k (without want m) parts (lost ++ [m]) w)
    | _ => s
  | .primer => s
  | _ =>
    match memberOf s tray eu with
    | some (i, m) =>
      match stripeOf s i with
      | none => s
      | some x =>
        startRecon s x i m stride sector why
    | none => s

/-! ### Erase units -/

/-- The lowest free erase count's erase unit on a tray, among equals the lowest (R288); units 0 and 1 are root units (R301). -/
def freeEu (s : State) (tray : Nat) : Option Nat :=
  ((dTrayOf s tray).eus.filter fun (e : Nat × EuSt) => e.2.st == 1 && 2 ≤ e.1).foldl (fun (b : Option (Nat × Nat)) (e : Nat × EuSt) =>
    match b with
    | none => some (e.2.count, e.1)
    | some x => if e.2.count < x.1 ∨ (e.2.count = x.1 ∧ e.1 < x.2) then some (e.2.count, e.1) else some x) none |>.map fun x => x.2

/-- Whether an erase of an erase unit, or the reading of its primer, is under way. -/
def euWorking (s : State) (tray : Nat) : Bool :=
  s.dns.jobs.any fun (p : Nat × Media) =>
    match p.2 with
    | .erase t _ _ _ _ _ => t == tray
    | .sector t _ _ _ _ _ _ _ .primer => t == tray
    | _ => false

/-- An erase is issued under the next erase serial (R299). -/
def eraseEu (s : State) (tray eu : Nat) : State :=
  if (dTrayOf s tray).halted then s
  else
    let serial := s.dns.eraseSerial + 1
    let j := s.dns.nextJob
    let s := setEu { s with dns := { s.dns with eraseSerial := serial } } tray eu fun u => { u with st := 0, serial }
    let s := brRequest s tray Op.brErase eu 0 0 [] (.brErase tray j)
    newJob s (.erase tray eu 0 0 0 (tagOf s (.brErase tray j)))

/-- The lowest erase unit of a tray that the home does not know. -/
def unknownEu (s : State) (tray : Nat) : Option Nat :=
  let t := dTrayOf s tray
  ((List.range (min t.euCount (t.eus.length + 3))).filter fun i => 2 ≤ i).find? fun i => (alGet t.eus i).isNone

/-- A tray short of a free erase unit gets one: a half-erased one is erased again (R300); of one it does not know it reads the
primer first. -/
def prepareEu (s : State) (tray : Nat) : State :=
  if (freeEu s tray).isSome || euWorking s tray then s
  else
    match ((dTrayOf s tray).eus.find? fun (e : Nat × EuSt) => e.2.st == 0 && 2 ≤ e.1).map fun (e : Nat × EuSt) => e.1 with
    | some e => eraseEu s tray e
    | none =>
      match unknownEu s tray with
      | some e => newJob s (.sector tray e 0 0 0 0 0 [] .primer)
      | none => s

/-- The erase unit that formatting comes to next from `n` on: retired ones are passed over; after the last the tray serves (R300). -/
def formatFrom (s : State) (tray n : Nat) : State :=
  let t := dTrayOf s tray
  let k := n + ((List.range (t.eus.length + 1)).find? fun i => (euOf s tray (n + i)).st != 3).getD 0
  if t.st ≠ 5 then s
  else if k < t.euCount then eraseEu (setDTray s tray fun t => { t with formatAt := k }) tray k
  else setDTray s tray fun t => { t with st := 1, formatAt := 0 }

/-- An erase unit is erased and primed, or retired: the next of a tray that is being formatted follows (R300). -/
def erased (s : State) (tray eu : Nat) : State := if (dTrayOf s tray).st = 5 then formatFrom s tray (eu + 1) else s

/-- The highest erase count on a tray. -/
def topCount (s : State) (tray : Nat) : Nat := ((dTrayOf s tray).eus.map fun (e : Nat × EuSt) => e.2.count).foldl max 0

/-- What the primer of an erase unit says (R300). A valid one makes it free; one of another home makes the tray foreign, or has it
formatted where the coat marks it FORMAT; anything else leaves it half-erased, with the count that the home knows, or the highest of its
tray. -/
def primerRead (s : State) (tray eu : Nat) (data : Option (List Byte)) : State :=
  let count := ((alGet (dTrayOf s tray).eus eu).map EuSt.count).getD (topCount s tray)
  let half := setEu s tray eu fun u => { u with st := 0, count }
  match data with
  | none => half
  | some d =>
    if beAt d 0 8 ≠ 0x4D565052494D4552 ∨ beAt d 60 4 ≠ (crc32c (d.take 60)).toNat ∨ beAt d 12 1 ≠ tray ∨ beAt d 16 4 ≠ eu then half
    else if beAt d 8 3 ≠ selfEp s then
      if ((coat s).dense.trays.find? fun t => t.index == tray).any DenseEnt.format then
        formatFrom (setDTray s tray fun t => { t with st := 5 }) tray 0
      else raise (setDTray s tray fun t => { t with st := 4 }) Reg.dnsEventStatus 1 1 tray []
    else if s.dns.eraseSerial < beAt d 20 6 then half
    else setEu s tray eu fun u => { u with st := 1, serial := beAt d 20 6, count := beAt d 26 4 }

/-! ### Streams and rows (R282, R283) -/

/-- Free erase units over ten: the free stripes (R285). -/
def freeStripes (s : State) : Nat :=
  sumBy (denseUp s) (fun i => countBy (dTrayOf s i).eus fun (e : Nat × EuSt) => e.2.st == 1 && 2 ≤ e.1) / 10

/-- All stripes the trays in service can form (R278). -/
def allStripes (s : State) : Nat :=
  sumBy (denseUp s) (fun i => let t := dTrayOf s i; t.euCount - 2 - countBy t.eus fun (e : Nat × EuSt) => e.2.st == 3 && 2 ≤ e.1) / 10

/-- Whether free stripes are at or below GC_URGENT_PCT (R285, R307). -/
def gcUrgent (s : State) : Bool := freeStripes s * 100 ≤ allStripes s * coatFld s Reg.dnsGcCfg 0 5 5

/-- Whether free stripes are below GC_LOW_PCT (R285). -/
def gcLow (s : State) : Bool := freeStripes s * 100 < allStripes s * coatFld s Reg.dnsGcCfg 0 0 5

/-- The trays in service in the order a new stripe takes them: rotated by an uninterpreted start (R288 orders only a tray's erase
units). -/
def stripeTrays (s : State) : List Nat :=
  let up := (denseUp s).filter fun i => !(dTrayOf s i).halted
  let k := Config.stripeStart s.dns.nextStripe % max up.length 1
  up.drop k ++ up.take k

/-- A checkpoint (R301): the changed map pages, 16 a stride, and the stripe table with erase counts, serials and the stripes to be opened next,
whose layout is uninterpreted, go to the metadata stream; what recovery finds is brought up to date; root records follow (log entries 61,
67, 174). -/
def checkpoint (s : State) : State :=
  if s.dns.st ≠ 2 then s
  else
    let pages := (s.dns.changed.map fun u => u / 512).foldl addOnce []
    let put := fun (s : State) (data : List Byte) => enqueueRow s 4 { unit := none, data := padTo data 65536 0, serial := 0, temp := 0, kind := 3 }
    let table := s.dns.stripes.flatMap fun (p : Nat × Stripe) => p.1 :: p.2.rows :: p.2.members.map fun m => (euOf s m.1 m.2).count
    let s := ((chunksOf 16 (ceilDiv pages.length 16) pages).map fun l => l.flatMap (mapPage s)).foldl put s
    let s := put s (Config.stripeTable (s.dns.writeSerial :: s.dns.eraseSerial :: table))
    saveMedia { s with dns := { s.dns with changed := [], listed := [], rootDue := true } }

/-- A stream takes up one more of the 64 stripes that the last checkpoint lists for it; before one that is not listed comes a checkpoint
(R301). -/
def takeListed (s : State) (stream : Nat) : State :=
  let s := if 64 ≤ alGetD s.dns.listed stream 0 then checkpoint s else s
  { s with dns := { s.dns with listed := alSet s.dns.listed stream (alGetD s.dns.listed stream 0 + 1) } }

/-- A new stripe for a stream where ten trays have a free erase unit; else those that have none prepare one (R277, R288). -/
def formStripe (s : State) (stream : Nat) : State :=
  if (denseUp s).length < 10 then s
  else
    let ready := (stripeTrays s).filter fun i => (freeEu s i).isSome
    if ready.length < 10 then (denseUp s).foldl prepareEu s
    else
      let members := (ready.take 10).map fun i => (i, (freeEu s i).getD 0)
      let s := takeListed s stream
      let s := members.foldl (fun s m => setEu s m.1 m.2 fun u => { u with st := 2 }) s
      let id := s.dns.nextStripe
      { s with dns := { s.dns with stripes := s.dns.stripes ++ [(id, { members, stream })], nextStripe := id + 1,
                                   opens := alSet s.dns.opens stream id } }

/-- A filler stride (R283). -/
def fillerEnt (temp : Nat) : RowEnt := { unit := none, data := List.replicate 65536 0, serial := 0, temp, kind := 5 }

/-- Whether a row is to be programmed though it is not full: a FLUSH or DISCARD waits for an entry's lines, or a checkpoint is in it (R283,
R284, R301). -/
def rowForced (s : State) (l : List RowEnt) : Bool :=
  l.any fun e => (e.kind == 3 && e.unit.isNone) || s.pool.txs.any fun t => t.wbs.any fun w => e.lines.contains w

/-- One stride of a row goes to its member: its first page is loaded (R272). A retired slot is passed over (R289). -/
def programStride (s : State) (stripe stride member tray eu : Nat) (e : RowEnt) : State :=
  let page := stride * pagesPerStride (denseGeom s)
  newJobAs s e.cls (.program stripe stride member tray eu page 0 0 0 e)

/-- Whether a stride may be programmed while free stripes are short: relocations and refreshes of units that lie in the dense tier, and
metadata, without which nothing could be recovered (R285, R301); a migration waits. -/
def urgentOk (s : State) (e : RowEnt) : Bool :=
  e.kind == 3 || e.kind == 5 || (e.reloc.isSome && (e.unit.any fun u => (mapOf s u).st == .dense))

/-- A stream's first eight strides are programmed as the next row of its open stripe, if it has one with room whose members all
serve (R282, R296). While free stripes are short only relocations are (R285). -/
def startRow (s : State) (stream : Nat) : State :=
  let all := alGetD s.dns.rows stream []
  let l := if gcUrgent s then all.filter (urgentOk s) else all
  let rest := if gcUrgent s then all.filter fun e => !urgentOk s e else []
  let l := if rowForced s l ∧ l.length % 8 ≠ 0 then l ++ List.replicate (8 - l.length % 8) (fillerEnt stream) else l
  if l.length < 8 then s
  else
    match (alGet s.dns.opens stream).bind fun i => (stripeOf s i).map fun x => (i, x) with
    | none => formStripe s stream
    | some (i, x) =>
      if s.dns.active.any (fun a => a.1 == i) then s
      else if stridesPerEu (denseGeom s) ≤ x.rows ∨ !x.missing.isEmpty then
        if x.missing.isEmpty ∨ 10 ≤ (denseUp s).length then
          let s := setStripe s i { x with closed := some s.dns.closeCount }
          formStripe { s with dns := { s.dns with closeCount := s.dns.closeCount + 1, opens := alErase s.dns.opens stream } } stream
        else s
      else if x.members.any (fun m => (dTrayOf s m.1).halted) then s
      else
        let row := l.take 8
        let s := { s with dns := { s.dns with rows := alSet s.dns.rows stream (l.drop 8 ++ rest),
                                              active := s.dns.active ++ [(i, x.rows, 0, row)] } }
        (List.zip (List.range 8) row).foldl (fun s (p : Nat × RowEnt) =>
          match x.members[p.1]? with
          | some (t, e) => programStride s i x.rows p.1 t e p.2
          | none => s) s

/-- Whether a unit is being rewritten: gathered, or waiting in a stream or a row (R286). -/
def unitMoving (s : State) (unit : Nat) : Bool :=
  s.dns.jobs.any (fun (p : Nat × Media) =>
    match p.2 with
    | .gather u _ _ _ _ _ _ _ => u == unit
    | _ => false) ||
    s.dns.rows.any (fun (p : Nat × List RowEnt) => p.2.any fun e => e.unit == some unit && e.kind == 0) ||
    s.dns.active.any fun a => a.2.2.2.any fun e => e.unit == some unit && e.kind == 0

/-- What is on its way to the media for a unit is not to be mapped any more: the unit was discarded (R284). What waited for it goes on. -/
def voidWrites (s : State) (unit : Nat) : State :=
  let mine := fun (e : RowEnt) => e.unit == some unit && e.kind == 0
  let void := fun (e : RowEnt) => if mine e then { e with unit := none, kind := 5, reloc := none } else e
  let freed := (s.dns.rows.flatMap fun (p : Nat × List RowEnt) => (p.2.filter mine).flatMap RowEnt.lines) ++
    s.dns.jobs.flatMap fun (p : Nat × Media) =>
      match p.2 with
      | .gather u _ _ _ _ _ _ lines => if u = unit then lines else []
      | _ => []
  let rows := s.dns.rows.map fun (p : Nat × List RowEnt) => (p.1, p.2.filter fun e => !mine e)
  let active := s.dns.active.map fun a => (a.1, a.2.1, a.2.2.1, a.2.2.2.map void)
  let jobs := s.dns.jobs.filterMap fun (p : Nat × Media) =>
    match p.2 with
    | .gather u _ _ _ _ _ _ _ => if u = unit then none else some p
    | .program st sd m t e page loads ph tag ent => some (p.1, Media.program st sd m t e page loads ph tag (void ent))
    | _ => some p
  releaseWaits { s with dns := { s.dns with rows, active, jobs } } freed

/-- A unit's new place is committed (R283); a relocation whose unit was written, discarded or lost meanwhile is abandoned (R286); so is a
write that a later one has overtaken. -/
def commitStride (s : State) (tray eu stride : Nat) (e : RowEnt) : State :=
  let s := bump s Reg.dnsMediaWrLo 65536
  match e.unit with
  | some u =>
    if e.kind ≠ 0 then s
    else
      let m : MapEnt := mapOf s u
      let stale : Bool :=
        match e.reloc with
        | some ser => m.serial != ser || (m.st != MapSt.dense && m.st != MapSt.landed)
        | none => decide (e.serial < m.serial)
      if stale then linesWritten s e.lines
      else
        let s := setMap s u { st := MapSt.dense, temp := e.temp, tray, eu, stride, serial := e.serial }
        let s := if e.reloc.isNone ∨ m.st = MapSt.landed then bump s Reg.dnsHostWrLo 65536 else s
        linesWritten s e.lines
  | none => s

/-- The row's entries in their places, zeros for what was retired. -/
def rowParity (row : List RowEnt) : List Byte × List Byte :=
  let d := row.map RowEnt.data
  (d.foldl (fun acc x => List.zipWith (fun (a b : Byte) => a ^^^ b) acc x) (List.replicate 65536 0), Config.parityQ d)

/-- A stride of an active row is done: P and Q follow the eight data strides; the row ends with them (R282, R283). -/
def strideDone (s : State) (stripe stride : Nat) : State :=
  match s.dns.active.find? fun a => a.1 == stripe && a.2.1 == stride, stripeOf s stripe with
  | some (_, _, n, row), some x =>
    let act := fun k => s.dns.active.map fun (a : Nat × Nat × Nat × List RowEnt) =>
      if a.1 = stripe ∧ a.2.1 = stride then (a.1, a.2.1, k, a.2.2.2) else a
    let s := { s with dns := { s.dns with active := act (n + 1) } }
    if n + 1 = 8 then
      let pq := rowParity row
      [(8, pq.1, 1), (9, pq.2, 2)].foldl (fun s (p : Nat × List Byte × Nat) =>
        match x.members[p.1]? with
        | some (t, e) => programStride s stripe stride p.1 t e { unit := none, data := p.2.1, serial := 0, temp := x.stream, kind := p.2.2 }
        | none => s) s |> saveMedia
    else if n + 1 = 10 then
      let s := setStripe s stripe { x with rows := x.rows + 1 }
      let s := { s with dns := { s.dns with active := s.dns.active.filter fun a => !(a.1 == stripe && a.2.1 == stride) } }
      saveMedia (releaseWaits s (row.flatMap RowEnt.lines))
    else saveMedia s
  | _, _ => s

/-- What an active row holds at a member is written elsewhere: its entry goes to the stream's next data stride, and the row
counts zeros there (R289). -/
def strideFailed (s : State) (stripe stride member : Nat) (e : RowEnt) : State :=
  let blank := { fillerEnt e.temp with kind := 5 }
  let f := fun (a : Nat × Nat × Nat × List RowEnt) =>
    if a.1 = stripe ∧ a.2.1 = stride then (a.1, a.2.1, a.2.2.1, a.2.2.2.set member blank) else a
  let s := { s with dns := { s.dns with active := s.dns.active.map f } }
  let s :=
    if member < 8 ∧ (e.kind = 0 ∨ e.kind = 3) then
      { s with dns := { s.dns with rows := alMod s.dns.rows (((stripeOf s stripe).map Stripe.stream).getD 0) [] fun l => e :: l } }
    else s
  strideDone s stripe stride

/-! ### Missing members (R294 to R296) -/

/-- Whether a stripe member no longer serves: its tray has left service, its die failed, its erase unit is retired. -/
def memberGone (s : State) (m : Nat × Nat) : Bool :=
  let t := dTrayOf s m.1
  t.st != 1 || t.dies.contains (Config.dieOf m.1 m.2) || (euOf s m.1 m.2).st == 3

/-- The stripes' missing members brought up to date: a second one raises STRIPE_DOUBLE, a third loses the units of the missing
data members that are not rebuilt (R294, R295). -/
def updateMissing (s : State) : State :=
  s.dns.stripes.foldl (fun s (p : Nat × Stripe) =>
    let x := p.2
    let gone := (List.range 10).filter fun m => !x.missing.contains m && (x.members[m]?).any (memberGone s)
    if gone.isEmpty then s
    else
      let missing := x.missing ++ gone
      let s := setStripe s p.1 { x with missing }
      let s := if x.missing.length < 2 ∧ 2 ≤ missing.length then raise s Reg.dnsEventStatus 5 2 p.1 [] else s
      if 2 < missing.length then
        (List.range x.rows).foldl (fun s stride =>
          sectorsLost s p.1 stride (missing.filter fun m => m < 8 && (memberPlace s { x with missing } m stride).isNone)) s
      else s) s

/-- Usable dense-tier space (R278). -/
def denseUsable (s : State) : Nat :=
  min (2 ^ 51) (allStripes s * 8 * (stridesPerEu (denseGeom s) - 1) * 65536 * (64 - coatFld s Reg.dnsCfg 0 9 6) / 64)

/-- Whether some missing member has no eligible tray: the rebuild waits (R296). -/
def rebuildStuck (s : State) : Bool :=
  (denseUp s).length < 11 &&
    s.dns.stripes.any fun (p : Nat × Stripe) => !p.2.missing.isEmpty && (denseUp s).all fun t => p.2.members.any fun m => m.1 == t

/-- The dense tier's conditions and the events their onset raises (R278, R296). -/
def denseConditions (s : State) : State :=
  if s.dns.trays.isEmpty then s
  else
    let short := denseUsable s < sumBy ((wins s).filter fun w => w.policy == 2 || w.policy == 3) Win.size
    let none_ := (denseUp s).length < 10
    let stuck := rebuildStuck s
    let s := if short ∧ !s.dns.short then raise s Reg.dnsEventStatus 9 2 noUnit [] else s
    let s := if none_ ∧ !s.dns.noStripes then raise s Reg.dnsEventStatus 9 2 noUnit [] else s
    let s := if stuck ∧ !s.dns.blocked then raise s Reg.dnsEventStatus 10 2 noUnit [] else s
    { s with dns := { s.dns with short, noStripes := none_, blocked := stuck } }

/-- An erase unit retired (R288, R560): logged with tray and erase unit; usable space shrinks (R278). -/
def retireEu (s : State) (tray eu : Nat) : State :=
  if (euOf s tray eu).st = 3 then s
  else denseConditions (raise (setEu s tray eu fun u => { u with st := 3 }) Reg.dnsEventStatus 4 2 tray (det 1 tray ++ det 3 eu))

/-- A rebuild's last stride is written: the target takes the member's place; REBUILD_DONE when no stripe is degraded (R294). -/
def rebuildMemberDone (s : State) (stripe : Nat) : State :=
  match stripeOf s stripe with
  | some x =>
    match x.rebuild with
    | some (m, tray, eu, _) =>
      let old := (x.members[m]?).getD (0, 0)
      let s := setStripe s stripe { x with members := x.members.set m (tray, eu), missing := without x.missing m, rebuild := none }
      let map := s.dns.map.map fun (e : Nat × MapEnt) =>
        if e.2.st = .dense ∧ e.2.tray = old.1 ∧ e.2.eu = old.2 then (e.1, { e.2 with tray, eu }) else e
      let s := { s with dns := { s.dns with map } }
      let s := if s.dns.stripes.all fun (p : Nat × Stripe) => p.2.missing.isEmpty then raise s Reg.dnsEventStatus 6 5 noUnit [] else s
      saveMedia s
    | none => s
  | none => s

/-! ### Root records (R301) -/

/-- The number that stands for no stripe in a program of a root unit. -/
def rootStripe : Nat := 2 ^ 32

/-- A root record goes to a tray's root units: strides 1 upwards of erase unit 0, then of erase unit 1, and so on; a unit is erased before its
first record. The order is a DESIGN CHOICE, log entry 174. -/
def rootWrite (s : State) (tray : Nat) : State :=
  let g := denseGeom s
  let n := stridesPerEu g - 1
  let k := (dTrayOf s tray).roots
  if n = 0 then s
  else
    let eu := k / n % 2
    let s := setDTray s tray fun t => { t with roots := t.roots + 1 }
    let s := if k % n = 0 then eraseEu s tray eu else s
    newJob s (.program rootStripe (k % n + 1) 9 tray eu ((k % n + 1) * pagesPerStride g) 0 0 0
      { unit := none, data := padTo (Config.rootRecord s.dns.writeSerial) 65536 0, serial := 0, temp := 0, kind := 3 })

/-- Once a checkpoint is programmed, the root records that name it go to three trays (R301). -/
def writeRoots (s : State) : State :=
  let ofCheckpoint := fun (e : RowEnt) => e.kind == 3 && e.unit.isNone
  if s.dns.rootDue = false ∨ (alGetD s.dns.rows 4 []).any ofCheckpoint ∨ s.dns.active.any (fun a => a.2.2.2.any ofCheckpoint) then s
  else (((denseUp s).filter fun t => !(dTrayOf s t).halted).take 3).foldl rootWrite { s with dns := { s.dns with rootDue := false } }

end Sys2Proof.Machine
end

