-- ==== Sys2Proof/Machine/DenseFlow.lean ====
section
/-! DEFINITION. The dense tier at work (spec/09): what a bridge's completions, BR_DONE and failures do to media jobs, and what the
home then starts. -/

namespace Sys2Proof.Machine

open Sys2Proof

/-! ### Sector jobs -/

/-- RETRY_STEPS for a read: the value it began under (R303). -/
def retrySteps (s : State) (j : Nat) : Nat := alGetD s.dns.oldRetries j (coatFld s Reg.dnsCfg 0 0 4)

/-- A sense of a frame gave nothing good: the next sense is due, or, when RETRY_STEPS or REF_STEPS is reached, the place is given up (R291). -/
def sectorNext (s : State) (j tray eu stride sector tries : Nat) (why : ReadFor) : State :=
  let k := (tries + 2) / 2
  if tries < retrySteps s j ∧ k ≤ (dTrayOf s tray).refSteps then setJob s j (.sector tray eu stride sector (tries + 1) 0 0 [] why)
  else
    let s := dropJob s j
    if why = .primer then
      if sector < 15 then newJob s (.sector tray eu stride (sector + 1) 0 0 0 [] .primer) else primerRead s tray eu none
    else sectorUnread s tray eu stride sector why

/-- A frame that was fetched is not good; its page goes to the next frame. -/
def sectorBad (s : State) (j tray eu stride sector tries : Nat) (why : ReadFor) : State :=
  pageFree (sectorNext s j tray eu stride sector tries why) (jobClass s j) tray eu (sectorPlace (denseGeom s) stride sector).1 tries

/-- A sense that failed is no good to any frame that waited for it. -/
def senseFailed (s : State) (j tray eu stride sector tries : Nat) (why : ReadFor) : State :=
  let page := (sectorPlace (denseGeom s) stride sector).1
  let rec others (fuel : Nat) (s : State) : State :=
    match fuel, pageNext s tray eu page tries with
    | n + 1, some (i, st, k, w) => others n (sectorNext s i tray eu st k tries w)
    | _, _ => s
  sectorBad (others s.dns.jobs.length s) j tray eu stride sector tries why

/-- A frame was fetched whole: it is judged (R276, R290, R292). -/
def sectorFetched (s : State) (j tray eu stride sector tries : Nat) (raw : List Byte) (why : ReadFor) : State :=
  let pl := sectorPlace (denseGeom s) stride sector
  match judgeFrame raw pl.1 pl.2 (if why = .primer then none else some (euOf s tray eu).serial) with
  | .good data poison strength =>
    let s := pageFree (dropJob s j) (jobClass s j) tray eu pl.1 tries
    if why = .primer then primerRead s tray eu (some data)
    else
      let s := if 0 < tries ∨ coatFld s Reg.dnsGcCfg 0 22 6 < strength then dueRefresh s (unitAt s tray eu stride) else s
      deliverSector s tray eu stride sector data poison why
  | .missing => sectorBad (bump s Reg.dnsSyncErrLo 1) j tray eu stride sector tries why
  | .wrongPlace => sectorBad (dueRefresh (bump s Reg.dnsSyncErrLo 1) (unitAt s tray eu stride)) j tray eu stride sector tries why
  | .bad => sectorBad s j tray eu stride sector tries why

/-! ### Loads, programs, erases -/

/-- The bytes that a program or erase job loads into its page. -/
def jobPage (s : State) (m : Media) : List Byte :=
  match m with
  | .program _ _ _ t e page _ _ _ ent => pageBytes s t e page ent
  | .erase t e page _ _ _ =>
    let u := euOf s t e
    pageBytes s t e page { unit := none, data := (List.range 16).flatMap fun _ => primerBytes s t e u.serial u.count, serial := 0, temp := 0, kind := 4 }
  | _ => []

/-- The next BR_LOAD of a job, or its BR_PROGRAM once the page is loaded; R274 holds back programs of a tray that loses power. -/
def loadOrProgram (s : State) (j tray eu page loads : Nat) (bytes : List Byte) (mk : Nat → Nat → Media) : State :=
  if 4096 * loads < bytes.length then
    if (outWith s (.brLoad tray j)).isSome then s
    else brRequest s tray Op.brLoad eu page (4096 * loads) (slice bytes (4096 * loads) 4096) (.brLoad tray j)
  else if (dTrayOf s tray).halted then s
  else
    let s := brRequest s tray Op.brProgram eu page 0 [] (.brProgram tray j)
    setJob s j (mk 2 (tagOf s (.brProgram tray j)))

/-- Program and erase jobs go on with their loads; nothing is programmed into an erase unit that is being erased. -/
def kickLoads (s : State) : State :=
  s.dns.jobs.foldl (fun s (p : Nat × Media) =>
    match p.2 with
    | .program st sd m t e page loads 0 _ ent =>
      if s.dns.jobs.any (fun (q : Nat × Media) => match q.2 with | .erase t' e' _ _ _ _ => t' == t && e' == e | _ => false) then s
      else if slotRetired s t e sd then strideFailed (dropJob s p.1) st sd m ent
      else loadOrProgram s p.1 t e page loads (jobPage s p.2) fun ph tag => .program st sd m t e page loads ph tag ent
    | .erase t e page loads 1 _ => loadOrProgram s p.1 t e page loads (jobPage s p.2) fun ph tag => .erase t e page loads ph tag
    | _ => s) s

/-- A stride of a rebuilt member is written. -/
def rebuildStrideDone (s : State) (stripe : Nat) : State :=
  match stripeOf s stripe with
  | some x =>
    match x.rebuild with
    | some (m, t, e, done) =>
      let s := setStripe s stripe { x with rebuild := some (m, t, e, done + 1) }
      if x.rows ≤ done + 1 then rebuildMemberDone s stripe else s
    | none => s
  | none => s

/-- Whether a program job writes a rebuild's target. -/
def isRebuild (s : State) (stripe tray eu : Nat) : Bool :=
  ((stripeOf s stripe).bind Stripe.rebuild).any fun (r : Nat × Nat × Nat × Nat) => r.2.1 == tray && r.2.2.1 == eu

/-- A media command ended with RESULT 0 or 1 (R269, R288, R289, R299). -/
def mediaEnded (s : State) (j : Nat) (m : Media) (fail : Bool) : State :=
  match m with
  | .sector t e sd k tries 1 _ _ why =>
    if fail then senseFailed s j t e sd k tries why else fetchFrame s j t e sd k tries why
  | .program st sd mem t e page _ 2 _ ent =>
    if fail then
      let s := retireEu (dropJob s j) t e
      if isRebuild s st t e then
        match stripeOf s st with
        | some x => setStripe s st { x with rebuild := none }
        | none => s
      else updateMissing (strideFailed s st sd mem ent)
    else if (page + 1) % pagesPerStride (denseGeom s) ≠ 0 then setJob s j (.program st sd mem t e (page + 1) 0 0 0 ent)
    else if st = rootStripe then saveMedia (dropJob s j)
    else if isRebuild s st t e then rebuildStrideDone (bump (dropJob s j) Reg.dnsMediaWrLo 65536) st
    else strideDone (commitStride (dropJob s j) t e sd ent) st sd
  | .erase t e page _ ph _ =>
    if fail then erased (retireEu (dropJob s j) t e) t e
    else if ph = 0 then
      let s := setEu s t e fun u => { u with count := u.count + 1, erased := now s }
      if (dTrayOf s t).endurance ≤ (euOf s t e).count then erased (retireEu (dropJob s j) t e) t e
      else setJob s j (.erase t e 0 0 1 0)
    else if page + 1 < pagesPerStride (denseGeom s) then setJob s j (.erase t e (page + 1) 0 1 0)
    else saveMedia (erased (setEu (dropJob s j) t e fun u => { u with st := 1 }) t e)
  | _ => s

/-- The job and tray of a media command that waits for its BR_DONE: by tray, opcode and tag (R269). -/
def mediaJob (s : State) (tray opcode tag : Nat) : Option (Nat × Media) :=
  s.dns.jobs.find? fun (p : Nat × Media) =>
    match p.2 with
    | .sector t _ _ _ _ ph g _ _ => t == tray && opcode == Op.brSense && ph == 1 && g == tag
    | .program _ _ _ t _ _ _ ph g _ => t == tray && opcode == Op.brProgram && ph == 2 && g == tag
    | .erase t _ _ _ ph g => t == tray && g == tag && ((opcode == Op.brErase && ph == 0) || (opcode == Op.brProgram && ph == 2))
    | _ => false

/-- A BR_PROGRAM answered ERASE_STATE: the page slot is retired and logged, the fourth one retires the erase unit (R288, R289). -/
def programRefused (s : State) (j : Nat) : State :=
  match jobOf s j with
  | some (.program st sd mem t e page _ _ _ ent) =>
    let s := setEu (bump (dropJob s j) Reg.dnsEraseStateLo 1) t e fun u => { u with slots := addOnce u.slots sd }
    let s := raise s Reg.dnsEventStatus 3 1 t (det 1 t ++ det 3 e ++ det 2 page)
    let s := if 4 ≤ (euOf s t e).slots.length then updateMissing (retireEu s t e) else s
    if isRebuild s st t e then rebuildStrideDone s st else strideFailed s st sd mem ent
  | some (.erase t e page _ _ _) =>
    let s := bump (dropJob s j) Reg.dnsEraseStateLo 1
    erased (retireEu (raise s Reg.dnsEventStatus 3 1 t (det 1 t ++ det 3 e ++ det 2 page)) t e) t e
  | _ => s

/-! ### Identification -/

/-- What R271 asks of a BR_IDENT completion. -/
def identOk (b : List Byte) : Bool :=
  let euCount := beAt b 0 4
  let pages := beAt b 4 2
  let kind := beAt b 6 1
  let raw := beAt b 8 4
  let mib := pages * (if kind = 1 then 64 else 16) / 1024
  b.length == 32 && 0 < euCount && euCount ≤ 4194304 && kind ≤ 1 && (List.range 16).any (fun i => pages == 2 ^ i) && 32 ≤ mib &&
    mib ≤ 256 && beAt b 7 1 ≤ 15 && (if kind = 1 then 73984 else 18496) ≤ raw && raw ≤ 131072 && 1000 ≤ beAt b 12 4 &&
    64 ≤ beAt b 16 2 && 1024 ≤ beAt b 18 2 && beAt b 18 2 ≤ 16384

/-- A dense tray answered BR_IDENT: accepted, or refused where it breaks R271 or differs in geometry from the first (R266). A tray
that halted resumes, in its formatting too (R274, R300). What the media hold of its erase units is known from recovery (R302). -/
def trayIdentified (s : State) (tray : Nat) (b : List Byte) : State :=
  let g := denseGeom s
  let same := g.euCount == 0 || (g.pu64 == (beAt b 6 1 == 1) && g.pages == beAt b 4 2)
  if identOk b && same then
    let f := fun (t : DTray) =>
      { t with st := if t.st = 5 then 5 else 1, euCount := beAt b 0 4, pages := beAt b 4 2, pu64 := beAt b 6 1 == 1, refSteps := beAt b 7 1, rawPu := beAt b 8 4,
               endurance := beAt b 12 4, nbuf := beAt b 16 2, maxOut := beAt b 18 2, blankCheck := bit (beAt b 20 1) 0, halted := false }
    let s := setDTray s tray f
    let s := if (dTrayOf s tray).st = 5 then formatFrom s tray (dTrayOf s tray).formatAt else s
    denseConditions (((denseTrayEp s tray).map (sendWaiting s)).getD s)
  else raise (setDTray s tray fun t => { t with st := 3 }) Reg.dnsEventStatus 0 1 tray []

/-- BR_IDENT goes to every dense tray the coat lists that the home has not accepted (R302). -/
def identifyDense (s : State) : State :=
  (coat s).dense.trays.foldl (fun s t =>
    if (dTrayOf s t.index).st = 0 ∧ (outWith s (.brIdent t.index)).isNone then
      brRequest (setDTray s t.index fun x => x) t.index Op.brIdent 0 0 0 [] (.brIdent t.index)
    else s) s

/-! ### What the home starts next -/

/-- Gatherings, reconstructions and rebuilds whose parts are there go on. -/
def finishJobs (s : State) : State :=
  s.dns.jobs.foldl (fun s (p : Nat × Media) =>
    match jobOf s p.1 with
    | some (.recon st m sd k want parts lost why) =>
      if want.isEmpty ∨ 8 ≤ parts.length then reconEnded s p.1 st m sd k parts lost why else s
    | some (.gather u temp land reloc [] parts ovr lines) =>
      if land && parts.isEmpty then
        if s.pool.outs.any (fun o =>
          match o.purpose with
          | .landWrite j _ _ => j == p.1
          | _ => false) then s
        else releaseWaits (linesWritten (dropJob s p.1) lines) lines
      else if land && (freeLanding s).isSome then
        let s := gatherDone s p.1 u temp land reloc parts ovr lines
        setJob s p.1 (.gather u temp land reloc [] [] [] lines)
      else
        let s := if land then bump s Reg.poolCapSpillLo 1 else s
        gatherDone s p.1 u temp false reloc parts ovr lines
    | some (.rebuild st m sd [] parts) =>
      match (stripeOf s st).map fun x => (x.members[m]?, x.rebuild) with
      | some (some old, some (_, t, e, _)) =>
        let bytes := (List.range 16).flatMap fun k => padTo (alGetD parts k []) 4096 0
        let u := unitAt s old.1 old.2 sd
        let ser := (u.map fun x => (mapOf s x).serial).getD 0
        let kind := if m = 8 then 1 else if m = 9 then 2 else if u.isSome then 0 else if ((stripeOf s st).any fun x => x.stream == 4) then 3 else 5
        let poison := u.toList.flatMap fun x => (s.coh.poison.filter fun l => unitOfLine l == x).map fun l => l % 512
        programStride (dropJob s p.1) st sd m t e { unit := u, data := bytes, poison, serial := ser, kind,
                                                    temp := (u.map fun x => (mapOf s x).temp).getD 0 }
      | _ => dropJob s p.1
    | _ => s) s

/-- Whether the dense tier has nothing to do. -/
def denseIdle (s : State) : Bool := s.dns.jobs.isEmpty && !s.dns.rootDue && s.dns.rows.all fun (p : Nat × List RowEnt) => p.2.isEmpty

/-- One round of what the dense tier starts. -/
def denseRound (s : State) : State :=
  let s := finishJobs s
  let s := writeRoots ((List.range 5).foldl startRow s)
  kickLoads (startSectors s)

/-- The dense tier goes on as far as it can without an answer from its trays. -/
def densePump (fuel : Nat) (s : State) : State :=
  match fuel with
  | 0 => s
  | n + 1 => if denseIdle s then s else densePump n (denseRound s)

/-- A dense tray left service (R187, R294): its jobs end where they are, its members are missing. -/
def denseTrayDown (s : State) (tray st : Nat) : State :=
  let s := setDTray s tray fun t => { t with st }
  let s := { s with pool := { s.pool with outs := s.pool.outs.filter fun o => some o.target != denseTrayEp s tray } }
  let s := s.dns.jobs.foldl (fun s (p : Nat × Media) =>
    match p.2 with
    | .sector t e sd k _ _ _ _ why => if t = tray then sectorUnread (dropJob s p.1) t e sd k why else s
    | .program st sd m t e _ _ _ _ ent =>
      if t = tray then
        (if isRebuild s st t e then
          match stripeOf s st with
          | some x => setStripe (dropJob s p.1) st { x with rebuild := none }
          | none => dropJob s p.1
        else strideFailed (dropJob s p.1) st sd m ent)
      else s
    | .erase t _ _ _ _ _ => if t = tray then dropJob s p.1 else s
    | _ => s) s
  denseConditions (updateMissing s)

end Sys2Proof.Machine
end

