-- ==== Sys2Proof/Machine/LineOps.lean ====
section
/-! DEFINITION. Transactions on lines (spec/06 R168, R173, R183 to R190, spec/07 R215 to R230, spec/08 R249 to R252): eviction and
write-back, fills, mirroring, the snoops a request sends, when a transaction may start, its execution, its end. -/

namespace Sys2Proof.Machine

open Sys2Proof

/-! ### The size of the cache (R166, R167, R514) -/

/-- Pseudo-channels that are out of service: retired (R583), or of a sheeted stack (R547). -/
def pcsOut (s : State) : Nat :=
  countBy s.ras.pcs (fun p => p.2.st != 0 && inService s 6 (p.1 / 64)) +
    64 * countBy s.cfg.units fun (u : (Nat × Nat) × UnitSt) => u.1.1 == 6 && u.2.st != 0

/-- The pinned pool in MiB (R166). -/
def pinnedMib (s : State) : Nat := sumBy ((wins s).filter fun w => w.policy == 0) Win.size / 1048576

/-- The associative cache in MiB: what the other regions, and in twin mode the shadows, leave (R166, R167, R514). -/
def cacheMib (s : State) : Nat :=
  let cfg := coatReg s Reg.poolHbmCfg 0
  let sf := if bit cfg 16 then 192 else 0
  let shadow := if s.scr.role = 0 then 0 else sf + 1024 * coatFld s Reg.scrCfg 0 2 7 + pinnedMib s
  (512 - pcsOut s) * 704 - sf - 1024 * fld cfg 0 7 - 1024 * fld cfg 7 9 - pinnedMib s - shadow

/-- Sets of the cache: one for every 2 KiB (R168). -/
def cacheSets (s : State) : Nat := cacheMib s * 512

/-- The set of a line (R168). -/
def setOf (s : State) (line : Nat) : Nat := Config.cacheSet ((wins s).map fun w => (w.base, w.size)) (cacheSets s) line

/-- The cached lines of a line's set; one that has been evicted and stays only until its row is programmed (R283) holds no way. -/
def setMates (s : State) (line : Nat) : List (Nat × CLine) :=
  if s.pool.cache.length < 16 then []
  else
    let k := setOf s line
    s.pool.cache.filter fun c => !c.2.leaving && setOf s c.1 == k

/-! ### Write-backs (R168, R171, R173, R281, R298) -/

/-- The lines of a LOST unit that nothing has written become poisoned when the unit is written again (R298). -/
def poisonRest (s : State) (unit : Nat) : State :=
  ((List.range 512).filter fun i => !inHbm s (512 * unit + i)).foldl (fun s i => poisonLine s (512 * unit + i)) s

/-- A unit's new lines go to the dense tier, or from it to the landing area; they stay in the cache until they are programmed
(R281, R283). -/
def gatherBack (s : State) (line cls : Nat) (land evict : Bool) : State :=
  let unit := unitOfLine line
  let lines := unitNewLines s unit
  let s := stageLines (gatherUnit s unit 0 cls land none lines) lines
  if evict then { s with pool := { s.pool with cache := alMod s.pool.cache line {} fun c => { c with leaving := true } } } else s

/-- Whether a line's place in the capacity tier, if it has one, is on trays that have been identified, and the dense tier, if it lies
there, has recovered (R586). -/
def placeKnown (s : State) (line : Nat) : Bool :=
  match winOfLine s line with
  | none => true
  | some w =>
    if w.policy = 1 then copiesKnown s (unitOfLine line)
    else if w.policy = 0 then true
    else s.dns.st == 2 && ((mapOf s (unitOfLine line)).st != .landed || copiesKnown s (unitOfLine line))

/-- Whether a dirty line's write-back cannot begin: its key is not usable, its tier is not ready (R588), or no window covers it any more
(R542). -/
def stuckDirty (s : State) (c : Nat × CLine) : Bool :=
  c.2.dirty && !((winOfLine s c.1).any (keyUsable s) && placeKnown s c.1)

/-- Whether no line of a full set can leave for another (R588). -/
def noRoom (s : State) (line : Nat) : Bool :=
  if inHbm s line then false
  else let l := setMates s line; 16 ≤ l.length && l.all (stuckDirty s)

/-- A dirty line is written to its backing tier (R168). -/
def writeBack (s : State) (line cls : Nat) (evict : Bool) : State :=
  let unit := unitOfLine line
  match winOfLine s line with
  | none => dropLine s line
  | some w =>
    if w.policy = 1 then capWriteBack s line false unit cls evict
    else
      let e := mapOf s unit
      let landNew := fun (s : State) =>
        match freeLanding s with
        | some slot =>
          let s := setZeros (setMap s unit { st := .landed, slot, serial := s.dns.writeSerial + 1 }) (512 * unit, 512)
          capWriteBack { s with dns := { s.dns with writeSerial := s.dns.writeSerial + 1 } } line true slot cls evict
        | none => gatherBack (bump s Reg.poolCapSpillLo 1) line cls false evict
      match e.st with
      | .landed =>
        let s := setMap s unit { e with serial := s.dns.writeSerial + 1 }
        capWriteBack { s with dns := { s.dns with writeSerial := s.dns.writeSerial + 1 } } line true e.slot cls evict
      | .zero => if w.policy = 2 then landNew s else gatherBack s line cls false evict
      | .lost => gatherBack (poisonRest s unit) line cls false evict
      | .dense => gatherBack s line cls (w.policy == 2) evict

/-- A line that some transaction is on. -/
def lineInUse (s : State) (line : Nat) : Bool :=
  s.pool.txs.any fun t => (t.stage != .waiting) && (t.reads ++ t.writes).any fun g => inRange g line

/-- The cached line that was used longest ago (R168 gives pseudo-LRU; the model takes the true order of use). -/
def oldest (l : List (Nat × CLine)) : Option (Nat × CLine) :=
  l.foldl (fun (b : Option (Nat × CLine)) c =>
    match b with
    | none => some c
    | some x => if c.2.age < x.2.age then some c else some x) none

/-- A line's data is handed to the transactions that use it before it leaves the cache. -/
def keepData (s : State) (line : Nat) : State :=
  let f := fun (t : Tx) => if (t.reads ++ t.writes).any fun g => inRange g line then { t with got := alSet t.got line (hbmLine s line) } else t
  if lineInUse s line then { s with pool := { s.pool with txs := s.pool.txs.map f } } else s

/-- A cached line leaves its set: dirty by a write-back, staged once its row is programmed, clean at once (R168, R283). -/
def evictLine (s : State) (c : Nat × CLine) (cls : Nat) : State :=
  let s := keepData s c.1
  if c.2.dirty then writeBack s c.1 cls true
  else if c.2.staged then { s with pool := { s.pool with cache := alSet s.pool.cache c.1 { c.2 with leaving := true } } }
  else dropLine s c.1

/-- Whether a line holds a way of its set, or is pinned. -/
def hasWay (s : State) (line : Nat) : Bool := isPinned s line || (cacheGet s line).any fun c => !c.leaving

/-- Room for a line in its set: of the lines not in use the one longest unused leaves, else of those in use. A line whose write-back cannot
begin never does (R588). -/
def makeRoom (s : State) (line cls : Nat) : State :=
  if hasWay s line then s
  else
    let l := setMates s line
    if l.length < 16 then s
    else
      let ok := l.filter fun c => !stuckDirty s c
      match (oldest (ok.filter fun c => !lineInUse s c.1)).orElse fun _ => oldest ok with
      | none => s
      | some c => evictLine s c cls

/-! ### Mirroring (R188 to R190) -/

/-- The mirror state of a window; a primary starts PAIRED. -/
def mirSt (s : State) (w : Win) : MirSt :=
  if w.mirror && !w.secondary then (if (winSt s w.id).mirror = .none then .paired else (winSt s w.id).mirror) else .none

/-- A primary enters SINGLE (R189). -/
def enterSingle (s : State) (w : Win) : State :=
  if mirSt s w = .single then s
  else raise (setWin s w.id fun x => { x with mirror := .single }) Reg.poolEventStatus 1 2 w.id []

/-- A unit of a primary marked for resynchronisation (R189). -/
def markUnits (s : State) (w : Win) (g : Nat × Nat) : State :=
  let a := unitOfLine g.1
  let n := if g.2 = 0 then 0 else unitOfLine (g.1 + g.2 - 1) - a + 1
  setWin s w.id fun x => { x with marked := (List.range n).foldl (fun l i => addOnce l (a + i)) x.marked }

/-- A write, discard or flush of a primary goes to the partner, or in SINGLE marks the units it wrote (R189). -/
def mirrorOut (s : State) (id cls opcode addr : Nat) (payload : List Byte) (g : Nat × Nat) : State :=
  match winOfLine s (addr / 128) with
  | none => s
  | some w =>
    match mirSt s w with
    | .none => s
    | .single =>
      let s := setTx s id fun t => { t with degraded := true }
      if opcode = Op.mirrorFlush then s else markUnits s w g
    | _ => request s w.partner opcode cls w.key 0 (w.mbase + (addr - w.base)) payload (.mirrorOp id w.id)

/-- A line's new data goes to the partner (R218). -/
def mirrorLine (s : State) (id cls line : Nat) : State :=
  mirrorOut s id cls Op.mirrorWrite (128 * line) (hbmLine s line) (line, 1)

/-- The mirror requests a transaction waits for. -/
def mirrorsOut (s : State) (id : Nat) : Bool :=
  s.pool.outs.any fun o =>
    match o.purpose with
    | .mirrorOp t _ => t == id
    | .mirrorRead t _ => t == id
    | .resyncWrite t _ => t == id
    | .copyRead t _ _ => t == id
    | .copyWrite t _ _ => t == id
    | _ => false

/-! ### Writing -/

/-- CLASS of a transaction's traffic: that of its request, 0 for background work (R657). -/
def txCls (t : Tx) : Nat :=
  match t.work with
  | .req _ m => m.cls.toNat
  | _ => 0

/-- A line's present bytes for a transaction: HBM, else what it has gathered. -/
def lineData (s : State) (t : Tx) (line : Nat) : List Byte :=
  if inHbm s line then hbmLine s line else alGetD t.got line (List.replicate 128 0)

/-- A transaction writes a line whole: room is made, the line becomes dirty and its poison clears (R168, R235). -/
def txWrite (s : State) (t : Tx) (line : Nat) (bs : List Byte) : State := writeLine (makeRoom s line (txCls t)) line bs

/-- A line read from its tier enters the cache, unless NO_ALLOC is set (R168). -/
def txAlloc (s : State) (t : Tx) (line : Nat) : State :=
  let noAlloc :=
    match t.work with
    | .req _ m => m.flags.toNat.testBit flagNoAlloc
    | _ => false
  if inHbm s line then touchLine s line fun c => c
  else if noAlloc then s
  else
    match alGet t.got line with
    | some b => cacheLine (makeRoom s line (txCls t)) line b
    | none => s

/-- A DMA write of bytes within one line: owners have been recalled; Shared and Forwarder records become STALE (R226, R228); a
sealed line is encrypted (R489); a primary's partner gets the line (R218). -/
def dmaWrite (s : State) (t : Tx) (a : Nat) (bs : List Byte) : State :=
  let line := a / 128
  let old := openSeal s line (lineData s t line)
  let s := txWrite s t line (closeSeal s line (mergeAt old (a % 128) bs))
  let s := (recsOf s line).foldl (fun s r =>
    if r.it.state = 1 ∨ r.it.state = 2 then putRec s r.slot r.set r.way (some { r.it with stale := true }) else s) s
  mirrorLine s t.id (txCls t) line

/-- A DMA write of bytes anywhere, line by line (R246). -/
def dmaWrites (s : State) (t : Tx) (a : Nat) (bs : List Byte) : State :=
  (rangeLines (lineRange a bs.length)).foldl (fun s l =>
    let lo := max a (128 * l)
    let hi := min (a + bs.length) (128 * (l + 1))
    dmaWrite s t lo (slice bs (lo - a) (hi - lo))) s

/-- Bytes that a DMA read sees: lines of the transaction, sealed ones decrypted (R489). -/
def dmaRead (s : State) (t : Tx) (a n : Nat) : List Byte :=
  let r := lineRange a n
  slice ((rangeLines r).flatMap fun l => openSeal s l (padTo (lineData s t l) 128 0)) (a - 128 * r.1) n

/-! ### What a transaction reads, writes and snoops -/

/-- Lines that a byte range covers only in part. -/
def partLines (a n : Nat) : Ranges :=
  if n = 0 then []
  else
    let first := if a % 128 = 0 ∧ (a + n) / 128 ≠ a / 128 then [] else if a % 128 = 0 ∧ n = 128 then [] else [(a / 128, 1)]
    let last := if (a + n) % 128 = 0 ∨ (a + n - 1) / 128 = a / 128 then [] else [((a + n - 1) / 128, 1)]
    first ++ last

/-- The lines a request needs the data of, and the lines it touches otherwise. -/
def reqRanges (op : Nat) (m : Msg) : Ranges × Ranges :=
  let a := m.address.toNat
  if op = Op.read ∨ op = Op.mirrorRead then ([lineRange a (readSize m)], [])
  else if op = Op.write ∨ op = Op.mirrorWrite then (partLines a m.body.length, [lineRange a m.body.length])
  else if op = Op.writeMasked ∨ op = Op.mirrorMasked then (if fullMask (m.body.take 16) then [] else [(a / 128, 1)], [(a / 128, 1)])
  else if op = Op.flush ∨ op = Op.discard ∨ op = Op.mirrorFlush ∨ op = Op.mirrorDiscard then ([], [lineRange a (byteCount m)])
  else if op = Op.atomic ∨ isFill op then ([(a / 128, 1)], [(a / 128, 1)])
  else if op = Op.upgrade ∨ op = Op.wbDirty then ([], [(a / 128, 1)])
  else if op = Op.evictClean then ([], (evictItems m).map fun i => (i / 128, 1))
  else ([], [])

/-- Whether a request carries ACQ, or VOL without ACQ (R249). -/
def isAcq (m : Msg) : Bool := m.flags.toNat.testBit flagAcq

/-- Whether a request is a volatile read. -/
def isVol (m : Msg) : Bool := m.flags.toNat.testBit flagVol

/-- Whether a request carries REL. -/
def isRel (m : Msg) : Bool := m.flags.toNat.testBit flagRel

/-- A snoop of a record. -/
def snoopOf (s : State) (r : RecAt) (opcode : Nat) : Snoop :=
  { ep := (slotOf s r.slot).ep, slot := r.slot, set := r.set, way := r.way, line := r.it.line, opcode }

/-- The snoop a request sends to one holder's record, by R216 and R227. `me`: the requester's slot. -/
def snoopFor (s : State) (op : Nat) (m : Msg) (me : Option Nat) (r : RecAt) : Option Nat :=
  let mine := me == some r.slot
  let acqRead := (isAcq m || isVol m) && (op == Op.read || op == Op.rdShared || op == Op.rdAny)
  if acqRead && r.it.stale then some Op.snpInv
  else if mine then none
  else if op = Op.read ∨ op = Op.flush then (if isOwner r then some Op.snpPeek else none)
  else if op = Op.rdShared ∨ op = Op.rdAny then
    (if isOwner r then some Op.snpShare
     else if r.it.state = 2 ∧ r.it.stale = false ∧ !inHbm s r.it.line then some Op.snpData
     else none)
  else if op = Op.rdOwn ∨ op = Op.upgrade ∨ op = Op.write ∨ op = Op.writeMasked ∨ op = Op.discard ∨ op = Op.atomic then some Op.snpInv
  else none

/-- The snoops of a transaction that starts (R216, R226). -/
def snoopPlan (s : State) (t : Tx) : List Snoop :=
  if s.coh.slots.isEmpty then []
  else
    let pick := fun (f : RecAt → Option Nat) (rs : List RecAt) => rs.filterMap fun r => (f r).map (snoopOf s r)
    match t.work with
    | .req op m =>
      if isLineOp op then pick (snoopFor s op m (slotOfEp s t.source)) (recsIn s (t.reads ++ t.writes))
      else
        pick (fun r => if isOwner r then some Op.snpInv else none) (recsIn s t.writes) ++
          pick (fun r => if isOwner r ∧ !(t.writes.any fun g => inRange g r.it.line) then some Op.snpPeek else none) (recsIn s t.reads)
    | .result _ _ _ _ _ => pick (fun _ => some Op.snpInv) (recsIn s t.writes)
    | .recall _ => pick (fun _ => some Op.snpInv) (recsIn s t.writes)
    | .restore _ _ => []
    | .migrate _ => []
    | .rekey _ _ => []
    | _ =>
      pick (fun r => if isOwner r then some Op.snpInv else none) (recsIn s t.writes) ++
        pick (fun r => if isOwner r ∧ !(t.writes.any fun g => inRange g r.it.line) then some Op.snpPeek else none) (recsIn s t.reads)

/-- The opcodes that read or write lines at the home cache (R168); a WB_DIRTY counts where it writes, an UPGRADE where it needs data. -/
def countsHits (op : Nat) : Bool :=
  isLineOp op && op != Op.flush && op != Op.discard && op != Op.mirrorFlush && op != Op.mirrorDiscard && op != Op.evictClean && op != Op.wbDirty

/-! ### Fills (R217) -/

/-- Why a line's data cannot be had from its tier now, if it cannot (R302, R486, R586, R588). -/
def lineGap (s : State) (line : Nat) : Option Nat :=
  if inHbm s line then none
  else
    match tierOf s line with
    | .zeros => if noRoom s line then some St.notReady else none
    | .lost => some St.lost
    | .unready => some St.notReady
    | .none => some St.notMapped
    | .capacity _ key =>
      if copiesKnown s (unitOfLine line) && ((winOfLine s line).map (keyUsable s)).getD true && !noRoom s line && key == key then none
      else some St.notReady
    | .dense => if ((winOfLine s line).map (keyUsable s)).getD true && !noRoom s line then none else some St.notReady

/-- How many map pages the HBM map cache holds: MAPCACHE GiB of 4 KiB (R166, R280). -/
def mapRoom (s : State) : Nat := 262144 * coatFld s Reg.poolHbmCfg 0 0 7

/-- A map page enters the map cache; the one longest unused leaves it, written to its copies where it has changed (R280). -/
def cachePage (s : State) (page : Nat) : State :=
  let l := without s.dns.mapCache page ++ [page]
  let out := l.take (l.length - max (mapRoom s) 1)
  let dirty := out.filter s.dns.mapDirty.contains
  let s := { s with dns := { s.dns with mapCache := l.drop out.length, mapDirty := s.dns.mapDirty.filter fun q => !out.contains q } }
  dirty.foldl (fun s q => (mapCopies s q).foldl (fun s i =>
    request s ((capTrayEp s i).getD 0) Op.trayWrite 0 {} 0 (mapAddr i q) (mapPage s q) (.mapWrite q i)) s) s

/-- The home looks up the map entry of a unit: the page is at hand, in the map cache, or a capacity tray must give it; a page that no tray
in service holds is at hand too (log entry 229). -/
def mapAtHand (s : State) (unit : Nat) : Bool := s.dns.mapCache.contains (unit / 512) || (mapCopies s (unit / 512)).isEmpty

/-- A line of a transaction waits for its unit's map page: one capacity-tray read (R280). -/
def mapFetch (s : State) (id cls line : Nat) : State :=
  let page := unitOfLine line / 512
  let s := setTx (bump s Reg.dnsMapMissLo 1) id fun t => { t with fills := t.fills ++ [line] }
  let s := { s with dns := { s.dns with mapWaits := s.dns.mapWaits ++ [(id, line, cls)] } }
  if s.pool.outs.any fun o => (match o.purpose with | .mapRead q _ => q == page | _ => false) then s
  else
    match lessBusy s (mapCopies s page) with
    | some i => request s ((capTrayEp s i).getD 0) Op.trayRead cls {} 0 (mapAddr i page) (beBytes 2 4096 ++ [0, 0]) (.mapRead page i)
    | none => s

/-- Whether a line lies in a dense-backed window. -/
def denseBacked (s : State) (line : Nat) : Bool := (winOfLine s line).any fun w => w.policy == 2 || w.policy == 3

/-- A transaction's data for a line is fetched from its tier (R217), once the map says where it lies (R280). -/
def fillLine (s : State) (id cls line : Nat) : State :=
  let page := unitOfLine line / 512
  if denseBacked s line ∧ s.dns.st = 2 ∧ mapAtHand s (unitOfLine line) = false then mapFetch s id cls line
  else
  let s := if denseBacked s line ∧ s.dns.st = 2 then
      cachePage (if s.dns.mapCache.contains page then s else bump s Reg.dnsMapMissLo 1) page
    else s
  match lineGap s line with
  | some st => setTx s id fun t => { t with bad := t.bad ++ [(line, st)] }
  | none =>
    match tierOf s line with
    | .zeros => setTx s id fun t => { t with got := alSet t.got line (List.replicate 128 0) }
    | .capacity landed key => trayFill (setTx s id fun t => { t with fills := t.fills ++ [line] }) line landed key cls
    | .dense =>
      let first := ((txOf s id).map fun t => !t.fills.any fun l => l / 32 == line / 32).getD false
      let s := setTx s id fun t => { t with fills := t.fills ++ [line] }
      if first then readUnitSector s (unitOfLine line) (line / 32 % 16) (.fill cls (unitOfLine line)) else s
    | _ => s

/-- A map page has come: the lines that waited for it are fetched (R280). -/
def mapArrived (s : State) (page : Nat) : State :=
  let mine := fun (w : Nat × Nat × Nat) => unitOfLine w.2.1 / 512 == page
  let waits := s.dns.mapWaits.filter mine
  let s := cachePage { s with dns := { s.dns with mapWaits := s.dns.mapWaits.filter fun w => !mine w } } page
  waits.foldl (fun s w =>
    match txOf s w.1 with
    | some _ => fillLine (setTx s w.1 fun t => { t with fills := without t.fills w.2.1 }) w.1 w.2.2 w.2.1
    | none => s) s

/-- Whether a UPGRADE is granted without data: its record is Shared or Forwarder and not STALE (R216, R219). -/
def upgradePlain (s : State) (ep : Nat) (m : Msg) : Bool :=
  match slotOfEp s ep with
  | some i =>
    match recAt s i (m.address.toNat / 128) (wayOf m) with
    | some r => r.line == m.address.toNat / 128 && (r.state == 1 || r.state == 2) && !r.stale
    | none => false
  | none => false

/-- The lines whose data a transaction needs once its snoops are answered. -/
def needed (s : State) (t : Tx) : List Nat :=
  let up :=
    match t.work with
    | .req op m => if op = Op.upgrade ∧ !upgradePlain s t.source m then [(m.address.toNat / 128, 1)] else []
    | _ => []
  ((t.reads ++ up).flatMap rangeLines).foldl addOnce []

/-- The lines of a transaction that starts are looked up in the home cache: one hit or one miss each (R168). -/
def countLines (s : State) (t : Tx) : State :=
  match t.work with
  | .req op m =>
    if countsHits op && !(op == Op.upgrade && upgradePlain s t.source m) then
      (((t.reads ++ t.writes).flatMap rangeLines).foldl addOnce []).foldl (fun s l => countHit s (inHbm s l)) s
    else s
  | _ => s

/-- GATHER or SIEVE, as which a transaction runs on a unit: the SIEVE_TAIL of an invocation is a Sieve (R360, R410). -/
def unitOp (t : Tx) : Option Nat :=
  match t.work with
  | .req op _ =>
    if op = Op.gather ∨ op = Op.sieve then some op else if op = Op.tileInvoke ∧ t.step ≠ 0 then some Op.sieve else none
  | _ => none

/-- Whether a transaction runs on a Gather or a Sieve unit (R360). -/
def needsUnit (t : Tx) : Bool := (unitOp t).isSome

/-- How many more fills a transaction may have outstanding: on a Gather or Sieve unit, what the unit's MISS_MAX leaves (R361, R381). -/
def missRoom (s : State) (t : Tx) : Nat :=
  if needsUnit t then
    coatFld s Reg.gthCfg 0 0 11 -
      sumBy (s.pool.txs.filter fun u => u.unit == t.unit && (unitOp u == some Op.sieve) == (unitOp t == some Op.sieve)) fun u => u.fills.length
  else t.toFill.length

/-- The fills that a transaction's lines wait for start, as far as its unit has room. -/
def moreFills (s : State) (t : Tx) : State :=
  let n := missRoom s t
  let s := setTx s t.id fun t => { t with toFill := t.toFill.drop n }
  (t.toFill.take n).foldl (fun s l => fillLine s t.id (txCls t) l) s

/-- Snoops are answered: fills start. -/
def startFills (s : State) (t : Tx) : State :=
  let lines := (needed s t).filter fun l => !inHbm s l && (alGet t.got l).isNone && !isPoisoned s l
  let t := { t with stage := .filling, toFill := lines }
  moreFills (setTx s t.id fun u => { u with stage := .filling, toFill := lines }) t

/-! ### The end of a transaction -/

/-- Whether two entries are requests of one pair. -/
def samePair (t u : Tx) : Bool := t.isReq && u.isReq && t.source == u.source

/-- The request of an entry. -/
def Tx.req? (t : Tx) : Option (Nat × Msg) :=
  match t.work with
  | .req op m => some (op, m)
  | _ => none

/-- A request executes: the REL requests behind it on its pair cannot do so in the same tick (R265). -/
def executes (s : State) (id : Nat) : State :=
  match txOf s id with
  | none => s
  | some t =>
    let f := fun (u : Tx) => if samePair t u ∧ t.ord < u.ord ∧ (u.req?).any (fun r => isRel r.2) = true then { u with after := some (tickNow s) } else u
    if t.executed then s else { s with pool := { s.pool with txs := s.pool.txs.map f } }

/-- A transaction's outcome is known; it ends when nothing is outstanding for it. -/
def outcome (s : State) (id status : Nat) (reply : List Byte) : State :=
  setTx (executes s id) id fun t => { t with stage := .finishing, executed := true, status := some status, reply }

/-- The status of data that a transaction lacks, the first of R586; none once the partner has given the data (R190). -/
def dataStatus (s : State) (t : Tx) (extra : Ranges) : Option Nat :=
  let lines := ((t.reads ++ extra).flatMap rangeLines)
  if t.fromMirror then none
  else if lines.any (isPoisoned s) ∨ t.bad.any (fun b => b.2 == St.poisoned) then some St.poisoned
  else if t.bad.any (fun b => b.2 == St.lost) then some St.lost
  else (t.bad.head?).map fun b => b.2

/-- A read that would end POISONED or LOST goes to the partner of a primary that is PAIRED, or in RESYNC with the unit unmarked
(R190). -/
def tryMirror (s : State) (t : Tx) (m : Msg) (status : Nat) : State :=
  match winOfLine s (m.address.toNat / 128) with
  | some w =>
    let st := mirSt s w
    let clean := t.reads.all fun g => !(winSt s w.id).marked.contains (unitOfLine g.1)
    let g := (t.reads.head?).getD (0, 0)
    if (status = St.poisoned ∨ status = St.lost) ∧ (st = .paired ∨ (st = .resync ∧ clean = true)) then
      let s := request s w.partner Op.mirrorRead m.cls.toNat w.key 0 (w.mbase + (128 * g.1 - w.base)) (beBytes 2 (128 * g.2) ++ [0, 0])
        (.mirrorRead t.id w.id)
      setTx s t.id fun t => { t with stage := .finishing, mirrorRead := some status }
    else outcome s t.id status []
  | none => outcome s t.id status []

/-! ### Execution -/

/-- The bytes of a read, cut to what was asked. -/
def readBytes (s : State) (t : Tx) (a n : Nat) : List Byte :=
  let r := lineRange a n
  slice ((rangeLines r).flatMap fun l => padTo (lineData s t l) 128 0) (a - 128 * r.1) n

/-- READ and MIRROR_READ (R178): data, with missed lines allocated. -/
def runRead (s : State) (t : Tx) (m : Msg) : State :=
  match dataStatus s t [] with
  | some st => tryMirror s t m st
  | none =>
    let data := readBytes s t m.address.toNat (readSize m)
    outcome ((t.reads.flatMap rangeLines).foldl (fun s l => txAlloc s t l) s) t.id St.ok data

/-- The write of `bs` at an address (R178, R246); a line it covers in part keeps its other bytes. -/
def writeBytes (s : State) (t : Tx) (a : Nat) (bs : List Byte) : State :=
  (rangeLines (lineRange a bs.length)).foldl (fun s l =>
    let lo := max a (128 * l)
    let hi := min (a + bs.length) (128 * (l + 1))
    let old := if hi - lo = 128 then [] else padTo (lineData s t l) 128 0
    txWrite s t l (if hi - lo = 128 then slice bs (lo - a) 128 else mergeAt old (lo % 128) (slice bs (lo - a) (hi - lo)))) s

/-- Whether some line of a range finds no room (R588). -/
def rangeNoRoom (s : State) (g : Nat × Nat) : Bool := (rangeLines g).any (noRoom s)

/-- WRITE and MIRROR_WRITE. -/
def runWrite (s : State) (t : Tx) (m : Msg) (mirror : Bool) : State :=
  let a := m.address.toNat
  match dataStatus s t [] with
  | some st => outcome s t.id st []
  | none =>
    let g := lineRange a m.body.length
    if rangeNoRoom s g then outcome s t.id St.notReady []
    else
      let s := writeBytes s t a m.body
      let s := if mirror then mirrorOut s t.id (txCls t) Op.mirrorWrite a m.body g else s
      outcome s t.id St.ok []

/-- WRITE_MASKED and MIRROR_MASKED. -/
def runMasked (s : State) (t : Tx) (m : Msg) (mirror : Bool) : State :=
  let l := m.address.toNat / 128
  match dataStatus s t [] with
  | some st => outcome s t.id st []
  | none =>
    if noRoom s l then outcome s t.id St.notReady []
    else
      let mask := m.body.take 16
      let s := txWrite s t l (mergeMask mask (lineData s t l) (m.body.drop 16))
      let s := if mirror then mirrorOut s t.id (txCls t) Op.mirrorMasked m.address.toNat m.body (l, 1) else s
      outcome s t.id St.ok []

/-- FLUSH and MIRROR_FLUSH (R178, R283): every dirty line of the range goes to its tier, and the completion waits for it. Lines whose
key is not usable cannot be written (R486). -/
def runFlush (s : State) (t : Tx) (m : Msg) (mirror : Bool) : State :=
  let g := lineRange m.address.toNat (byteCount m)
  let dirty := dirtyLines s [g]
  let staged := (s.pool.cache.filter fun c => c.2.staged && inRange g c.1).map fun c => c.1
  let going := s.pool.txs.filterMap fun u =>
    match u.work with
    | .writeBack l => if inRange g l then some l else none
    | _ => none
  if dirty.any (fun l => !((winOfLine s l).map (keyUsable s)).getD true || !placeKnown s l) then outcome s t.id St.notReady []
  else
    let s := setTx s t.id fun t => { t with wbs := (dirty ++ staged ++ going).foldl addOnce [] }
    let s := dirty.foldl (fun s l => if isDirty s l then writeBack s l (txCls t) false else s) s
    let s := if mirror then mirrorOut s t.id (txCls t) Op.mirrorFlush m.address.toNat m.body g else s
    setTx s t.id fun t => { t with stage := .finishing, status := some St.ok, reply := [] }

/-- A dense-backed unit discarded: ZERO at once, and a discard record for the metadata stream that the completion waits for; what is
on its way to the media for it counts no more (R284). -/
def discardDense (s : State) (id unit : Nat) : State :=
  if (mapOf s unit).st = .zero ∧ unitMoving s unit = false then s
  else
    let s := setMap (voidWrites s unit) unit { st := .zero }
    let s := enqueueRow s 4 { unit := some unit, data := List.replicate 65536 0, serial := 0, temp := 0, lines := [512 * unit], kind := 3,
                               cls := ((txOf s id).map txCls).getD 0 }
    setTx s id fun t => { t with wbs := addOnce t.wbs (512 * unit) }

/-- Lines of a range leave the cache and lose their poison. -/
def forgetRange (s : State) (g : Nat × Nat) : State :=
  let s := (s.pool.cache.filter fun c => inRange g c.1).foldl (fun s c => dropLine s c.1) s
  (s.coh.poison.filter fun l => inRange g l).foldl clearPoison s

/-- DISCARD and MIRROR_DISCARD: the units then read as zeros (R178, R235, R284). -/
def runDiscard (s : State) (t : Tx) (m : Msg) (mirror : Bool) : State :=
  let g := lineRange m.address.toNat (byteCount m)
  let s := forgetRange s g
  let s :=
    match winOfLine s (m.address.toNat / 128) with
    | some w =>
      if w.policy = 1 then setZeros s g
      else (List.range (g.2 / 512)).foldl (fun s i => discardDense s t.id (unitOfLine g.1 + i)) s
    | none => s
  let s := if mirror then mirrorOut s t.id (txCls t) Op.mirrorDiscard m.address.toNat m.body g else s
  outcome s t.id St.ok []

/-- ATOMIC (R230): the value lies little-endian in the line; the old one is answered big-endian in 8 bytes. -/
def runAtomic (s : State) (t : Tx) (m : Msg) : State :=
  let a := m.address.toNat
  let l := a / 128
  match dataStatus s t [] with
  | some st => outcome s t.id st []
  | none =>
    if noRoom s l then outcome s t.id St.notReady []
    else
      let n := beAt m.body 1 1
      let line := padTo (lineData s t l) 128 0
      let old := leAt line (a % 128) n
      let aop := (aopOf (beAt m.body 0 1)).getD .swap
      let new := aopResult aop (8 * n) old (beAt m.body 8 8) (beAt m.body 16 8)
      let s := bump s Reg.cohAtomicLo 1
      let s :=
        if aop = .cmpSwap ∧ old ≠ beAt m.body 16 8 then (if inHbm s l then touchLine s l fun c => c else cacheLine (makeRoom s l (txCls t)) l line)
        else mirrorLine (txWrite s t l (mergeAt line (a % 128) (leBytes n new))) t.id (txCls t) l
      outcome s t.id St.ok (beBytes 8 old)

/-- The state a fill grants (R216, R588): 1 Shared, 2 Forwarder, 3 Exclusive. -/
def grantFor (s : State) (op : Nat) (m : Msg) (me line : Nat) : Nat :=
  let others := (recsOf s line).filter fun r => r.slot != me
  let readOnly := ((winOfLine s (m.address.toNat / 128)).map Win.readOnly).getD false
  if op = Op.rdOwn ∨ op = Op.upgrade then 3
  else if op = Op.rdAny ∧ others.isEmpty ∧ readOnly = false then 3
  else if others.any (fun r => r.it.state == 2) then 1
  else 2

/-- The status that a fill's way gives it at a slot, if any (R212, R216): outside the geometry, not free, or not the way that holds the
line. -/
def wayStatus (s : State) (i op : Nat) (m : Msg) : Option Nat :=
  let l := m.address.toNat / 128
  let busyWay :=
    match recAt s i l (wayOf m) with
    | some r => !(op == Op.upgrade && r.line == l)
    | none => false
  if (slotOf s i).ways ≤ wayOf m then some St.malformed
  else if busyWay || (recsOf s l).any (fun r => r.slot == i && r.way != wayOf m) then some St.malformed
  else none

/-- Whether a slot's fill is still to be granted: it is registered (R206), or the coat that removes it came after the fill (R238). -/
def fillServed (s : State) (t : Tx) (i : Nat) : Bool :=
  let x := slotOf s i
  x.st == .registered || (x.st == .deregistering && t.older s && s.pool.txs.any fun u => u.work == .dereg i)

/-- A fill or UPGRADE is granted: the record shows it at the way it named, and the grant carries the line unless an UPGRADE held it
(R208, R214, R219). What has become of its slot and way since it was admitted is judged again, so that no grant breaks R202 (R206, R207,
R216). -/
def runFill (s : State) (t : Tx) (op : Nat) (m : Msg) : State :=
  let l := m.address.toNat / 128
  match (slotOfEp s t.source).filter (fillServed s t) with
  | none => outcome s t.id St.unsupported []
  | some i =>
    match wayStatus s i op m with
    | some st => outcome s t.id st []
    | none =>
      match dataStatus s t [(l, 1)] with
      | some st => if op = Op.upgrade then outcome s t.id st [] else tryMirror s t m st
      | none =>
        let plain := op == Op.upgrade && upgradePlain s t.source m
        let g := grantFor s op m i l
        let data := padTo (lineData s t l) 128 0
        let s := if plain then s else txAlloc s t l
        let s := putRec s i (setOfLine (slotOf s i) l) (wayOf m) (some { line := l, state := g, stale := false })
        outcome s t.id St.ok (grantBytes g (if plain then none else some data))

/-- WB_DIRTY (R218, R219): data of the record's owner is a write; otherwise the write-back is stale. Either way a record of that
line at that way becomes Invalid. A write-back of a job in frost changes nothing (R565). -/
def runWbDirty (s : State) (t : Tx) (m : Msg) : State :=
  let l := m.address.toNat / 128
  if t.fenced then outcome s t.id St.jobFenced []
  else
    match slotOfEp s t.source with
    | none => outcome s t.id St.ok []
    | some i =>
      match recAt s i l (wayOf m) with
      | some r =>
        if r.line = l then
          let s :=
            if r.state = 3 then mirrorLine (txWrite (countHit s (inHbm s l)) t l (m.body.drop 8)) t.id (txCls t) l else bump s Reg.cohStaleWbLo 1
          outcome (putRec s i (setOfLine (slotOf s i) l) (wayOf m) none) t.id St.ok []
        else outcome (bump s Reg.cohStaleWbLo 1) t.id St.ok []
      | none => outcome (bump s Reg.cohStaleWbLo 1) t.id St.ok []

/-- Whether a source passes the owner test of R165 for a window: its owner, or under SCOPE 1 a member of its job. -/
def mayReach (s : State) (w : Win) (ep : Nat) : Bool :=
  w.owner == ep || (w.jobScope && (((coat s).pool.jobs.lookup w.key.job).getD []).contains ep)

/-- One item of an EVICT_CLEAN (R213). -/
def evictItem (s : State) (t : Tx) (m : Msg) (item : Nat) : State :=
  let a := item % 2 ^ 56 / 128 * 128
  let ignored := bump s Reg.cohEvictIgnoredLo 1
  match slotOfEp s t.source, winOfLine s (a / 128) with
  | some i, some w =>
    match recAt s i (a / 128) (item % 16) with
    | some r =>
      if item / 2 ^ 56 = 0 ∧ item / 16 % 8 = 0 ∧ mayReach s w t.source = true ∧ w.key = m.key ∧ w.secondary = false ∧
          w.coherent = true ∧ r.line = a / 128 then
        (if t.fenced then s else putRec s i (setOfLine (slotOf s i) (a / 128)) (item % 16) none)
      else ignored
    | none => ignored
  | _, _ => ignored

/-- A request on lines executes. -/
def runLineOp (s : State) (t : Tx) (op : Nat) (m : Msg) : State :=
  if op = Op.read ∨ op = Op.mirrorRead then runRead s t m
  else if op = Op.write then runWrite s t m true
  else if op = Op.mirrorWrite then runWrite s t m false
  else if op = Op.writeMasked then runMasked s t m true
  else if op = Op.mirrorMasked then runMasked s t m false
  else if op = Op.flush then runFlush s t m true
  else if op = Op.mirrorFlush then runFlush s t m false
  else if op = Op.discard then runDiscard s t m true
  else if op = Op.mirrorDiscard then runDiscard s t m false
  else if op = Op.atomic then runAtomic s t m
  else if op = Op.wbDirty then runWbDirty s t m
  else if op = Op.evictClean then outcome ((evictItems m).foldl (fun s i => evictItem s t m i) s) t.id (if t.fenced then St.jobFenced else St.ok) []
  else runFill s t op m

/-! ### When a transaction may start and execute -/

/-- The lines a transaction touches. -/
def touches (t : Tx) : Ranges := t.reads ++ t.writes

/-- Whether two transactions touch a common line. -/
def conflict (t u : Tx) : Bool := (touches t).any fun a => (touches u).any fun b => rangesMeet a b

/-- Whether a transaction has lines to itself now (R215). -/
def isActive (t : Tx) : Bool :=
  match t.stage with
  | .waiting => false
  | .reserved _ => false
  | _ => true

/-- Whether an entry is reserved for a reissue (R186). -/
def isReserved (t : Tx) : Bool :=
  match t.stage with
  | .reserved _ => true
  | _ => false

/-- Whether a line is being snooped for a transaction that sweeps records (R206, R565). -/
def sweptLine (u t : Tx) : Bool := (u.toSnoop ++ u.snoops).any fun x => (touches t).any fun g => inRange g x.line

/-- Whether an entry is an ACQ request (R250). -/
def Tx.acq (t : Tx) : Bool := (t.req?).any fun r => isAcq r.2

/-- Whether an entry is a REL request, or an invocation, which waits as one (R252, R406). -/
def Tx.rel (t : Tx) : Bool := (t.req?).any fun r => isRel r.2 || r.1 == Op.tileInvoke

/-- Whether an entry makes data visible (R183). -/
def Tx.dataWrite (t : Tx) : Bool := (t.req?).any fun r => isDataWrite r.1

/-- The dirty lines of dense-backed windows whose write-back has not begun (R173). -/
def denseDirty (s : State) : List (Nat × CLine) := s.pool.cache.filter fun c => c.2.dirty && denseBacked s c.1

/-- The lines of dense-backed windows that hold space because their write-back has not ended: on their way to a tray, or in a row that is not
programmed (R173, R283). -/
def denseGoing (s : State) : Nat :=
  countBy s.pool.cache fun c => !c.2.dirty && denseBacked s c.1 && (c.2.staged || s.pool.txs.any fun t => t.work == .writeBack c.1)

/-- How many dirty dense-backed lines DIRTY_MAX allows (R173). -/
def dirtyMax (s : State) : Nat := cacheSets s * coatFld s Reg.poolTierCfg 0 18 4

/-- Whether dirty dense-backed lines exceed DIRTY_MAX sixteenths of the cache (R173). -/
def tooDirty (s : State) : Bool := dirtyMax s < (denseDirty s).length + denseGoing s

/-- Whether R173 holds a write to a dense-backed window. -/
def heldDirty (s : State) (t : Tx) : Bool :=
  t.dataWrite && tooDirty s && t.writes.any fun g => denseBacked s g.1

/-- Whether a write in twin mode finds no space in the partner's dirty shadow, whose entries are this twin's dirty lines (R514). -/
def heldShadow (s : State) (t : Tx) : Bool :=
  paired s && t.dataWrite && (t.writes.any fun g => !isPinned s g.1 && !isDirty s g.1) &&
    8388608 * coatFld s Reg.scrCfg 0 2 7 ≤ countBy s.pool.cache fun c => c.2.dirty

/-- Whether write-backs wait for a row of the HOT stream that lacks strides (R282). -/
def rowShort (s : State) : Bool :=
  let gathers := countBy s.dns.jobs fun (p : Nat × Media) =>
    match p.2 with
    | .gather _ 0 false _ _ _ _ _ => true
    | _ => false
  ((alGetD s.dns.rows 0 []).length + gathers) % 8 != 0

/-- The dirty lines that R173 writes back to free space, one after another, until those on their way leave enough and fill their rows: the
longest unused that no transaction is on and whose write-back can begin. -/
def relieveDirty (fuel : Nat) (s : State) : State :=
  match fuel with
  | 0 => s
  | n + 1 =>
    if tooDirty s = false ∨ ((denseDirty s).length ≤ dirtyMax s ∧ rowShort s = false) then s
    else
      match oldest ((denseDirty s).filter fun c => !lineInUse s c.1 && !stuckDirty s c) with
      | some c => relieveDirty n (writeBack s c.1 0 false)
      | none => s

/-- The dirty line longest unused is written back to free an entry of the dirty shadow (R514), unless one is on its way. -/
def relieveShadow (s : State) : State :=
  if s.pool.txs.any Tx.isWriteBack then s
  else
    match oldest (s.pool.cache.filter fun (c : Nat × CLine) => c.2.dirty && !lineInUse s c.1 && !stuckDirty s c) with
    | some c => writeBack s c.1 0 false
    | none => s

/-- A write that is held for space makes the home write back (R173, R514). -/
def relieve (s : State) (t : Tx) : State :=
  if heldShadow s t then relieveShadow s else if heldDirty s t then relieveDirty s.pool.cache.length s else s

/-- Whether a waiting entry cannot start before a reissue comes: on its lines, or after an ACQ, it follows a request of its pair that
was answered RETRY, or another entry that waits so (R225, R250). -/
def behindReissue (t : Tx) (before : List Tx) (parked : List Nat) : Bool :=
  t.stage == .waiting && before.any fun u =>
    samePair t u && ((conflict t u && !u.executed && (isReserved u || parked.contains u.id)) || (u.acq && parked.contains u.id))

/-- The waiting entries that only a reissue can start (R225). They make no line busy, or the reissue they wait for could never be
granted its line (R224). DEDUCED, log entry 206. -/
def parkedIds (s : State) : List Nat :=
  if s.pool.txs.any isReserved then
    (s.pool.txs.foldl (fun (a : List Tx × List Nat) t =>
      (a.1 ++ [t], if behindReissue t a.1 a.2 then a.2 ++ [t.id] else a.2)) ([], [])).2
  else []

/-- Whether an ACQ request of its pair holds an entry (R250). -/
def behindAcq (s : State) (t : Tx) : Bool :=
  t.stage == .waiting && s.pool.txs.any fun u => samePair t u && u.ord < t.ord && u.acq && !isReserved u

/-- Whether a waiting entry may start: no transaction, and no earlier waiting one that a reissue does not hold up, is on its lines
(R215); no earlier request of its pair on them has yet to execute (R183, R225); no ACQ request of its pair holds it (R250). -/
def mayStart (s : State) (t : Tx) : Bool :=
  let before := s.pool.txs.takeWhile fun u => u.id != t.id
  s.pool.txs.all (fun u => u.id == t.id || !((isActive u && conflict t u) || sweptLine u t)) &&
    before.all (fun u => !(u.stage == .waiting && conflict t u && !(parkedIds s).contains u.id)) &&
    before.all (fun u => !(samePair t u && !u.executed && conflict t u)) &&
    !behindAcq s t && !heldDirty s t && !heldShadow s t &&
    !(needsUnit t && t.unit.isNone)

/-- Whether a transaction whose data is gathered may execute: earlier writes of its pair are visible (R183), and for REL all its
earlier requests have executed (R252), in an earlier tick (R265). -/
def mayRun (s : State) (t : Tx) : Bool :=
  t.after != some (tickNow s) && s.pool.txs.all fun u =>
    !(samePair t u && u.ord < t.ord && !u.executed && !isReserved u &&
      (t.rel || (t.dataWrite && u.dataWrite && !conflict t u)))

/-- The records that a sweeping transaction still has to invalidate (R206, R565). -/
def sweepLeft (s : State) (t : Tx) : List RecAt :=
  match t.work with
  | .dereg slot => (allRecs s).filter fun r => r.slot == slot
  | .req op _ => if op = Op.deregister then (allRecs s).filter fun r => slotOfEp s t.source == some r.slot else []
  | .sweep job => (allRecs s).filter fun r => (winOfLine s r.it.line).any fun w => w.coherent && w.key.job == job
  | _ => []

/-- A sweeping transaction takes up the snoops of records whose lines are free; a line is its own only from its snoop (R206). -/
def sweepMore (s : State) (t : Tx) : State :=
  let idle := (sweepLeft s t).filter fun r =>
    !(t.toSnoop ++ t.snoops).any (fun x => x.slot == r.slot && x.line == r.it.line) &&
      !s.pool.txs.any fun u => u.id != t.id && ((isActive u && (touches u).any fun g => inRange g r.it.line) ||
        (u.toSnoop ++ u.snoops).any fun x => x.line == r.it.line)
  setTx s t.id fun t => { t with toSnoop := t.toSnoop ++ idle.map fun r => snoopOf s r Op.snpInv }

/-- Whether a transaction sweeps records. -/
def isSweep (t : Tx) : Bool :=
  match t.work with
  | .dereg _ => true
  | .sweep _ => true
  | .req op _ => op == Op.deregister
  | _ => false

/-! ### Commit records (R513) -/

/-- The commit record of a transaction: what has changed since the last one, the pair's E and the completion it will keep. -/
def commitOf (s : State) (t : Tx) : Commit :=
  let lines := s.scr.dirtySent
  { id := s.scr.nextCommit,
    lines := (lines.filter fun l => !isPinned s l).map fun l => (l, hbmLine s l),
    pinned := (lines.filter (isPinned s)).map fun l => (l, hbmLine s l),
    records := s.scr.recLog, poison := s.scr.poisonLog,
    pairE := if t.isReq && t.source % 2 == myTwin s then [(t.source, (srcOf s t.source).expect)] else [],
    kept := (t.req?).toList.map fun r => cplOf r.2 (t.status.getD 0) t.degraded t.fromMirror t.reply,
    gauges := s.scr.gaugeLog, freed := s.scr.freedLog,
    slots := s.scr.slotLog.map fun i => let x := slotOf s i; (i, x.ep, x.setsLog2, x.ways, slotLive x) }

/-- Whether a transaction waits for a commit record before it ends: requests, tile and RUB writes, results (R513). -/
def Tx.commits (t : Tx) : Bool :=
  match t.work with
  | .req _ _ => true
  | .tileOp _ => true
  | .rub _ _ _ _ => true
  | .result _ _ _ _ _ => true
  | _ => false

/-- A commit record goes to the partner; the bridge carries the bytes and 32 more a line (R505). -/
def sendCommit (s : State) (t : Tx) : State :=
  let c := commitOf s t
  let s := bump (emit s (.bridge (.commit c))) Reg.scrTxBytesLo (160 * (c.lines.length + c.pinned.length))
  let n := s.scr.nextCommit + 1
  let scr := { s.scr with nextCommit := n, dirtySent := [], recLog := [], poisonLog := [], gaugeLog := [], freedLog := [], slotLog := [] }
  let s := { s with scr }
  setTx s t.id fun t => { t with commit := some c.id }

/-- A hook is left for the engine. -/
def addHook (s : State) (h : Hook) : State := { s with hooks := s.hooks ++ [h] }

/-- A PAIR_RESET that waited for its pair's transactions completes (R262). -/
def resetMayEnd (s : State) (ep : Nat) : State :=
  match (srcOf s ep).resetWait with
  | some m =>
    if s.pool.txs.any fun t => t.isReq && t.source == ep && !t.keep then s
    else answer (setSrc s ep fun x => { x with resetWait := none }) m St.ok
  | none => s

/-- Whether a completion carries its payload whatever its status: an invocation's does (R408). -/
def Tx.unitReply (t : Tx) : Bool := (t.req?).any fun r => r.1 == Op.tileInvoke

/-- A transaction whose last answer has come completes, under JOB_FENCED where its job entered frost in an earlier tick (R193, R264), and its
entry is freed (R185). -/
def endTx (s : State) (t : Tx) : State :=
  match t.work with
  | .req _ m =>
    let s := dropTx (executes s t.id) t.id
    let s :=
      let st := if t.fenced && (jobSt s m.job.toNat).since != tickNow s then St.jobFenced else t.status.getD 0
      if st = St.jobFenced then complete s m st (if t.unitReply then t.reply else []) false false t.keep
      else complete s m st t.reply t.degraded t.fromMirror t.keep
    resetMayEnd s t.source
  | w => addHook (dropTx s t.id) (.ended w (t.status.getD 0))

/-! ### The pump -/

/-- A transaction goes one stage further, if it can. -/
def advance (s : State) (id : Nat) : State :=
  match txOf s id with
  | none => s
  | some t =>
    match t.stage with
    | .reserved _ => s
    | .waiting =>
      if t.fenced then outcome s id St.jobFenced t.reply
      else if mayStart s t then
        let plan := snoopPlan s t
        let stale := countBy plan fun x => x.opcode == Op.snpInv &&
          (alGet (slotOf s x.slot).recs (x.set, x.way)).any (fun r => r.stale) && (t.req?).any fun r => isAcq r.2 || isVol r.2
        let s := if s.coh.slots.isEmpty || (touches t).isEmpty then s else countLookup s
        let s := countLines s t
        setTx (bump s Reg.cohStaleInvLo stale) id fun t => { t with stage := .snooping, toSnoop := plan }
      else relieve s t
    | .snooping =>
      let s := if isSweep t then sweepMore s t else s
      let s := sendSnoops s id
      let s := if isSweep t then setTx s id fun t => { t with toSnoop := [] } else s
      match txOf s id with
      | some t => if t.toSnoop.isEmpty && t.snoops.isEmpty && (sweepLeft s t).isEmpty then startFills s t else s
      | none => s
    | .filling =>
      if !t.toFill.isEmpty then moreFills s t
      else if t.fills.isEmpty then setTx s id fun t => { t with stage := .ready } else s
    | .ready =>
      if mayRun s t then
        match t.work with
        | .req op m =>
          if t.fenced then outcome s id St.jobFenced t.reply
          else if isLineOp op && op != Op.register && op != Op.deregister then runLineOp s t op m
          else addHook (setTx s id fun t => { t with stage := .finishing }) (.ready id)
        | _ => addHook (setTx s id fun t => { t with stage := .finishing }) (.ready id)
      else s
    | .finishing =>
      if t.status.isNone || !t.wbs.isEmpty || mirrorsOut s id then s
      else if paired s && t.commit.isNone && !t.acked && t.commits then sendCommit s t
      else if t.commit.isSome then s
      else endTx s t

/-- Every transaction goes on as far as it can without an answer from outside. -/
def pump (fuel : Nat) (s : State) : State :=
  match fuel with
  | 0 => s
  | n + 1 =>
    if s.pool.txs.isEmpty then s
    else
      let s' := startWaiting ((s.pool.txs.map Tx.id).foldl advance s)
      if s'.pool.txs = s.pool.txs then s' else pump n s'

end Sys2Proof.Machine
end

