-- ==== Sys2Proof/Machine/Arrive.lean ====
section
/-! DEFINITION. A PMT request arrives (spec/06 R175 to R182): steps 1 to 3 of R177, the checks of steps 4 to 8 for the pool and
coherence opcodes, admission, RETRY and reservations (R186, R223 to R225), PAIR_RESET, endpoints that fail (R233). -/

namespace Sys2Proof.Machine

open Sys2Proof

/-! ### Steps 1 to 3 -/

/-- POOL_TRK_CFG.RESEQ_DEPTH (R194). -/
def reseqDepth (s : State) : Nat := coatFld s Reg.poolTrkCfg 0 16 9

/-- Requests held at this home for all sources (R180). -/
def heldTotal (s : State) : Nat := sumBy s.pool.srcs fun p => p.2.held.length

/-- Held requests that are now in order follow the one that E has passed (R180). -/
def releaseHeld (fuel : Nat) (s : State) (ep : Nat) : State :=
  match fuel with
  | 0 => s
  | n + 1 =>
    let x := srcOf s ep
    match x.held.find? fun h => h.msg.seq.toNat == x.expect with
    | none => s
    | some h =>
      let s := setSrc s ep fun x => { x with held := x.held.filter (fun y => y.msg.seq != h.msg.seq), expect := (x.expect + 1) % two32 }
      releaseHeld n (addHook s (.arrive h.opcode h.msg)) ep

/-- A request ahead of E is held, or discarded (R180). -/
def holdReq (s : State) (op : Nat) (m : Msg) (d : Nat) : State :=
  let x := srcOf s m.src
  if reseqDepth s ≤ d then bump s Reg.poolReseqDropLo 1
  else if x.held.any fun h => h.msg.seq == m.seq then bump s Reg.poolDupLo 1
  else if reseqDepth s ≤ x.held.length ∨ 8192 ≤ heldTotal s then bump s Reg.poolReseqDropLo 1
  else setSrc s m.src fun x => { x with held := x.held ++ [{ opcode := op, msg := m }] }

/-- A request behind E: ignored while its tag is in progress, else its kept completion goes again (R180, R181). A request answered RETRY has its
completion and is not in progress, though its entry stays reserved: DEDUCED, log entry 225. -/
def duplicate (s : State) (m : Msg) : State :=
  let s := bump s Reg.poolDupLo 1
  if s.pool.txs.any fun t => t.isReq && t.source == m.src && t.tag == m.tag.toNat && !isReserved t then s
  else
    match (srcOf s m.src).kept.find? fun c => c.tag == m.tag.toNat && c.seq == m.seq.toNat with
    | some c => sendCpl s c
    | none => s

/-- Step 3 (R180): a new request ends the keeping of its tag's completion (R181); while the home drains, after the tick of the rollback, a
request in order is handled as one ahead of it (R263). -/
def sequence (s : State) (op : Nat) (m : Msg) : State :=
  let s := setSrc s m.src fun x => { x with lastReset := none }
  let x := srcOf s m.src
  let d := (m.seq.toNat + two32 - x.expect) % two32
  if 2147483648 ≤ d then duplicate s m
  else
  let s := setSrc s m.src fun x => { x with kept := x.kept.filter fun c => c.tag != m.tag.toNat }
  if d = 0 ∧ s.pool.drain.all (fun k => k == tickNow s) = true then
    let s := addHook (setSrc s m.src fun x => { x with expect := (x.expect + 1) % two32 }) (.arrive op m)
    releaseHeld (srcOf s m.src).held.length s m.src
  else holdReq s op m d

/-- The twin that sequences a source (R512). -/
def seqTwin (ep : Nat) : Nat := ep % 2

/-- Whether the home serves requests: not HELD, not REJOINING (R517, R519). -/
def homeServes (s : State) : Bool := s.scr.st != .held && s.scr.st != .rejoining

/-- What goes across the bridge to the partner. -/
def toPartner (s : State) (b : BridgeOut) (bytes : Nat) : State := bump (emit s (.bridge b)) Reg.scrTxBytesLo bytes

/-- Step 1 of R177: version, source and CRC. -/
def wellReceived (op : Nat) (m : Msg) : Bool := m.version == 1 && m.source.toNat < 1048576 && crcOk op m

/-- A numbered request arrives: steps 1 to 3 of R177. One of the other twin's sources crosses the bridge (R512); without an ingress
port it is one that the other twin has sequenced and passes on for step 10 (log entry 102). -/
def receiveReq (s : State) (op : Nat) (m : Msg) : State :=
  if !wellReceived op m then bump s Reg.poolDropLo 1
  else if !homeServes s then s
  else if paired s ∧ seqTwin m.src ≠ myTwin s then
    (if m.port = 1024 then addHook s (.execute op m) else toPartner s (.forward op m) (36 + m.payload.length))
  else if creditsOf s m.src = 0 then complete s m St.accessDenied [] false false false
  else sequence s op m

/-! ### Step 4: format (R175, R176, R178, R211 to R213, R229, R249) -/

/-- Opcodes whose requests may carry a flag (R249). -/
def flagAllowed (op i : Nat) : Bool :=
  if i = flagAcq then op == Op.read || op == Op.rdShared || op == Op.rdAny || op == Op.atomic
  else if i = flagVol then op == Op.read || op == Op.rdShared || op == Op.rdAny
  else op == Op.write || op == Op.writeMasked || op == Op.atomic

/-- FLAGS of a request: reserved bits zero, ordering flags where R249 allows them. -/
def flagsOk (op : Nat) (m : Msg) : Bool :=
  m.flags.toNat / 32 == 0 && [flagAcq, flagVol, flagRel].all fun i => !m.flags.toNat.testBit i || flagAllowed op i

/-- Whether a request reissues one whose entry is reserved (R186). -/
def isReissue (s : State) (m : Msg) : Bool :=
  m.flags.toNat.testBit flagRsv && s.pool.txs.any fun t => t.isReq && t.source == m.src && t.tag == m.tag.toNat && isReserved t

/-- The header checks that every opcode shares. `dest`: whether DESTINATION may name another endpoint of this device; `epoch`:
whether the opcode carries an epoch; `poolAddr`: whether ADDRESS is a pool address. -/
def headerOk (s : State) (op : Nat) (m : Msg) (dest epoch : Bool) : Bool :=
  flagsOk op m && (m.dest.toNat == selfEp s || dest) && m.length.toNat ≤ 4096 && m.length.toNat ≤ m.payload.length &&
    m.wt.toNat / 4096 % 8 == 0 && (m.epoch == 0 || epoch) && (op == Op.pairReset || !tagInUse s m.src m.tag.toNat || isReissue s m)

/-- LENGTH, payload and ADDRESS of the pool, mirror and coherence opcodes (R178, R211 to R213, R229). -/
def lineFormat (op : Nat) (m : Msg) : Bool :=
  let a := m.address.toNat
  let n := m.length.toNat
  let rd := n == 4 && beAt m.body 2 2 == 0 && 64 ≤ readSize m && readSize m ≤ 4096 && readSize m % 64 == 0 && a % 64 == 0 && onePage a (readSize m)
  let wr := 64 ≤ n && n ≤ 4096 && n % 64 == 0 && a % 64 == 0 && onePage a n
  let fillOk := allZero (slice m.body 1 7) && setsLog2Of m == 0 && a % 128 == 0
  a < 2 ^ 56 &&
  (if op = Op.read ∨ op = Op.mirrorRead then rd
   else if op = Op.write ∨ op = Op.mirrorWrite then wr
   else if op = Op.writeMasked ∨ op = Op.mirrorMasked then n == 144 && a % 128 == 0
   else if op = Op.flush ∨ op = Op.mirrorFlush then n == 8 && a % 128 == 0 && byteCount m % 128 == 0 && byteCount m ≤ 1073741824
   else if op = Op.discard ∨ op = Op.mirrorDiscard then n == 8 && a % 65536 == 0 && byteCount m % 65536 == 0
   else if op = Op.atomic then n == 24 && atomicOk m
   else if isFill op ∨ op = Op.upgrade then n == 8 && fillOk
   else if op = Op.wbDirty then n == 136 && fillOk
   else if op = Op.evictClean then
     0 < n && n ≤ 256 && n % 8 == 0 && a == ((evictItems m).headD 0) % 2 ^ 56 / 128 * 128
   else if op = Op.register then n == 8 && a == 0 && allZero (slice m.body 1 7) && 6 ≤ setsLog2Of m && setsLog2Of m ≤ 11
   else if op = Op.deregister ∨ op = Op.pairReset then n == 0 && a == 0
   else false)

/-- The lines of a coherence transaction: those of its items, or its own (R213, R221). -/
def cohLines (op : Nat) (m : Msg) : List Nat :=
  if op = Op.evictClean then (evictItems m).map fun i => i % 2 ^ 56 / 128 else if isCohOp op then [m.address.toNat / 128] else []

/-- R221: one coherence transaction of an endpoint outstanding per line. -/
def secondOnLine (s : State) (op : Nat) (m : Msg) : Bool :=
  s.pool.txs.any fun t =>
    t.isReq && t.source == m.src && t.tag != m.tag.toNat && (t.req?).any fun r => (cohLines r.1 r.2).any (cohLines op m).contains

/-- The payload beyond LENGTH is counted (R175). -/
def countExcess (s : State) (m : Msg) : State :=
  if m.length.toNat < m.payload.length then bump s Reg.poolExcessLo 1 else s

/-! ### Steps 6 to 8 for lines (R165, R198, R204, R212, R216, R489, R588) -/

/-- How many bytes a request names from its ADDRESS on. -/
def reqBytes (op : Nat) (m : Msg) : Nat :=
  if op = Op.read ∨ op = Op.mirrorRead then readSize m
  else if op = Op.write ∨ op = Op.mirrorWrite then m.length.toNat
  else if op = Op.flush ∨ op = Op.discard ∨ op = Op.mirrorFlush ∨ op = Op.mirrorDiscard then byteCount m
  else if op = Op.atomic then beAt m.body 1 1
  else 128

/-- Step 6: the window a source reaches with a range (R165). -/
def windowFor (s : State) (ep a n : Nat) : Option Win :=
  (winAt s a).filter fun w => a + n ≤ w.base + w.size && mayReach s w ep

/-- Step 7 for a window (R165, R489, R588). -/
def accessOk (s : State) (w : Win) (op : Nat) (m : Msg) : Bool :=
  w.key == m.key && !(w.readOnly && isWriteKind op) &&
    (if w.secondary then isMirrorOp op && w.partner == m.src else !isMirrorOp op) &&
    !((sealedSlot s w.id).isSome && (op == Op.read || isFill op || op == Op.upgrade || op == Op.atomic))

/-- The snoop-filter part of step 8: the endpoint is registered, the way lies in its geometry and is free (R204, R206, R212, R216). -/
def cohStatus (s : State) (op : Nat) (m : Msg) : Option Nat :=
  match slotOfEp s m.src with
  | none => some St.unsupported
  | some i =>
    let x := slotOf s i
    let fill := isFill op || op == Op.upgrade
    if !slotLive x ∨ (fill = true ∧ (x.st ≠ .registered ∨ listedSlot s m.src ≠ some i)) then some St.unsupported
    else if op = Op.evictClean then none
    else if fill then wayStatus s i op m
    else if x.ways ≤ wayOf m then some St.malformed
    else none

/-- Whether a write covers whole lines only (R489). -/
def wholeLines (op : Nat) (m : Msg) : Bool :=
  op != Op.writeMasked && (op != Op.write || (m.address.toNat % 128 == 0 && m.length.toNat % 128 == 0))

/-- Steps 6 to 8 for the pool, mirror and coherence opcodes: the status that stops the request, if any. -/
def lineAccess (s : State) (op : Nat) (m : Msg) : Option Nat :=
  if op = Op.register then none
  else if op = Op.deregister then (if (listedSlot s m.src).isNone ∧ (slotOfEp s m.src).isNone then some St.accessDenied else none)
  else if op = Op.evictClean then cohStatus s op m
  else
    match windowFor s m.src m.address.toNat (reqBytes op m) with
    | none => some St.notMapped
    | some w =>
      if !accessOk s w op m then some St.accessDenied
      else if isCohOp op ∧ w.coherent = false then some St.unsupported
      else if (op = Op.discard ∨ op = Op.mirrorDiscard) ∧ w.policy = 0 then some St.unsupported
      else if (sealedSlot s w.id).isSome ∧ !wholeLines op m then some St.unsupported
      else if isCohOp op then cohStatus s op m
      else none

/-! ### Grants and reservations (R186, R224) -/

/-- Whether a line is busy (R215): a transaction that touches it is in its entry, unless it waits for a reissue (R225), or has a snoop
out on it (R206). -/
def lineBusy (s : State) (line : Nat) (except : Nat) : Bool :=
  let parked := parkedIds s
  s.pool.txs.any fun t => t.id != except && ((!isReserved t && !parked.contains t.id && (touches t).any fun g => inRange g line) ||
    (t.toSnoop ++ t.snoops).any fun x => x.line == line)

/-- The line's oldest requester that was answered RETRY gets CREDIT_GRANT, and the line is held for it (R224). -/
def grantNext (s : State) (line : Nat) : State :=
  if lineBusy s line s.pool.nextTx ∨ (alGet s.pool.holds line).isSome then s
  else
    match (alGetD s.pool.retries line []).head? with
    | none => s
    | some id =>
      match (txOf s id).bind Tx.req? with
      | none => s
      | some (_, m) =>
        let s := setTx s id fun t => { t with stage := .reserved true }
        sendGrant { s with pool := { s.pool with holds := alSet s.pool.holds line id } } m

/-- A reservation is gone: its line's queue and hold forget it, and the next in the queue is granted (R186, R224). -/
def releaseReservation (s : State) (t : Tx) (drop : Bool) : State :=
  let lines := ((touches t).flatMap rangeLines).foldl addOnce []
  let s := if drop then dropTx s t.id else s
  let retries := s.pool.retries.map fun (q : Nat × List Nat) => (q.1, without q.2 t.id)
  let holds := s.pool.holds.filter fun h => h.2 != t.id
  let s := { s with pool := { s.pool with retries := retries.filter fun q => !q.2.isEmpty, holds } }
  if drop then lines.foldl grantNext s else s

/-- RETRY (R186, R223): the entry stays reserved to (source, tag), and the request joins its line's queue. -/
def answerRetry (s : State) (op : Nat) (m : Msg) (line : Nat) : State :=
  let g := reqRanges op m
  let id := s.pool.nextTx
  let s := newTx s { id, source := m.src, tag := m.tag.toNat, work := .req op m, stage := .reserved false, reads := g.1, writes := g.2 }
  answer { s with pool := { s.pool with retries := alMod s.pool.retries line [] fun q => q ++ [id] } } m St.retry

/-- The step-10 status that a request of a kind in R223 has before RETRY, where it can be judged now (R586). -/
def earlyStatus (s : State) (op : Nat) (m : Msg) : Option Nat :=
  let l := m.address.toNat / 128
  if isPoisoned s l then some St.poisoned
  else if op = Op.upgrade ∧ upgradePlain s m.src m then none
  else lineGap s l

/-! ### Step 10 for lines -/

/-- A request on lines takes its tracker entry (R184), or is answered RETRY where its line is busy, held, or due to an earlier requester
(R223, R224, R225). -/
def admitLine (s : State) (op : Nat) (m : Msg) : State :=
  let l := m.address.toNat / 128
  let held := (alGet s.pool.holds l).isSome
  let mine := s.pool.txs.any fun t => isReserved t && t.source == m.src && (touches t).any fun g => inRange g l
  let queued := !(alGetD s.pool.retries l []).isEmpty
  if isRetryKind op ∧ (lineBusy s l s.pool.nextTx ∨ held ∨ queued ∨ mine) then
    match earlyStatus s op m with
    | some st => answer s m st
    | none => answerRetry s op m l
  else
    let g := reqRanges op m
    let t : Tx := { id := s.pool.nextTx, source := m.src, tag := m.tag.toNat, work := .req op m, reads := g.1, writes := g.2 }
    let s := newTx s t
    if heldShadow s t then bump s Reg.scrShadowWaitLo 1 else s

/-- A reissue takes up its reservation (R186, R224); one whose grant has not gone out is answered RETRY again. -/
def admitReissue (s : State) (t : Tx) (op : Nat) (m : Msg) : State :=
  if t.stage = .reserved true then
    let s := releaseReservation s t false
    let g := reqRanges op m
    let n := s.pool.nextTx
    setTx { s with pool := { s.pool with nextTx := n + 1 } } t.id fun t =>
      { t with work := .req op m, stage := .waiting, ord := n, reads := g.1, writes := g.2 }
  else complete s m St.retry [] false false true

/-- The entry reserved for a request's source and tag. -/
def reservedFor (s : State) (m : Msg) : Option Tx :=
  s.pool.txs.find? fun t => t.isReq && t.source == m.src && t.tag == m.tag.toNat && isReserved t

/-- A request stopped at steps 5 to 9: a reissue's reservation goes with it (R186). -/
def stopAt (s : State) (m : Msg) (status : Nat) : State :=
  let s :=
    if isReissue s m then
      match reservedFor s m with
      | some t => releaseReservation s t true
      | none => s
    else s
  answer s m status

/-! ### REGISTER (R204), failed endpoints (R233), PAIR_RESET (R182, R207, R262) -/

/-- REG_REFUSED (R244). -/
def regRefused (s : State) (m : Msg) : State := raise s Reg.cohEventStatus 3 1 ((listedSlot s m.src).getD noUnit) []

/-- REGISTER executes (R204): its status; a FAILED slot needs a PAIR_RESET first (R233). -/
def runRegister (s : State) (m : Msg) : Nat × State :=
  match listedSlot s m.src with
  | none => (St.accessDenied, regRefused s m)
  | some i =>
    let x := slotOf s i
    if x.st = .failed then (St.unsupported, s)
    else if slotLive x then (St.malformed, regRefused s m)
    else
      let s := clearSlot s i .registered
      (St.ok, logSlot (setSlot s i fun x => { x with ep := m.src, setsLog2 := setsLog2Of m, ways := wayOf m + 1 }) i)

/-- Whether an entry's contribution waits at its Trowel unit's input (R334). -/
def atTrowel (s : State) (id : Nat) : Bool :=
  s.trw.groups.any fun g => g.2.epochs.any fun e => e.chunks.any fun k => k.atInput.any fun w => w.1 == id

/-- A failed endpoint's entry is freed (R233), but for a contribution that waits at its Trowel's input, which is added and kept (R346). DEDUCED,
log entry 243. Its lines stay busy until the other holders have answered the snoops it sent, whose data is
taken (R215, R218). -/
def entryGone (s : State) (t : Tx) : State :=
  if isReserved t then releaseReservation s t true
  else if atTrowel s t.id then s
  else
    match t.snoops with
    | [] => dropTx s t.id
    | x :: _ =>
      setTx s t.id fun t =>
        { t with source := 0, tag := 0, work := .recall x.line, stage := .snooping, toSnoop := [], reads := [],
                 writes := t.snoops.map fun y => (y.line, 1), fenced := false }

/-- An endpoint declared failed: the six steps of R233. -/
def epFailed (s : State) (slot : Nat) : State :=
  let ep := (slotOf s slot).ep
  let owned := ((allRecs s).filter fun r => r.slot == slot && isOwner r).map fun r => r.it.line
  let jobs := (owned.filterMap fun l => (winOfLine s l).map fun w => w.key.job).foldl addOnce []
  let s := owned.foldl poisonLine s
  let s := setSlot (clearSlot s slot .failed) slot fun x => { x with ep }
  let s := s.pool.txs.foldl (fun s t =>
    let s := setTx s t.id fun t => { t with toSnoop := t.toSnoop.filter fun x => x.ep != ep }
    (t.snoops.filter fun x => x.ep == ep).foldl (fun s x => snoopAnswered s t.id x none) s) s
  let s := setSrc s ep fun x => { x with held := [], kept := [] }
  let s := (s.pool.txs.filter fun t => t.isReq && t.source == ep).foldl entryGone s
  let s := jobs.foldl (fun s j => addHook s (.frost j 0 (selfEp s) 2)) s
  addHook (raise s Reg.cohEventStatus 0 2 slot (det 3 ep ++ det 4 owned.length)) (.epLost ep)

/-- A PAIR_RESET from a registered endpoint unregisters it (R207), and one from a FAILED one, which may then register again (R233).
DEDUCED, log entry 209. -/
def resetSlot (s : State) (ep : Nat) : State :=
  match slotOfEp s ep with
  | none => s
  | some i =>
    let x := slotOf s i
    if x.st = .unregistered then s
    else
      let s := if x.st = .failed ∨ x.recs.isEmpty then s else epFailed s i
      clearSlot s i .unregistered

/-- An accepted PAIR_RESET (R182): what is held, behind an ACQ request too (R265), is discarded; its completion waits for the pair's running transactions (R262). -/
def acceptReset (s : State) (m : Msg) : State :=
  let ep := m.src
  let s := setSrc s ep fun x =>
    { x with expect := (m.seq.toNat + 1) % two32, held := [], kept := [], lastReset := some (m.tag.toNat, m.seq.toNat) }
  let s := { s with trw := { s.trw with offslot := s.trw.offslot.filter fun x => x.1 != ep } }
  let s := (s.pool.txs.filter fun t => t.isReq && t.source == ep && isReserved t).foldl (fun s t => releaseReservation s t true) s
  let s := (s.pool.txs.filter fun t => t.isReq && t.source == ep && behindAcq s t).foldl (fun s t => dropTx s t.id) s
  let s := resetSlot s ep
  let f := fun (t : Tx) => if t.isReq && t.source == ep then { t with keep := false } else t
  let s := { s with pool := { s.pool with txs := s.pool.txs.map f } }
  resetMayEnd (setSrc s ep fun x => { x with resetWait := some m }) ep

/-- A PAIR_RESET arrives (R182): steps 1, 2 and 4; a retransmission is answered with the kept completion. -/
def receiveReset (s : State) (m : Msg) : State :=
  if !wellReceived Op.pairReset m then bump s Reg.poolDropLo 1
  else if !homeServes s then s
  else if paired s ∧ seqTwin m.src ≠ myTwin s then toPartner s (.forward Op.pairReset m) 36
  else if creditsOf s m.src = 0 then complete s m St.accessDenied [] false false false
  else
    let s := countExcess s m
    if !(headerOk s Op.pairReset m false false && lineFormat Op.pairReset m) then answer s m St.malformed
    else if (srcOf s m.src).lastReset = some (m.tag.toNat, m.seq.toNat) then
      match (srcOf s m.src).kept.find? fun c => c.tag == m.tag.toNat && c.seq == m.seq.toNat with
      | some c => sendCpl s c
      | none => s
    else acceptReset s m

end Sys2Proof.Machine
end

