-- ==== Sys2Proof/Machine/Answers.lean ====
section
/-! DEFINITION. Answers to the Volinar's own requests (spec/06 R187, R189 to R192, spec/09 R267, R270): completions, timeouts, failed
targets, and the background work on 64 KiB units they carry (R171, R172, R189). -/

namespace Sys2Proof.Machine

open Sys2Proof

/-! ### Background work on units -/

/-- The tier place of a unit's bytes in the capacity tier, if they lie there: whether landed, and the key of its address. -/
def unitPlace (s : State) (unit : Nat) : Option (Bool × Nat) :=
  match winOfLine s (512 * unit) with
  | none => none
  | some w =>
    if w.policy = 1 then some (false, unit)
    else if (w.policy = 2 ∨ w.policy = 3) ∧ (mapOf s unit).st = .landed then some (true, (mapOf s unit).slot)
    else none

/-- A unit's 16 pages are read from its best copy. -/
def readUnitPages (s : State) (t : Tx) (unit : Nat) : State :=
  match unitPlace s unit, bestCopy s unit with
  | some (landed, key), some i =>
    (List.range 16).foldl (fun s k =>
      request s ((capTrayEp s i).getD 0) Op.trayRead 0 {} 0 ((Config.trayAddr i landed key + 4096 * k) % 2 ^ 44) (beBytes 2 4096 ++ [0, 0])
        (.copyRead t.id k i)) s
  | _, _ => outcome s t.id St.notReady []

/-- A unit's 16 pages are written to trays. -/
def writeUnitPages (s : State) (t : Tx) (unit : Nat) (trays : List Nat) (page : Nat → List Byte) : State :=
  match unitPlace s unit with
  | some (landed, key) =>
    trays.foldl (fun s i =>
      (List.range 16).foldl (fun s k =>
        request s ((capTrayEp s i).getD 0) Op.trayWrite 0 {} 0 ((Config.trayAddr i landed key + 4096 * k) % 2 ^ 44) (page k)
          (.copyWrite t.id k i)) s) s
  | none => s

/-- The 64 KiB that a transaction has read page by page. -/
def unitPages (t : Tx) : List Byte := (List.range 16).flatMap fun k => padTo (alGetD t.got k []) 4096 0

/-- A unit's stored bytes under the old pair turned into those under the new one (R487). -/
def rekeyBytes (s : State) (slot unit : Nat) (bytes : List Byte) : List Byte :=
  let k := keySlotOf s slot
  (List.range 512).flatMap fun i =>
    let l := 512 * unit + i
    Config.xtsEncrypt (k.pair.getD []) (lineTweak s l) (Config.xtsDecrypt (k.old.getD []) (lineTweak s l) (slice bytes (128 * i) 128))

/-- A unit's last page came: it goes on to where the work takes it. -/
def pagesRead (s : State) (t : Tx) : State :=
  let bytes := unitPages t
  match t.work with
  | .restore unit target => setTx (writeUnitPages s t unit [target] fun k => slice bytes (4096 * k) 4096) t.id fun t => { t with status := some St.ok }
  | .rekey slot unit =>
    let b := rekeyBytes s slot unit bytes
    setTx (writeUnitPages s t unit (copiesOf s unit) fun k => slice b (4096 * k) 4096) t.id fun t => { t with status := some St.ok }
  | .migrate unit =>
    let poison := (s.coh.poison.filter fun l => unitOfLine l == unit).map fun l => l % 512
    let data := (List.range 512).flatMap fun i =>
      let l := 512 * unit + i
      if zeroed s l then tierEncode s l (List.replicate 128 0) else slice bytes (128 * i) 128
    let s := enqueueRow s 2 { unit := some unit, data, poison, serial := 0, temp := 2, reloc := some (mapOf s unit).serial }
    outcome s t.id St.ok []
  | _ => s

/-- A marked unit goes to the partner (R189): pages whose lines are all good as one MIRROR_WRITE each, else line by line. -/
def sendResync (s : State) (t : Tx) (win unit : Nat) : State :=
  match winFor s t.id win with
  | none => outcome s t.id St.notMapped []
  | some w =>
    let good := fun (l : Nat) => !isPoisoned s l && !t.bad.any fun b => b.1 == l
    let put := fun (s : State) (l n : Nat) =>
      request s w.partner Op.mirrorWrite 0 w.key 0 (w.mbase + (128 * l - w.base))
        ((List.range n).flatMap fun i => padTo (lineData s t (l + i)) 128 0) (.resyncWrite t.id win)
    let s := (List.range 16).foldl (fun s k =>
      let l := 512 * unit + 32 * k
      if (List.range 32).all fun i => good (l + i) then put s l 32
      else (List.range 32).foldl (fun s i => if good (l + i) then put s (l + i) 1 else s) s) s
    setTx s t.id fun t => { t with status := some St.ok }

/-- The plaintext of a unit written to its stream under the new pair (R487); the work waits until it is programmed. -/
def rekeyDense (s : State) (t : Tx) (slot unit : Nat) : State :=
  match dataStatus s t [] with
  | some st => outcome s t.id st []
  | none =>
    let e := mapOf s unit
    if e.st ≠ .dense then outcome s t.id St.ok []
    else
      let k := (keySlotOf s slot).pair.getD []
      let data := (List.range 512).flatMap fun i =>
        let l := 512 * unit + i
        Config.xtsEncrypt k (lineTweak s l) (padTo (lineData s t l) 128 0)
      let poison := (s.coh.poison.filter fun l => unitOfLine l == unit).map fun l => l % 512
      let s := enqueueRow s e.temp { unit := some unit, data, poison, serial := 0, temp := e.temp, lines := [512 * unit] }
      setTx (outcome s t.id St.ok []) t.id fun t => { t with wbs := [512 * unit] }

/-- A sealed window's unit encrypted again at the point of coherence (R487, R489). -/
def rekeySealed (s : State) (t : Tx) (w : Win) (slot unit : Nat) : State :=
  let k := keySlotOf s slot
  let lines := ((List.range 512).map fun i => 512 * unit + i).filter fun l => !isPoisoned s l && !t.bad.any fun b => b.1 == l
  let s := lines.foldl (fun s l =>
    let plain := Config.xtsDecrypt (k.old.getD []) (sealTweak k w l) (padTo (lineData s t l) 128 0)
    txWrite s t l (Config.xtsEncrypt (k.pair.getD []) (sealTweak k w l) plain)) s
  outcome s t.id St.ok []

/-- A unit is re-keyed where it lies (R487). -/
def rekeyUnit (s : State) (t : Tx) (slot unit : Nat) : State :=
  match winOfLine s (512 * unit) with
  | none => outcome s t.id St.ok []
  | some w =>
    if (sealedSlot s w.id).isSome then rekeySealed s t w slot unit
    else if (unitPlace s unit).isSome then readUnitPages s t unit
    else rekeyDense s t slot unit

/-- Internal work whose lines are its own begins. -/
def workReady (s : State) (t : Tx) : State :=
  match t.work with
  | .restore unit _ => readUnitPages s t unit
  | .migrate unit => readUnitPages s t unit
  | .rekey slot unit => rekeyUnit s t slot unit
  | .resync win unit => sendResync s t win unit
  | .dereg _ => outcome s t.id St.ok []
  | .sweep _ => outcome s t.id St.ok []
  | .recall _ => outcome s t.id St.ok []
  | _ => s

/-- A job's sweep left no record: SWEPT, FROST_SWEPT (R565). -/
def sweepEnded (s : State) (job : Nat) : State :=
  let s := { s with ras := { s.ras with jobs := alMod s.ras.jobs job {} fun j => { j with swept := true } } }
  raise s Reg.rasEventStatus 5 (alGetD s.ras.jobs job {}).cls job []

/-- Internal work that ended: restore gives the unit its second copy, resync unmarks it, the sweeps finish (R172, R189, R206, R565). -/
def workEnded (s : State) (w : Work) (status : Nat) : State :=
  match w with
  | .restore unit target =>
    if status = St.ok then
      let good := copiesOf s unit
      setCapUnit s unit fun u => { u with copies := some (good ++ [target]) }
    else s
  | .resync win unit =>
    if status = St.ok ∧ (winSt s win).mirror = .resync then
      let s := setWin s win fun x => { x with marked := without x.marked unit }
      if (winSt s win).marked.isEmpty then setWin s win fun x => { x with mirror := .paired } else s
    else s
  | .dereg slot => clearSlot s slot .unregistered
  | .sweep job => sweepEnded s job
  | _ => s

/-! ### Capacity trays -/

/-- TRAY_IDENT's answer (R191): a tray of more than 16 TiB, or of another line size, is refused. -/
def capIdentified (s : State) (tray : Nat) (b : List Byte) : State :=
  let bytes := beAt b 0 8
  if 2 ^ 44 < bytes ∨ beAt b 8 2 ≠ 128 then
    raise (setCapTray s tray fun x => { x with st := 3 }) Reg.poolEventStatus 3 1 tray []
  else setCapTray s tray fun x => { x with st := 2, bytes, maxOut := beAt b 10 2 }

/-- What an unanswered request to a failed capacity tray leaves (R172). -/
def trayOutLost (s : State) (o : OutReq) : State :=
  match o.purpose with
  | .trayFill line _ =>
    match tierOf s line with
    | .capacity landed key => trayFill s line landed key o.cls
    | _ => capacityLost s line
  | .trayWrite line tray => trayWriteEnded (loseCopy s (unitOfLine line) tray) line
  | .mapRead page _ =>
    match lessBusy s (mapCopies s page) with
    | some i => request s ((capTrayEp s i).getD 0) Op.trayRead o.cls {} 0 (mapAddr i page) (beBytes 2 4096 ++ [0, 0]) (.mapRead page i)
    | none => mapArrived s page
  | .copyRead t _ _ => outcome s t St.notReady []
  | .copyWrite t _ _ => outcome s t St.notReady []
  | _ => s

/-- The 64 KiB units that the capacity tier holds: those of CAPACITY windows, and landed ones (R170). -/
def capUnitsHeld (s : State) : List Nat :=
  ((wins s).filter fun w => w.policy == 1).flatMap (fun w => (List.range (w.size / 65536)).map fun i => w.base / 65536 + i) ++
    (s.dns.map.filter fun e => e.2.st == .landed).map Prod.fst

/-- The lines of a unit whose last copy is gone are poisoned (R172); the HBM's own lines, and those that read as zeros, lose nothing. -/
def poisonUnit (s : State) (unit : Nat) : State :=
  ((List.range 512).map fun i => 512 * unit + i).foldl (fun s l => if inHbm s l || zeroed s l then s else poisonLine s l) s

/-- A capacity tray failed: every read goes to another copy, the lines that only it held are poisoned (R172, R187). -/
def capTrayFailed (s : State) (tray ep : Nat) : State :=
  let lost := s.pool.outs.filter fun o => o.target == ep
  let alone := (capUnitsHeld s).filter fun u => goodCopies s u == [tray]
  let s := setCapTray s tray fun x => { x with st := 4 }
  let s := { s with pool := { s.pool with outs := s.pool.outs.filter fun o => o.target != ep } }
  alone.foldl poisonUnit (lost.foldl trayOutLost s)

/-! ### Mirror partners -/

/-- The partner could not give the data either: a line request ends with the status it had, other work goes on without (R190). -/
def mirrorMissed (s : State) (t : Tx) : State :=
  match t.work with
  | .req op _ =>
    if isLineOp op then outcome s t.id (t.mirrorRead.getD St.poisoned) []
    else setTx s t.id fun t => { t with stage := .ready, noMirror := true, mirrorRead := none }
  | _ => setTx s t.id fun t => { t with stage := .ready, noMirror := true, mirrorRead := none }

/-- A partner failed: its primaries enter SINGLE; writes that waited for it are complete at the primary only, reads keep the status
they had, resynchronisation stops (R187, R189). -/
def partnerFailed (s : State) (ep : Nat) : State :=
  let lost := s.pool.outs.filter fun o => o.target == ep
  let s := { s with pool := { s.pool with outs := s.pool.outs.filter fun o => o.target != ep } }
  let s := ((wins s).filter fun w => w.mirror && !w.secondary && w.partner == ep).foldl enterSingle s
  lost.foldl (fun s o =>
    match o.purpose with
    | .mirrorOp t win =>
      match txOf s t, winFor s t win with
      | some x, some w =>
        let s := setTx s t fun t => { t with degraded := true }
        if o.opcode = Op.mirrorFlush then s else (touches x).foldl (fun s g => markUnits s w g) s
      | _, _ => s
    | .mirrorRead t _ =>
      match txOf s t with
      | some x => mirrorMissed s x
      | none => s
    | .resyncWrite t _ => setTx s t fun t => { t with status := some St.notReady }
    | _ => s) s

/-- A partner's answer to a mirror opcode (R188, R189): NOT_MAPPED and ACCESS_DENIED break the mirror. -/
def mirrorAnswered (s : State) (o : OutReq) (tx win status : Nat) : State :=
  match winFor s tx win with
  | none => dropOut s o.target o.tag
  | some w =>
    if status = St.ok then dropOut s o.target o.tag
    else if status = St.notMapped ∨ status = St.accessDenied then
      let s := raise (dropOut s o.target o.tag) Reg.poolEventStatus 2 1 win []
      let s := enterSingle s w
      match txOf s tx with
      | some t =>
        let s := setTx s tx fun t => { t with degraded := true }
        (touches t).foldl (fun s g => if o.opcode = Op.mirrorFlush ∨ o.opcode = Op.mirrorRead then s else markUnits s w g) s
      | none => s
    else s

/-- The data of a MIRROR_READ repairs the lines that were bad, and the read is served (R190). -/
def mirrorReadDone (s : State) (tx win addr : Nat) (data : List Byte) : State :=
  match txOf s tx, winFor s tx win with
  | some t, some w =>
    let g := ((addr - w.mbase + w.base) / 128, data.length / 128)
    let s := (rangeLines g).foldl (fun s l =>
      let b := slice data (128 * (l - g.1)) 128
      if isPoisoned s l ∨ t.bad.any (fun x => x.1 == l) then writeLine (makeRoom s l (txCls t)) l b else s) s
    setTx s tx fun t =>
      { t with stage := .ready, fromMirror := true, mirrorRead := none, bad := t.bad.filter fun b => !inRange g b.1 }
  | _, _ => s

/-! ### Completions -/

/-- A request answered BUSY or NOT_READY waits for its retry (R191, R267). -/
def refusedNow (s : State) (o : OutReq) : State :=
  setOut s o.target o.tag fun o => { o with busyWait := true, busySince := some (o.busySince.getD (tickNow s)) }

/-- A completed bridge request (R267 to R273). -/
def bridgeAnswered (s : State) (o : OutReq) (status : Nat) (b : List Byte) : State :=
  if status = St.busy ∨ status = St.notReady then refusedNow s o
  else
    match o.purpose with
    | .brIdent tray => if status = St.ok then trayIdentified (dropOut s o.target o.tag) tray b else s
    | .brFetch tray j =>
      if status ≠ St.ok then s
      else
        let s := dropOut s o.target o.tag
        match jobOf s j with
        | some (.sector t e sd k n 3 _ _ why) =>
          let pl := sectorPlace (denseGeom s) sd k
          let s := brRequest s t Op.brFetch e pl.1 (4624 * pl.2 + 4096) (beBytes 2 528 ++ [0, 0]) (.brFetch tray j)
          setJob s j (.sector t e sd k n 4 0 b why)
        | some (.sector t e sd k n 4 _ raw why) => sectorFetched s j t e sd k n (raw ++ b) why
        | _ => s
    | .brLoad _ j =>
      if status ≠ St.ok then s
      else
        let s := dropOut s o.target o.tag
        match jobOf s j with
        | some (.program st sd m t e page loads ph g ent) => setJob s j (.program st sd m t e page (loads + 1) ph g ent)
        | some (.erase t e page loads ph g) => setJob s j (.erase t e page (loads + 1) ph g)
        | _ => s
    | .brProgram _ j =>
      if status = St.ok then dropOut s o.target o.tag
      else if status = St.eraseState then programRefused (dropOut s o.target o.tag) j
      else s
    | .brHealth _ j =>
      if status ≠ St.ok then s
      else
        let s := bump (dropOut s o.target o.tag) Reg.dnsMediaTimeoutLo 1
        match jobOf s j with
        | some m => mediaEnded s j m true
        | none => s
    | _ => if status = St.ok then dropOut s o.target o.tag else s

/-- A completed request to a capacity tray (R191, R192). -/
def trayAnswered (s : State) (o : OutReq) (status : Nat) (b : List Byte) : State :=
  if status = St.busy then refusedNow s o
  else
    match o.purpose with
    | .trayIdent tray => if status = St.ok then capIdentified (dropOut s o.target o.tag) tray b else s
    | .trayFill line _ =>
      if status = St.ok then fillArrived (dropOut s o.target o.tag) line (tierDecode s line (padTo b 128 0))
      else if status = St.poisoned then fillFailed (dropOut s o.target o.tag) line St.poisoned
      else s
    | .trayWrite line _ => if status = St.ok then trayWriteEnded (dropOut s o.target o.tag) line else s
    | .mapRead page _ => if status = St.ok ∨ status = St.poisoned then mapArrived (dropOut s o.target o.tag) page else s
    | .copyRead t k _ =>
      if status = St.ok ∨ status = St.poisoned then
        let s := dropOut s o.target o.tag
        if status = St.poisoned then outcome s t St.poisoned []
        else
          let s := setTx s t fun t => { t with got := alSet t.got k b }
          match txOf s t with
          | some x => if x.got.length = 16 then pagesRead s x else s
          | none => s
      else s
    | _ => if status = St.ok then dropOut s o.target o.tag else s

/-- The partner has answered the PAIR_RESET: its primaries that are SINGLE enter RESYNC, one with no unit marked is PAIRED again (R189). -/
def resyncStarts (s : State) (ep : Nat) : State :=
  ((wins s).filter fun w => w.partner == ep && mirSt s w == .single).foldl (fun s w =>
    setWin s w.id fun x => { x with mirror := if x.marked.isEmpty then .paired else .resync }) s

/-- An outstanding request was completed with a status (R187). A status that its own rule does not take leaves it to its timer. -/
def answered (s : State) (o : OutReq) (status : Nat) (b : List Byte) : State :=
  match o.purpose with
  | .trayIdent _ => trayAnswered s o status b
  | .trayFill _ _ => trayAnswered s o status b
  | .trayWrite _ _ => trayAnswered s o status b
  | .copyRead _ _ _ => trayAnswered s o status b
  | .copyWrite _ _ _ => trayAnswered s o status b
  | .landWrite _ _ _ => trayAnswered s o status b
  | .mapRead _ _ => trayAnswered s o status b
  | .mapWrite _ _ => trayAnswered s o status b
  | .brIdent _ => bridgeAnswered s o status b
  | .brSense _ _ => bridgeAnswered s o status b
  | .brFetch _ _ => bridgeAnswered s o status b
  | .brLoad _ _ => bridgeAnswered s o status b
  | .brProgram _ _ => bridgeAnswered s o status b
  | .brErase _ _ => bridgeAnswered s o status b
  | .brRelease _ => bridgeAnswered s o status b
  | .brHealth _ _ => bridgeAnswered s o status b
  | .mirrorOp t w => mirrorAnswered s o t w status
  | .resyncWrite t w => mirrorAnswered s o t w status
  | .mirrorRead t w =>
    if status = St.ok then mirrorReadDone (dropOut s o.target o.tag) t w o.address b
    else
      let s := mirrorAnswered (dropOut s o.target o.tag) o t w status
      match txOf s t with
      | some x => mirrorMissed s x
      | none => s
  | .pairReset _ => if status = St.ok then resyncStarts (dropOut s o.target o.tag) o.target else s
  | _ => addHook (dropOut s o.target o.tag) (.answered o status b)

/-- The capacity tray behind an endpoint. -/
def capTrayAt (s : State) (ep : Nat) : Option Nat := ((coat s).pool.trays.find? fun t => t.2 == ep).map fun t => t.1

/-- The dense tray behind an endpoint. -/
def denseTrayAt (s : State) (ep : Nat) : Option Nat := ((coat s).dense.trays.find? fun t => t.ep == ep).map DenseEnt.index

/-- A COMPLETION of a request of the Volinar's own arrives: matched by TAG and SEQUENCE (R179, R187). -/
def completionRx (s : State) (m : Msg) : State :=
  if !wellReceived Op.completion m then bump s Reg.poolDropLo 1
  else
    match outOf s m.src m.tag.toNat with
    | some o => if o.seq = m.seq.toNat then answered s o (statusFrom (denseTrayAt s o.target).isSome m.flags.toNat) m.body else s
    | none => s

/-! ### Timeouts (R187) -/

/-- A target that failed after its last retransmission: a class 2 fault (R187). -/
def targetFailed (s : State) (o : OutReq) : State :=
  let s := permanentFault s
  let detail := det 3 o.target ++ det 1 o.opcode
  match capTrayAt s o.target, denseTrayAt s o.target with
  | some i, _ => capTrayFailed (raise s Reg.poolEventStatus 4 2 noUnit detail) i o.target
  | none, some i => denseTrayDown (raise s Reg.poolEventStatus 4 2 noUnit detail) i 2
  | none, none =>
    let s := raise s Reg.poolEventStatus 5 2 noUnit detail
    if (wins s).any fun w => w.mirror && !w.secondary && w.partner == o.target then partnerFailed s o.target
    else
      let lost := s.pool.outs.filter fun x => x.target == o.target
      let s := { s with pool := { s.pool with outs := s.pool.outs.filter fun x => x.target != o.target } }
      lost.foldl (fun s x => addHook s (.failed x)) (addHook s (.epLost o.target))

/-- The timer of an outstanding request expires: retransmitted, or after RETRIES the target has failed. -/
def outTimeout (s : State) (target tag : Nat) : State :=
  match outOf s target tag with
  | some o =>
    if o.busyWait then s
    else if o.resends < coatFld s Reg.poolTimeout 0 10 3 then resendOut s o
    else targetFailed s o
  | none => s

/-- A request that was refused goes out again as a new one (R191, R267). -/
def retryOut (s : State) (target tag : Nat) : State :=
  match outOf s target tag with
  | some o => if o.busyWait then sendAgain s o else s
  | none => s

end Sys2Proof.Machine
end

