-- ==== Sys2Proof/Machine/Trowel.lean ====
section
/-! DEFINITION. In-network reduction (spec/10): groups as the coat gives them, the arithmetic of the Trowel (R323 to R328), gauges
(R337 to R340), staging and its order (R330 to R332), emission (R333), epochs (R319), late and failed contributors (R341, R342). -/

namespace Sys2Proof.Machine

open Sys2Proof

/-! ### Groups of a coat -/

/-- A group of a coat, if it is in use (R348 VALID). -/
def grpIn (c : Coat) (g : Nat) : Option Grp :=
  let r := fun a => coatRegIn c.regs a g
  let cfg := r Reg.trwGrpCfg
  let op := r Reg.trwGrpOp
  let timers := r Reg.trwGrpTimers
  let rub := r Reg.gthRubCfg
  let wide := fun lo hi => (r lo + two32 * r hi) % 2 ^ 56
  if !bit cfg 28 then none
  else
    some { id := g, root := bit cfg 12, exclude := bit cfg 13, gauge := fld cfg 14 14, op := fld op 0 3, fast := bit op 3, inF := fld op 4 4,
           inMx := bit op 8, outF := fld op 9 4, partF := fld op 13 4, ce := 32 * (if fld op 17 7 = 0 then 128 else fld op 17 7),
           elems := (r Reg.trwGrpElemsLo + two32 * r Reg.trwGrpElemsHi) % 2 ^ 41, key := keyOfWord (r Reg.trwGrpKey),
           lateUs := fld timers 0 14, failMs := fld timers 14 14, parent := fld (r Reg.trwGrpParent) 0 20,
           dest := fld (r Reg.trwGrpDown) 0 3, repl := fld (r Reg.trwGrpDown) 3 16, mcast := fld (r Reg.trwGrpMcast) 0 20,
           resultBase := wide Reg.trwGrpResultLo Reg.trwGrpResultHi, reserve := fld (r Reg.trwGrpReserve) 0 16,
           table := (c.reduction.tables.lookup g).getD [], opt := fld rub 0 2, bcast := fld rub 2 4, bcastMx := bit rub 6,
           compress := bit rub 7, tileFirst := fld rub 8 7, tileCount := fld rub 15 7, wBase := wide Reg.gthRubWLo Reg.gthRubWHi,
           mBase := wide Reg.gthRubMLo Reg.gthRubMHi, vBase := wide Reg.gthRubVLo Reg.gthRubVHi,
           param := wide Reg.gthRubParamLo Reg.gthRubParamHi, ring := fld (r Reg.gthRubRing) 0 16 }

/-- The groups of a coat that are in use. -/
def grpsIn (c : Coat) : List Grp := ((selsOf c.regs Reg.trwGrpCfg Reg.trwGrpCfg).filter (· < indexMax)).filterMap (grpIn c)

/-- Chunks of an epoch (R318). -/
def Grp.chunks (x : Grp) : Nat := ceilDiv x.elems x.ce

/-- Elements of a chunk: the last one holds the rest (R318). -/
def Grp.elemsOf (x : Grp) (c : Nat) : Nat := min x.ce (x.elems - c * x.ce)

/-- Whether the group's input is an integer format (R322). -/
def Grp.isInt (x : Grp) : Bool := (fmtOf x.inF).int && !x.inMx

/-- Whether a group keeps FP32 accumulators: floating SUM and PRODUCT in fast mode (R328). -/
def Grp.isFast (x : Grp) : Bool := x.fast && x.op ≤ 1 && !x.isInt

/-- The staging bytes of a chunk (R330). -/
def Grp.stageBytes (x : Grp) : Nat := x.ce * if x.isFast then 4 else 16

/-- The format a chunk emits in (R327). -/
def Grp.emitF (x : Grp) : Nat := if x.root then x.outF else x.partF

/-- The bytes of one output element. -/
def Grp.outBytes (x : Grp) : Nat := (fmtOf x.outF).bits / 8

/-- The number of ranks. -/
def Grp.ranks (x : Grp) : List Nat := List.range x.table.length

/-- A group's state. -/
def grpSt (s : State) (g : Nat) : GrpSt := alGetD s.trw.groups g {}

/-- A group's state changed. -/
def setGrp (s : State) (g : Nat) (f : GrpSt → GrpSt) : State :=
  { s with trw := { s.trw with groups := alSet s.trw.groups g (f (grpSt s g)) } }

/-- An epoch of a group that is open or not yet counted. -/
def epochOf (s : State) (g e : Nat) : Option Epoch := (grpSt s g).epochs.find? fun x => x.num == e && !x.closed

/-- An epoch changed. -/
def setEpoch (s : State) (g e : Nat) (f : Epoch → Epoch) : State :=
  setGrp s g fun x => { x with epochs := x.epochs.map fun y => if y.num = e then f y else y }

/-- A chunk in staging changed. -/
def setChunk (s : State) (g e c : Nat) (f : Chunk → Chunk) : State :=
  setEpoch s g e fun x => { x with chunks := x.chunks.map fun y => if y.idx = c then f y else y }

/-- A chunk in staging. -/
def chunkOf (s : State) (g e c : Nat) : Option Chunk := (epochOf s g e).bind fun x => x.chunks.find? fun y => y.idx == c

/-- Whether a job is in frost. -/
def inFrost (s : State) (job : Nat) : Bool := (alGetD s.ras.jobs job {}).frost

/-! ### Arithmetic (R323 to R328) -/

/-- The lowest set bit position of a number that is not zero. -/
def lowBit (m : Nat) : Nat := ((List.range (Nat.log2 m + 1)).find? fun i => m.testBit i).getD 0

/-- An integer in units of 2^q from units of 2^p, for q at or below p. -/
def rescale (v p q : Int) : Int := v * ((2 ^ (p - q).toNat : Nat) : Int)

/-- A finite value added into the fast form, or the element spilled (R325); whether it spilled. -/
def addFinite (f : FastForm) (neg : Bool) (m : Nat) (e : Int) : FastForm × Bool :=
  if m = 0 then (f, false)
  else
    let l := e + lowBit m
    let h := e + (Nat.log2 m : Int)
    let v : Int := if neg then -((m >>> lowBit m : Nat) : Int) else (m >>> lowBit m : Nat)
    match f.span with
    | none => ({ f with acc := v, lsb := l, span := some (h, l) }, false)
    | some (h0, l0) =>
      if max h h0 - min l l0 ≤ 90 then
        let q := min l f.lsb
        ({ f with acc := rescale f.acc f.lsb q + rescale v l q, lsb := q, span := some (max h h0, min l l0) }, false)
      else
        ({ f with wide := some (f.wide.getD 0 + rescale f.acc f.lsb (-149)), spilled := true, acc := v, lsb := l, span := some (h, l) }, true)

/-- An input added in exact mode (R323 to R325); whether the element spilled. -/
def addExact (f : FastForm) (x : Num) : FastForm × Bool :=
  match x with
  | .nan => ({ f with nan := true, nonneg := true }, false)
  | .inf neg => (if neg then { f with negInf := true, nonneg := true } else { f with posInf := true, nonneg := true }, false)
  | .fin neg m e => addFinite { f with nonneg := f.nonneg || !(neg && m == 0) } neg m e

/-- What an exact SUM stands for: round(F + W) is taken of it once (R323, R327). -/
def exactValue (f : FastForm) : Num :=
  if f.nan || (f.posInf && f.negInf) then .nan
  else if f.posInf then .inf false
  else if f.negInf then .inf true
  else
    let q := min f.lsb (-149)
    let v := rescale f.acc f.lsb q + rescale (f.wide.getD 0) (-149) q
    if v = 0 then .fin (!f.nonneg) 0 0 else .fin (decide (v < 0)) v.natAbs q

/-- An integer operation on 128-bit two's complement numbers (R323). -/
def intOp (op a b : Nat) : Nat :=
  match op with
  | 0 => (a + b) % 2 ^ 128
  | 1 => a * b % 2 ^ 128
  | 2 => if signed 128 a < signed 128 b then b else a
  | 3 => if signed 128 b < signed 128 a then b else a
  | 4 => a &&& b
  | 5 => a ||| b
  | _ => a ^^^ b

/-- A value as a 128-bit two's complement number. -/
def wide128 (x : Num) : Nat := unsigned 128 (x.scaled 0)

/-- The accumulator of a first input. -/
def firstAcc (g : Grp) (x : Num) : Acc :=
  if g.isInt then .int (wide128 x)
  else if g.isFast then .f32 (encodeNum fp32 x)
  else if g.op = 0 then .exact (addExact {} x).1
  else .val x

/-- One more input; whether the element spilled. Fast mode rounds each step into FP32 (R328). -/
def addInput (g : Grp) (a : Acc) (x : Num) : Acc × Bool :=
  match a with
  | .int v => (.int (intOp g.op v (wide128 x)), false)
  | .f32 w => (.f32 (if g.op = 0 then f32add w (encodeNum fp32 x) else f32mul w (encodeNum fp32 x)), false)
  | .exact f => let r := addExact f x; (.exact r.1, r.2)
  | .val y => (.val (if g.op = 2 then y.max x else y.min x), false)

/-- The element as it is emitted, rounded once (R323, R327, R328). -/
def emitAcc (fmt : Nat) (a : Acc) : Nat :=
  match a with
  | .int v => v % 2 ^ (fmtOf fmt).bits
  | .f32 w => encodeNum (fmtOf fmt) (decodeNum fp32 w)
  | .exact f => encodeNum (fmtOf fmt) (exactValue f)
  | .val x => encodeNum (fmtOf fmt) x

/-- Whether an element has a wide form. -/
def accSpilled (a : Acc) : Bool :=
  match a with
  | .exact f => f.spilled
  | _ => false

/-- A contribution's values: in IN_FORMAT from an endpoint, in PART_FORMAT from a child (R318). -/
def contribValues (g : Grp) (child : Bool) (n : Nat) (b : List Byte) : List Num :=
  if child then rowValues g.partF n false b else rowValues g.inF n g.inMx b

/-- A contribution added to a chunk's accumulators, and how many elements spilled. -/
def addValues (g : Grp) (accs : List Acc) (xs : List Num) : List Acc × Nat :=
  if accs.isEmpty then (xs.map (firstAcc g), 0)
  else
    let r := accs.zipWith (addInput g) xs
    (r.map (·.1), countBy r (·.2))

/-! ### Gauges (R337 to R340) -/

/-- A gauge's state. -/
def gaugeOf (s : State) (k : Nat) : Gauge := alGetD s.trw.gauges k {}

/-- A gauge changed; a twin's commit record carries it (R513). -/
def setGauge (s : State) (k : Nat) (f : Gauge → Gauge) : State :=
  let x := f (gaugeOf s k)
  let s := { s with trw := { s.trw with gauges := alSet s.trw.gauges k x } }
  if paired s then { s with scr := { s.scr with gaugeLog := s.scr.gaugeLog ++ [(k, x.value, x.next, x.epoch, x.fired)] } } else s

/-- TARGET of a gauge; 0 where it is not in use (R314). -/
def gaugeTarget (s : State) (k : Nat) : Nat := coatReg s Reg.trwGaugeTarget k

/-- RED_CLASS (R347). -/
def redClass (s : State) : Nat := coatFld s Reg.trwCfg 0 10 4

/-- A frame numbered on a multicast pair goes to a replication list (R335). -/
def multicast (s : State) (repl mcast opcode : Nat) (key : Key) (epoch address : Nat) (payload : List Byte) : State :=
  emit (takeSeq s mcast) (.multicast repl
    { opcode, cls := redClass s, source := selfEp s, dest := mcast, seq := nextSeqOf s mcast, key, epoch, address, payload })

/-- ADDRESS of opcodes 0x30 to 0x33 (R316). -/
def redAddr (g elem : Nat) (part : Bool) : Nat := elem + (if part then 2 ^ 41 else 0) + g * 2 ^ 42

/-- The gauge fires: the five steps of R338. -/
def fire (s : State) (k : Nat) : State :=
  let x := gaugeOf s k
  let cfg := coatReg s Reg.trwGaugeCfg k
  let key := keyOfWord (coatReg s Reg.trwGaugeKey k)
  let fired := (x.fired + 1) % two32
  let s := bump s Reg.trwGaugeExcessLo (x.value - gaugeTarget s k)
  let s := setGauge s k fun x =>
    { value := x.next, next := 0, epoch := (x.epoch + 1) % two16, fired, flags := x.nextFlags, bytes := x.nextBytes }
  let s :=
    if bit cfg 16 then
      multicast s (fld cfg 0 16) (coatFld s Reg.trwGaugeMcast k 0 20) Op.gaugeNotify key x.epoch 0
        (beBytes 2 k ++ beBytes 2 x.flags ++ beBytes 8 x.bytes ++ beBytes 4 fired)
    else s
  if bit cfg 17 then
    request s (coatFld s Reg.trwGaugeFwd k 0 20) Op.gaugeInc (redClass s) key x.epoch (redAddr (fld cfg 18 14) 0 false)
      (beBytes 4 1 ++ beBytes 2 x.flags ++ [0, 0] ++ beBytes 8 x.bytes) (.gaugeFwd k)
  else s

/-- The gauge fires for as long as VALUE has reached TARGET (R338); after a firing NEXT is 0, so twice is enough. -/
def fireDue (s : State) (k : Nat) : State :=
  let due := fun (s : State) => gaugeTarget s k ≠ 0 ∧ gaugeTarget s k ≤ (gaugeOf s k).value
  let s := if due s then fire s k else s
  if due s then fire s k else s

/-- An increment of the gauge's EPOCH (R337); that of a gauge staged at the other twin crosses the bridge (R515). -/
def gaugeAdd (s : State) (k amount flags bytes : Nat) : State :=
  if gaugeTarget s k = 0 then s
  else if paired s ∧ k % 2 ≠ myTwin s then emit s (.bridge (.gauge k amount flags bytes))
  else
    fireDue (setGauge s k fun x =>
      { x with value := x.value + amount, flags := x.flags ||| flags, bytes := (x.bytes + bytes) % two64 }) k

/-- An increment of EPOCH + 1 (R337). -/
def gaugeAddNext (s : State) (k amount flags bytes : Nat) : State :=
  setGauge s k fun x =>
    { x with next := (x.next + amount) % two32, nextFlags := x.nextFlags ||| flags, nextBytes := (x.nextBytes + bytes) % two64 }

/-! ### Epochs -/

/-- UNSYNC of a group (R36). -/
def grpUnsync (s : State) (g : Nat) : Bool := (alGetD s.fc g {}).unsync

/-- An epoch that is closed and owes nothing more counts on its gauge (R336, R337, R340, R374). -/
def countEpoch (s : State) (g : Nat) (x : Epoch) : State :=
  let skipped := (x.rub.map RubPar.skip).getD false
  let size := if x.grp.dest = 4 then (fmtOf x.grp.bcast).bits / 8 else x.grp.outBytes
  let bytes := if x.grp.root && !skipped then x.grp.elems * size else 0
  let flags := (if grpUnsync s g then 1 else 0) + (if x.part || !x.excl.isEmpty then 2 else 0) + if x.aborted then 4 else 0
  let s := setGrp s g fun y => { y with epochs := y.epochs.filter fun z => z.num != x.num }
  gaugeAdd s x.grp.gauge 1 flags bytes

/-- An epoch counted if it owes nothing more. -/
def mayCount (s : State) (g e : Nat) : State :=
  match (grpSt s g).epochs.find? fun x => x.num == e with
  | some x => if x.closed ∧ x.left = 0 then countEpoch s g x else s
  | none => s

/-- One of an epoch's results is answered, visible or broadcast. -/
def resultDone (s : State) (g e : Nat) : State := mayCount (setEpoch s g e fun x => { x with left := x.left - 1 }) g e

/-- STRAG_N (R381). -/
def stragN (s : State) : Nat := coatFld s Reg.gthCfg 0 11 8

/-- The straggler records when an epoch closes (R376). -/
def stragglers (s : State) (g : Nat) (x : Epoch) : State :=
  x.grp.ranks.foldl (fun s r =>
    if x.late.contains r then
      let n := min 255 (alGetD (grpSt s g).lateRun r 0 + 1)
      let s := setGrp s g fun y => { y with lateRun := alSet y.lateRun r n }
      if n = stragN s then
        let ep := ((x.grp.table[r]?).map ContribEnt.ep).getD 0
        raise (setGrp s g fun y => { y with flagged := addOnce y.flagged r }) Reg.gthEventStatus 1 1 g
          (det 2 g ++ det 2 r ++ det 3 ep ++ det 2 x.num)
      else s
    else if (alGet (grpSt s g).lateRun r).isSome then
      setGrp s g fun y => { y with lateRun := alErase y.lateRun r, flagged := without y.flagged r }
    else s) s

/-- The oldest open epoch closes once every chunk of it has emitted (R319); the next may then close too. -/
def closeEpochs (fuel : Nat) (s : State) (g : Nat) : State :=
  match fuel with
  | 0 => s
  | n + 1 =>
    let e := (grpSt s g).e
    match epochOf s g e with
    | none => s
    | some x =>
      if x.emitted < x.grp.chunks then s
      else
        let s := setEpoch (setGrp s g fun y => { y with e := (e + 1) % two16 }) g e fun x => { x with closed := true }
        let s := stragglers (bumpSel s Reg.trwGrpEpochs g 1) g x
        closeEpochs n (mayCount s g e) g

/-! ### Staging (R330, R331) -/

/-- The chunks in staging with their groups' settings. -/
def stagedChunks (s : State) : List (Grp × Chunk) :=
  s.trw.groups.flatMap fun (p : Nat × GrpSt) => p.2.epochs.flatMap fun (x : Epoch) => x.chunks.map fun c => (x.grp, c)

/-- Staging bytes in use. -/
def stageUsed (s : State) : Nat := sumBy (stagedChunks s) fun p => p.1.stageBytes

/-- Descriptors in use. -/
def descUsed (s : State) : Nat := (stagedChunks s).length

/-- The reserve chunks that a group's chunks hold. -/
def reserveUsed (s : State) (g : Nat) : Nat := sumBy (grpSt s g).epochs fun x => countBy x.chunks fun c => c.reserved

/-- Shared staging: what no reserve holds, less what shared chunks use (R331). -/
def sharedRoom (s : State) (x : Grp) : Bool :=
  let grps := grpsIn (coat s)
  let shared := (stagedChunks s).filter fun p => !p.2.reserved
  sumBy shared (fun p => p.1.stageBytes) + x.stageBytes + sumBy grps (fun y => y.reserve * y.stageBytes) ≤ 100663296 &&
    decide (shared.length + 1 + sumBy grps (fun y => y.reserve) ≤ 65536)

/-- Where a new chunk's staging comes from: true the reserve, false the shared staging; none where neither has room (R331). -/
def stagePlace (s : State) (x : Grp) (inSlot : Bool) : Option Bool :=
  if inSlot ∧ reserveUsed s x.id < x.reserve then some true else if sharedRoom s x then some false else none

/-- A chunk leaves staging. -/
def freeChunk (s : State) (g e c : Nat) : State :=
  setEpoch s g e fun x => { x with chunks := x.chunks.filter fun y => y.idx != c }

/-! ### Emission (R333) -/

/-- A chunk's result as bytes (R425). -/
def chunkBytes (x : Grp) (c : Chunk) : List Byte := packElems (fmtOf x.emitF).bits (c.accs.map (emitAcc x.emitF))

/-- Whether a chunk is the next that enters the gradient ring, and the ring has room: entries enter in (epoch, ELEMENT) order (R368). -/
def ringOpen (s : State) (g e c : Nat) : Bool :=
  let y := grpSt s g
  match epochOf s g e with
  | some x => decide (y.ring.length < x.grp.ring) && x.emitted == c && y.e == e
  | none => false

/-- A finished chunk's result goes where the group's settings send it, and its staging is freed. -/
def emitChunk (s : State) (g e : Nat) (x : Epoch) (c : Chunk) : State :=
  let data := chunkBytes x.grp c
  let elem := c.idx * x.grp.ce
  let part := x.part || !x.excl.isEmpty
  let addr := redAddr g elem part
  let s := freeChunk s g e c.idx
  let owe := fun (s : State) => setEpoch s g e fun x => { x with left := x.left + 1 }
  let s := setEpoch s g e fun x => { x with emitted := x.emitted + 1 }
  let s :=
    if !x.grp.root then
      request (owe s) x.grp.parent Op.redContrib (redClass s) x.grp.key e addr data (.partialTo g e c.idx)
    else if x.grp.dest = 4 then
      setGrp (owe s) g fun y => { y with ring := y.ring ++ [{ epoch := e, chunk := c.idx, grads := data }] }
    else
      let s := if x.grp.dest % 2 = 1 then multicast s x.grp.repl x.grp.mcast Op.redResult x.grp.key e (redAddr g elem false) data else s
      if 2 ≤ x.grp.dest then
        let a := x.grp.resultBase + elem * x.grp.outBytes
        newTx (owe s) { id := 0, work := .result g e c.idx a data, reads := partLines a data.length, writes := [lineRange a data.length] }
      else s
  closeEpochs 4 s g

/-- A chunk that has every contribution emits; for a RUB it keeps its staging until the ring takes it (R368). -/
def finishChunk (s : State) (g e c : Nat) : State :=
  match epochOf s g e, chunkOf s g e c with
  | some x, some k =>
    if x.grp.root ∧ x.grp.dest = 4 ∧ ringOpen s g e c = false then setChunk s g e c fun k => { k with full := true }
    else emitChunk s g e x k
  | _, _ => s

/-- Chunks that waited for the ring enter it, as far as it has room (R368). -/
def fillRing (fuel : Nat) (s : State) (g : Nat) : State :=
  match fuel with
  | 0 => s
  | n + 1 =>
    let y := grpSt s g
    match epochOf s g y.e with
    | none => s
    | some x =>
      match x.chunks.find? fun k => k.full && k.idx == x.emitted with
      | some k => if ringOpen s g x.num k.idx then fillRing n (emitChunk s g x.num x k) g else s
      | none => s

/-- The ranks that a chunk still waits for. -/
def missingRanks (x : Epoch) (k : Chunk) : List Nat := x.grp.ranks.filter fun r => !x.excl.contains r && !k.got.contains r

/-- After a commit or an exclusion: emission once nothing waits at the Trowel's input, or the read-back of wide forms once one contribution is left (R330, R334). -/
def judgeChunk (s : State) (g e c : Nat) : State :=
  match epochOf s g e, chunkOf s g e c with
  | some x, some k =>
    if k.full || k.atInput.isSome then s
    else if (missingRanks x k).isEmpty then finishChunk s g e c
    else if (missingRanks x k).length = 1 ∧ k.accs.any accSpilled ∧ k.readback = 0 then
      setChunk s g e c fun k => { k with readback := 1 }
    else s
  | _, _ => s

/-! ### Contributions -/

/-- A contribution is added and committed: OK, counted (R315, R325, R344). -/
def commitContrib (s : State) (tx g e c rank : Nat) : State :=
  match txOf s tx, epochOf s g e, chunkOf s g e c with
  | some t, some x, some k =>
    match t.work with
    | .req _ m =>
      let child := ((x.grp.table[rank]?).map ContribEnt.child).getD false
      let r := addValues x.grp k.accs (contribValues x.grp child (x.grp.elemsOf c) m.body)
      let s := setChunk s g e c fun k => { k with accs := r.1, got := k.got ++ [rank], atInput := none }
      let s := bump (bump s Reg.trwSpillLo r.2) Reg.trwContribLo 1
      let s := if m.address.toNat.testBit 41 then setEpoch s g e fun x => { x with part := true } else s
      judgeChunk (outcome s tx St.ok []) g e c
    | _ => s
  | _, _, _ => s

/-- A contribution reaches the Trowel: the last one of a chunk whose wide forms are being read back waits at its input (R334). -/
def addContrib (s : State) (w : CWait) (g : Nat) : State :=
  match epochOf s g w.epoch, chunkOf s g w.epoch w.chunk with
  | some x, some k =>
    if k.readback = 1 ∧ (missingRanks x k).length = 1 then
      setChunk s g w.epoch w.chunk fun k => { k with atInput := some (w.tx, tickNow s) }
    else commitContrib s w.tx g w.epoch w.chunk w.rank
  | _, _ => s

/-- A chunk allocated (R330, R331): the next in order of its epoch, or the first of the next epoch. -/
def allocChunk (s : State) (x : Grp) (e c : Nat) (fromReserve : Bool) : State :=
  let s := setEpoch s x.id e fun y => { y with chunks := y.chunks ++ [{ idx := c, reserved := fromReserve }] }
  setGrp s x.id fun y =>
    if c + 1 < x.chunks then { y with curChunk := c + 1 } else { y with curEpoch := (e + 1) % two16, curChunk := 0 }

/-- A waiting contribution is placed if it can be: to a chunk in staging at once, to a new one when it is the next and there is
room (R331, R332). -/
def tryPlace (s : State) (g : Nat) (w : CWait) : Option State :=
  let y := grpSt s g
  let drop := fun (s : State) => setGrp s g fun y => { y with wait := y.wait.filter fun v => v.tx != w.tx }
  match epochOf s g w.epoch with
  | none => none
  | some x =>
    if x.chunks.any fun k => k.idx == w.chunk then some (addContrib (drop s) w g)
    else if y.curEpoch = w.epoch ∧ y.curChunk = w.chunk then
      (stagePlace s x.grp w.inSlot).map fun r => addContrib (allocChunk (drop s) x.grp w.epoch w.chunk r) w g
    else none

/-- Whether a waiting contribution is the first of its source in its group's queue (R320). -/
def headOfPair (l : List CWait) (w : CWait) : Bool :=
  (l.find? fun v => v.source == w.source).any fun v => v.tx == w.tx

/-- One waiting contribution of a group placed, if any can be. -/
def placeOne (s : State) (g : Nat) : Option State :=
  let l := (grpSt s g).wait
  l.foldl (fun (r : Option State) w =>
    match r with
    | some s => some s
    | none => if headOfPair l w then tryPlace s g w else none) none

/-- Waiting contributions of a group placed as far as staging goes. -/
def serveGroup (fuel : Nat) (s : State) (g : Nat) : State :=
  match fuel with
  | 0 => s
  | n + 1 =>
    match placeOne s g with
    | some s => serveGroup n s g
    | none => s

/-- Every group's waiting contributions and chunks that wait for a ring: freed staging may serve any group. -/
def serveAll (s : State) : State :=
  s.trw.groups.foldl (fun s p =>
    let s := fillRing (1 + sumBy (grpSt s p.1).epochs fun x => x.chunks.length) s p.1
    serveGroup (grpSt s p.1).wait.length s p.1) s

/-! ### RED_CONTRIB: steps 4 to 10 (R315 to R320) -/

/-- Step 4: the class of a RED_CONTRIB, the reserved bits of ADDRESS, the payload of a GAUGE_INC (R315, R316, R340). -/
def redFormat (s : State) (op : Nat) (m : Msg) : Bool :=
  let n := m.length.toNat
  m.address.toNat / 2 ^ 56 == 0 &&
    (if op = Op.redContrib then internalClass s m.cls.toNat == Cls.red
     else if op = Op.gaugeInc then
       (n == 8 || n == 16) && 0 < beAt m.body 0 4 && decide (beAt m.body 0 4 < 2 ^ 31) && beAt m.body 4 2 / 8 == 0 && beAt m.body 6 2 == 0
     else n == 0)

/-- GROUP of an ADDRESS. -/
def grpOfAddr (a : Nat) : Nat := fld a 42 14

/-- ELEMENT of an ADDRESS. -/
def elemOfAddr (a : Nat) : Nat := fld a 0 41

/-- The settings a contribution to an epoch is judged by (R346): the epoch's own while it is open, else the coat's. -/
def grpFor (s : State) (g e : Nat) : Option Grp :=
  match epochOf s g e with
  | some x => some x.grp
  | none => grpIn (coat s) g

/-- The excluded ranks of an epoch. -/
def exclFor (s : State) (g e : Nat) : List Nat :=
  match epochOf s g e with
  | some x => x.excl
  | none => (grpSt s g).excluded.filter fun r => !(grpSt s g).restore.contains r

/-- The rank of a source in a table. -/
def rankOf (x : Grp) (ep : Nat) : Option Nat := x.table.findIdx? fun t => t.ep == ep

/-- Whether an epoch is E or E + 1 (R319). -/
def epochOpen (s : State) (g e : Nat) : Bool := e == (grpSt s g).e || e == ((grpSt s g).e + 1) % two16

/-- Whether a contributor sent a chunk of an epoch already (R317): it waits, was added, or the chunk has emitted. -/
def sentBefore (s : State) (g e c rank : Nat) : Bool :=
  let y := grpSt s g
  y.wait.any (fun w => w.epoch == e && w.chunk == c && w.rank == rank) ||
    (match epochOf s g e with
    | none => false
    | some x =>
      match x.chunks.find? fun k => k.idx == c with
      | some k => k.got.contains rank || k.atInput.isSome && (missingRanks x k) == [rank] || k.full
      | none => (y.curEpoch == e && decide (c < y.curChunk)) || (y.curEpoch != e && y.e == e))

/-- Steps 6 to 8 of RED_CONTRIB: the status that stops it, if any (R317). -/
def contribStatus (s : State) (m : Msg) : Option Nat :=
  let a := m.address.toNat
  let g := grpOfAddr a
  let e := m.epoch.toNat
  match grpFor s g e with
  | none => some St.notMapped
  | some x =>
    match rankOf x m.src with
    | none => some St.notMapped
    | some r =>
      let child := ((x.table[r]?).map ContribEnt.child).getD false
      let c := elemOfAddr a / x.ce
      let len := if child then rowBytes x.partF (x.elemsOf c) false else rowBytes x.inF (x.elemsOf c) x.inMx
      if (exclFor s g e).contains r then some St.notMapped
      else if x.key ≠ m.key then some St.accessDenied
      else if (a.testBit 41 ∧ child = false) ∨ elemOfAddr a % x.ce ≠ 0 ∨ x.elems ≤ elemOfAddr a ∨ m.length.toNat ≠ len ∨
          epochOpen s g e = false ∨ sentBefore s g e c r then some St.malformed
      else none

/-- TRW_EPOCH_REJECT counts a contribution that reached step 8 with another epoch than E or E + 1 (R319). -/
def countEpochReject (s : State) (m : Msg) : State :=
  let g := grpOfAddr m.address.toNat
  if contribStatus s m = some St.malformed ∧ epochOpen s g m.epoch.toNat = false then bump s Reg.trwEpochRejectLo 1 else s

/-- Whether a contribution draws on its group's reserve: the group is opportunistic, or an entry of its calendar is active (R331). -/
def contribInSlot (s : State) (g : Nat) : Bool :=
  let x := alGetD s.fc g {}
  x.cal.period == 0 || (!x.active.isEmpty && !(s.alm.st == .island && bit (coatReg s Reg.almConfig 0) 2))

/-- A contribution arrives (R52, R331): one of a scheduled group outside an active entry is counted, and marked off-slot by source and
sequence until it executes or is stopped. -/
def markArrival (s : State) (m : Msg) : State :=
  let g := grpOfAddr m.address.toNat
  let it := (m.src, m.seq.toNat)
  let held := (srcOf s m.src).held.any fun h => h.msg.seq == m.seq
  let mark := fun (l : List (Nat × Nat)) => { s with trw := { s.trw with offslot := l } }
  if contribInSlot s g then (if held then s else mark (without s.trw.offslot it))
  else bumpSel (if held then s else mark (addOnce s.trw.offslot it)) Reg.almFcOffslotLo g 1

/-- The off-slot mark of a contribution is no longer needed. -/
def unmark (s : State) (op : Nat) (m : Msg) : State :=
  if op = Op.redContrib then { s with trw := { s.trw with offslot := without s.trw.offslot (m.src, m.seq.toNat) } } else s

/-- An epoch opens with the first contribution that is admitted to it, under the coat then active (R346, R377). -/
def openEpoch (s : State) (g e : Nat) : State :=
  if (epochOf s g e).isSome then s
  else
    match grpIn (coat s) g with
    | none => s
    | some x =>
      let y := grpSt s g
      let excl := y.excluded.filter fun r => !y.restore.contains r
      setGrp s g fun y => { y with excluded := excl, restore := [], epochs := y.epochs ++ [{ num := e, grp := x, excl }] }

/-- A RED_CONTRIB executes: it joins its group's queue and is placed if it can be (R320, R330 to R332). -/
def runContrib (s : State) (t : Tx) (m : Msg) : State :=
  let a := m.address.toNat
  let g := grpOfAddr a
  let e := m.epoch.toNat
  let s := openEpoch s g e
  match (epochOf s g e).bind fun x => (rankOf x.grp m.src).map fun r => (x.grp, r) with
  | none => outcome s t.id St.notMapped []
  | some (x, r) =>
    let inSlot := !s.trw.offslot.contains (m.src, m.seq.toNat)
    let s := unmark s Op.redContrib m
    let w : CWait := { tx := t.id, source := t.source, tag := t.tag, rank := r, epoch := e, chunk := elemOfAddr a / x.ce, inSlot }
    serveAll (setGrp s g fun y => { y with wait := y.wait ++ [w] })

/-- An epoch that no chunk and no waiting contribution holds open is not open (R350). -/
def unopen (s : State) (g e : Nat) : State :=
  setGrp s g fun y =>
    { y with epochs := y.epochs.filter fun x =>
        !(x.num == e && !x.closed && x.chunks.isEmpty && x.emitted == 0 && !y.wait.any fun w => w.epoch == e) }

/-! ### Failed contributors, frost (R342, R564) -/

/-- Open epochs of a group aborted: staging, waiting contributions and ring entries go, and the gauge is incremented with ABORTED
(R342, R564), in an event of class `cls`. -/
def abortGroup (s : State) (g cls : Nat) : State :=
  let y := grpSt s g
  let opened := y.epochs.filter fun x => !x.closed
  let nums := opened.map Epoch.num
  let s := if opened.isEmpty then s else
    setGrp s g fun y =>
      { y with epochs := y.epochs.filter (fun x => x.closed), wait := [],
               ring := y.ring.filter fun r => !nums.contains r.epoch || r.tx.isSome,
               abortedTo := some ((nums.foldl (fun a n => if (n + two16 - y.e) % two16 < (a + two16 - y.e) % two16 then a else n) y.e + 1) % two16) }
  let txs := y.wait.map CWait.tx ++ opened.flatMap fun x => x.chunks.filterMap fun k => k.atInput.map fun p => p.1
  let s := txs.foldl (fun s id => outcome s id St.jobFenced []) s
  opened.foldl (fun s x =>
    gaugeAdd (raise s Reg.trwEventStatus 3 cls g []) x.grp.gauge 1
      ((if grpUnsync s g then 1 else 0) + (if x.part || !x.excl.isEmpty then 2 else 0) + 4) 0) s

/-- Every group whose open epochs or coat settings carry a job. -/
def groupsOfJob (s : State) (job : Nat) : List Nat :=
  (s.trw.groups.filter fun (p : Nat × GrpSt) => p.2.epochs.any fun x => x.grp.key.job == job).map fun p => p.1

/-- Open epochs of a job's groups aborted (R564). -/
def abortJob (s : State) (job cls : Nat) : State := serveAll ((groupsOfJob s job).foldl (fun s g => abortGroup s g cls) s)

/-- After a thaw each group of the job opens at the epoch that follows its last aborted one (R568). -/
def thawGroups (s : State) (job : Nat) : State :=
  let f := fun (p : Nat × GrpSt) =>
    match p.2.abortedTo with
    | some e =>
      if ((grpIn (coat s) p.1).map fun x => x.key.job) = some job then
        (p.1, { p.2 with e, curEpoch := e, curChunk := 0, abortedTo := none })
      else p
    | none => p
  { s with trw := { s.trw with groups := s.trw.groups.map f } }

/-- A rank is excluded from a group (R342): its waiting contributions are NOT_MAPPED, chunks that waited for it alone emit. -/
def excludeRank (s : State) (g r : Nat) : State :=
  let mine := (grpSt s g).wait.filter fun w => w.rank == r
  let s := setGrp s g fun y =>
    { y with excluded := addOnce y.excluded r, wait := y.wait.filter (fun w => w.rank != r),
             epochs := y.epochs.map fun x => if x.closed then x else { x with excl := addOnce x.excl r } }
  let s := mine.foldl (fun s w => outcome s w.tx St.notMapped []) s
  let open_ := (grpSt s g).epochs.flatMap fun x => if x.closed then [] else x.chunks.map fun k => (x.num, k.idx)
  serveAll (open_.foldl (fun s p => judgeChunk s g p.1 p.2) s)

/-- A contributor of a group failed (R342): its endpoint, class 2, or its chunk's time, class 3 (R43). -/
def contribFailed (s : State) (x : Grp) (r cls : Nat) : State :=
  let s := raise s Reg.trwEventStatus 1 cls x.id []
  if x.exclude then excludeRank s x.id r else addHook s (.frost x.key.job 1 (selfEp s) cls)

/-- An endpoint declared failed is a failed contributor wherever it contributes (R342). -/
def endpointLost (s : State) (ep : Nat) : State :=
  (grpsIn (coat s)).foldl (fun s x =>
    match rankOf x ep with
    | some r => if (grpSt s x.id).excluded.contains r then s else contribFailed s x r 2
    | none => s) s

end Sys2Proof.Machine
end

