-- ==== Sys2Proof/Machine/Fresco.lean ====
section
/-! DEFINITION. Fresco programs (spec/12 R392 to R399): the image, the checks of R397, tensors as stored, and what each op of R395
computes from its operands' values under R388 and R396. -/

namespace Sys2Proof.Machine

open Sys2Proof

/-! ### The image (R392 to R394) -/

/-- A tensor record (R393). -/
structure FrTensor where
  fmt : Nat
  mx : Bool
  cob : Bool
  kind : Nat
  rank : Nat
  arg : Nat
  dims : List Nat
  off : Nat
deriving DecidableEq, Repr

/-- An op record (R394). -/
structure FrOp where
  code : Nat
  out : Nat
  ins : List Nat
  imm : Nat
deriving DecidableEq, Repr

/-- The index that stands for no tensor. -/
def frNone : Nat := 0xFFFF

/-- Rounded up to a multiple of 128. -/
def up128 (n : Nat) : Nat := (n + 127) / 128 * 128

/-- TENSORS, OPS, ARGS, TILES_MAX and CONST_BYTES of the header (R392). -/
def frTensors (img : List Byte) : Nat := leAt img 6 2
/-- OPS. -/
def frOps (img : List Byte) : Nat := leAt img 8 4
/-- ARGS. -/
def frArgs (img : List Byte) : Nat := leAt img 12 1
/-- TILES_MAX. -/
def frTilesMax (img : List Byte) : Nat := leAt img 13 1
/-- CONST_BYTES. -/
def frConstBytes (img : List Byte) : Nat := leAt img 16 4

/-- Where the op table starts: each part on a 128-byte boundary. -/
def frOpsAt (img : List Byte) : Nat := up128 (128 + 32 * frTensors img)

/-- Where the constant section starts. -/
def frConstAt (img : List Byte) : Nat := up128 (frOpsAt img + 16 * frOps img)

/-- Tensor record `i`. -/
def frTensor (img : List Byte) (i : Nat) : FrTensor :=
  let o := 128 + 32 * i
  let b := leAt img o 1
  let rank := leAt img (o + 2) 1
  { fmt := fld b 0 4, mx := bit b 4, cob := bit b 5, kind := leAt img (o + 1) 1, rank, arg := leAt img (o + 3) 1,
    dims := (List.range (min rank 4)).map fun k => leAt img (o + 8 + 4 * k) 4, off := leAt img (o + 24) 8 }

/-- Op record `i`. -/
def frOp (img : List Byte) (i : Nat) : FrOp :=
  let o := frOpsAt img + 16 * i
  { code := leAt img o 2, out := leAt img (o + 4) 2, ins := [leAt img (o + 6) 2, leAt img (o + 8) 2, leAt img (o + 10) 2],
    imm := leAt img (o + 12) 4 }

/-- Input `k` of an op. -/
def FrOp.inp (o : FrOp) (k : Nat) : Nat := o.ins.getD k frNone

/-- The tensors of an image. -/
def frAll (img : List Byte) : List FrTensor := (List.range (frTensors img)).map (frTensor img)

/-- Elements of a tensor; a scalar has one. -/
def FrTensor.count (t : FrTensor) : Nat := t.dims.foldl (· * ·) 1

/-- Elements of the last axis. -/
def FrTensor.last (t : FrTensor) : Nat := t.dims.getLast?.getD 1

/-- Rows of the last axis. -/
def FrTensor.rows (t : FrTensor) : Nat := t.count / max t.last 1

/-- Whether a tensor takes part in ops as an integer one (R434). -/
def FrTensor.isInt (t : FrTensor) : Bool := (fmtOf t.fmt).int && !t.mx

/-- Bytes of a tensor as stored (R425, R432, R438). -/
def FrTensor.bytes (t : FrTensor) : Nat :=
  let w := (fmtOf t.fmt).bits
  if t.cob then cobExtent t.fmt (cobGroups t.rows t.last)
  else if t.mx then t.rows * mxBlocks t.last * (4 * w) + t.rows * mxBlocks t.last
  else t.rows * packedBytes w t.last

/-- Whether a tensor is bound to an argument. -/
def FrTensor.isArg (t : FrTensor) : Bool := t.kind ≤ 2

/-- Whether a tensor of an argument is written. -/
def FrTensor.isOut (t : FrTensor) : Bool := t.kind == 1 || t.kind == 2

/-- How far an argument's range reaches from its base (R405). -/
def frArgEnd (img : List Byte) (a : Nat) : Nat :=
  ((frAll img).filter fun t => t.isArg && t.arg == a).foldl (fun n t => max n (t.off + t.bytes)) 0

/-- Whether an argument holds a tensor that is written. -/
def frArgOut (img : List Byte) (a : Nat) : Bool := (frAll img).any fun t => t.isOut && t.arg == a

/-- The TEMP tensors' bytes. -/
def frTempBytes (img : List Byte) : Nat := sumBy ((frAll img).filter fun t => t.kind == 4) FrTensor.bytes

/-! ### Checks at load (R397) -/

/-- The header keeps R392; the image holds its four parts. -/
def frHeaderOk (img : List Byte) : Bool :=
  leAt img 0 4 == 0x46525343 && leAt img 4 1 == 1 && leAt img 5 1 == 0 && 1 ≤ frTensors img && frTensors img ≤ 1024 &&
    1 ≤ frOps img && frOps img ≤ 65536 && frArgs img ≤ 16 && 1 ≤ frTilesMax img && frTilesMax img ≤ 80 && leAt img 14 2 == 0 &&
    frConstBytes img ≤ 67108864 && frConstBytes img % 128 == 0 && (slice img 20 12).all (· == 0) &&
    frConstAt img + frConstBytes img ≤ img.length

/-- A tensor record keeps R393. -/
def frTensorOk (img : List Byte) (i : Nat) : Bool :=
  let t := frTensor img i
  let o := 128 + 32 * i
  t.fmt ≤ 11 && (!t.mx || mxFormat t.fmt) && (!t.cob || ((t.kind == 0 || t.kind == 3) && cobFormat t.fmt)) && leAt img o 1 / 64 == 0 &&
    t.kind ≤ 4 && t.rank ≤ 4 && (if t.isArg then t.arg < frArgs img else t.arg == 0) && (slice img (o + 4) 4).all (· == 0) &&
    t.dims.all (fun d => 1 ≤ d && d < 2147483648) && (slice img (o + 8 + 4 * t.rank) (16 - 4 * t.rank)).all (· == 0) &&
    t.off % 128 == 0 && (t.kind != 4 || t.off == 0) && (t.kind != 3 || t.off + t.bytes ≤ frConstBytes img) && t.bytes ≤ 68719476736

/-- Opcodes of Fresco 1.0 (R395). -/
def frCodes : List Nat :=
  [0x01, 0x02, 0x10, 0x11, 0x12, 0x13, 0x14, 0x15, 0x18, 0x20, 0x21, 0x22, 0x23, 0x24, 0x25, 0x26, 0x27, 0x30, 0x31, 0x32, 0x40, 0x41,
   0x42, 0x43, 0x50, 0x51, 0x60, 0x70, 0x71, 0x7F]

/-- Whether an op is LOOP or BRANCH. -/
def FrOp.isControl (o : FrOp) : Bool := o.code == 0x70 || o.code == 0x71

/-- How many inputs an op needs. -/
def FrOp.needs (o : FrOp) : Nat := if o.code ≤ 0x15 ∨ o.code = 0x50 ∨ o.code = 0x51 ∨ o.code = 0x7F then 2 else 1

/-- The inputs that an op uses: the needed ones, and a MATMUL's bias when it is given. -/
def FrOp.uses (o : FrOp) : List Nat :=
  o.ins.take o.needs ++ if o.code ≤ 2 ∧ o.inp 2 ≠ frNone then [o.inp 2] else []

/-- Two shapes broadcast, aligned from the last axis (R396); none where they do not meet. -/
def broadcast (a b : List Nat) : Option (List Nat) :=
  let n := max a.length b.length
  let pad := fun (l : List Nat) => List.replicate (n - l.length) 1 ++ l
  let z := (pad a).zip (pad b)
  if z.all fun p => p.1 == p.2 || p.1 == 1 || p.2 == 1 then some (z.map fun p => max p.1 p.2) else none

/-- A list with two places swapped. -/
def swapAt (l : List Nat) (i j : Nat) : List Nat := (l.set i (l.getD j 0)).set j (l.getD i 0)

/-- Whether a tensor may be a MATMUL's operand: floating from FP4-E2M1 to FP16, or INT4 or INT8 (R395, R434). -/
def matOperand (t : FrTensor) : Bool := if t.isInt then t.fmt == 8 || t.fmt == 9 else (1 ≤ t.fmt && t.fmt ≤ 7) || t.mx

/-- An op's shapes and formats meet R395 and R396. -/
def frShapesOk (img : List Byte) (o : FrOp) : Bool :=
  let a := frTensor img (o.inp 0)
  let b := frTensor img (o.inp 1)
  let c := frTensor img (o.inp 2)
  let r := frTensor img o.out
  let same := a.isInt == r.isInt
  let flt := !a.isInt && !r.isInt
  let index := fun (t : FrTensor) => t.fmt == 10 && t.rank == 1
  let axis := o.imm % 4
  if o.code ≤ 2 then
    let n := if o.code = 1 then b.last else b.dims.getD (b.rank - 2) 0
    let kb := if o.code = 1 then b.dims.getD (b.rank - 2) 0 else b.last
    2 ≤ a.rank && 2 ≤ b.rank && matOperand a && matOperand b && a.isInt == b.isInt && same && a.last == kb &&
      ((broadcast (a.dims.take (a.rank - 2)) (b.dims.take (b.rank - 2))).any fun d => r.dims == d ++ [a.dims.getD (a.rank - 2) 0, n]) &&
      (o.inp 2 == frNone || (c.dims == [n] && c.isInt == a.isInt))
  else if o.code ≤ 0x15 then a.isInt == b.isInt && same && broadcast a.dims b.dims == some r.dims
  else if o.code ≤ 0x27 then flt && a.dims == r.dims
  else if o.code = 0x30 then a.dims == r.dims
  else if o.code = 0x31 then a.count == r.count && a.fmt == r.fmt && a.mx == r.mx
  else if o.code = 0x32 then
    let i := o.imm % 256
    let j := o.imm / 256 % 256
    i < a.rank && j < a.rank && same && r.dims == swapAt a.dims i j
  else if o.code ≤ 0x42 then axis < a.rank && same && r.dims == a.dims.eraseIdx axis
  else if o.code = 0x43 then axis < a.rank && flt && a.dims == r.dims
  else if o.code = 0x50 then 1 ≤ a.rank && index b && same && r.dims == b.dims ++ a.dims.drop 1
  else if o.code = 0x51 then
    1 ≤ a.rank && 1 ≤ r.rank && index b && same && a.dims.take 1 == b.dims && a.dims.drop 1 == r.dims.drop 1 && (r.kind == 2 || r.kind == 4)
  else if o.code = 0x60 then 1 ≤ a.rank && same && a.dims == r.dims
  else if o.code ≤ 0x71 then a.fmt == 10 && a.rank == 0
  else
    let row := packedBytes (fmtOf b.fmt).bits b.last
    a.rank == 1 && a.isArg && !a.mx && !a.cob && [0, 1, 2, 3, 4, 9, 10, 11].contains a.fmt && b.rank == 2 && b.isArg && !b.mx && !b.cob &&
      4 ≤ row && row ≤ 4096 && row % 4 == 0 && 1 ≤ o.imm % 131072 && o.imm % 131072 ≤ 65536 && o.imm / 262144 == 0

/-- Op `i` keeps R394 to R396, R397's rules for bodies and R410. -/
def frOpOk (img : List Byte) (i : Nat) : Bool :=
  let o := frOp img i
  let body := o.imm % 65536
  let depth := countBy (List.range i) fun j => (frOp img j).isControl && i ≤ j + (frOp img j).imm % 65536
  frCodes.contains o.code && leAt img (frOpsAt img + 16 * i + 2) 2 == 0 && o.ins.all (fun t => t == frNone || t < frTensors img) &&
    (o.ins.take o.needs).all (· != frNone) &&
    (if o.isControl || o.code == 0x7F then o.out == frNone
     else o.out < frTensors img && !((frTensor img o.out).kind == 0 || (frTensor img o.out).kind == 3) && !o.uses.contains o.out) &&
    frShapesOk img o && (!o.isControl || (i + body < frOps img && depth < 4)) && (o.code != 0x7F || i + 1 == frOps img)

/-- Tensors of one argument overlap only where neither is written (R397). -/
def frOverlapOk (img : List Byte) : Bool :=
  let l := (frAll img).zipIdx.filter fun p => p.1.isArg
  l.all fun p => l.all fun q =>
    p.2 == q.2 || p.1.arg != q.1.arg || !(p.1.isOut || q.1.isOut) || decide (p.1.off + p.1.bytes ≤ q.1.off) ||
      decide (q.1.off + q.1.bytes ≤ p.1.off)

/-- A program breaks none of R397. -/
def frescoOk (img : List Byte) : Bool :=
  frHeaderOk img && (List.range (frTensors img)).all (frTensorOk img) && (List.range (frOps img)).all (frOpOk img) && frOverlapOk img &&
    frTempBytes img ≤ 4294967296

/-! ### Placement (R402) -/

/-- Whether lowering places an op on host cores: LOOP, BRANCH, the ops of their bodies, SCATTER_ADD and SORT. A SIEVE_TAIL, in a
body too, runs on the Sieve and Gather units: R402 names every op of a body, R410 makes this one a SIEVE (DEDUCED, log entry 227). -/
def frOnHost (img : List Byte) (i : Nat) : Bool :=
  let o := frOp img i
  o.isControl || o.code == 0x51 || o.code == 0x60 ||
    (o.code != 0x7F && (List.range i).any fun j => (frOp img j).isControl && i ≤ j + (frOp img j).imm % 65536)

/-- The ops placed on host cores, ascending. -/
def frHostOps (img : List Byte) : List Nat := (List.range (frOps img)).filter (frOnHost img)

/-! ### Tensors as values -/

/-- The values of a stored tensor that is not held as COBs. -/
def plainValues (t : FrTensor) (b : List Byte) : List Num :=
  let w := (fmtOf t.fmt).bits
  let nb := mxBlocks t.last
  let rb := packedBytes w t.last
  (List.range t.rows).flatMap fun r => (List.range t.last).map fun c =>
    if t.mx then
      let k := r * nb + c / 32
      mxValue t.fmt (b.getD (t.rows * nb * (4 * w) + k) 0).toNat (elemAt w b (32 * k + c % 32))
    else decodeNum (fmtOf t.fmt) (elemAt w (b.drop (r * rb)) c)

/-- The values of group `g` of 128 of a COB region from a byte offset on: its elements, its size; none where it fails (R440). Where the
group after a failed one begins follows from the failed header all the same. DEDUCED, log entry 231. -/
def cobGroup (t : FrTensor) (b : List Byte) (off g : Nat) : Option (List Num) × Nat :=
  let c := b.drop off
  match cobRead t.fmt t.mx c (t.bytes - off) (t.last - 128 * (g % max 1 (ceilDiv t.last 128))) with
  | some (scales, elems, size) =>
    let f := fun (x : Nat × Nat) => if t.mx then mxValue t.fmt (scales.getD (x.2 / 32) 0) x.1 else decodeNum (fmtOf t.fmt) x.1
    (some (elems.zipIdx.map f), size)
  | none => (none, if bit (c.getD 0 0).toNat 5 then cobRaw t.fmt else cobSparse t.fmt (c.getD 1 0).toNat)

/-- A segment of up to 64 groups: their values and the groups that fail; a directory entry that fails fails its segment. -/
def cobSegment (t : FrTensor) (b : List Byte) (groups j : Nat) : List (List Num) × List Nat :=
  let n := min 64 (groups - 64 * j)
  let zeros := List.replicate 128 (Num.fin false 0 0)
  let entry := fun (k : Nat) => 16 * leAt b (4 * k) 4
  if entry j < cobDir groups ∨ t.bytes ≤ entry j ∨ (0 < j ∧ entry j < entry (j - 1)) then (List.replicate n zeros, [64 * j])
  else
    let r := (List.range n).foldl (fun (p : Nat × List (List Num) × List Nat) i =>
      match cobGroup t b p.1 (64 * j + i) with
      | (some v, size) => (p.1 + size, p.2.1 ++ [v], p.2.2)
      | (none, size) => (p.1 + size, p.2.1 ++ [zeros], p.2.2 ++ [64 * j + i])) (entry j, [], [])
    r.2

/-- The values of a COB region and the groups that R440 rejects. -/
def cobValues (t : FrTensor) (b : List Byte) : List Num × List Nat :=
  let per := ceilDiv t.last 128
  let groups := t.rows * per
  let segs := (List.range (ceilDiv groups 64)).map (cobSegment t b groups)
  let all := segs.flatMap fun p => p.1
  ((List.range t.rows).flatMap fun r => (((all.drop (r * per)).take per).flatten).take t.last, segs.flatMap fun p => p.2)

/-- A stored tensor's values, and the COB groups rejected. -/
def tensorValues (t : FrTensor) (b : List Byte) : List Num × List Nat := if t.cob then cobValues t b else (plainValues t b, [])

/-- Values stored as a tensor (R425, R432, R433); an integer result wraps into its format, all else converts (R430). -/
def storeTensor (t : FrTensor) (wrap : Bool) (vals : List Num) : List Byte :=
  let f := fmtOf t.fmt
  let rows := chunksOf t.last t.rows vals
  if t.mx then
    let bs := (rows.flatMap fun r => chunksOf 32 (mxBlocks t.last) r).map (mxEncode t.fmt)
    packElems f.bits (bs.flatMap fun b => padTo b.2 32 0) ++ bs.map fun b => BitVec.ofNat 8 b.1
  else
    let enc := fun (x : Num) => if wrap ∧ f.int then unsigned f.bits (x.scaled 0) else encodeNum f x
    rows.flatMap fun r => packElems f.bits (r.map enc)

/-! ### Ops (R388, R395, R396) -/

/-- A value expanded to FP32 (R434). -/
def toF32 (x : Num) : Nat := encodeNum fp32 x

/-- An FP32 word as a value. -/
def ofF32 (w : Nat) : Num := decodeNum fp32 w

/-- An exact integer modulo 2^64, as a signed value (R396). -/
def int64 (v : Int) : Num := Num.ofInt (signed 64 (unsigned 64 v))

/-- The multi-index of an element, outermost first. -/
def unflat (dims : List Nat) (i : Nat) : List Nat := (dims.foldr (fun d (p : List Nat × Nat) => (p.2 % d :: p.1, p.2 / d)) ([], i)).1

/-- The row-major place of a multi-index. -/
def flat (dims idx : List Nat) : Nat := (dims.zip idx).foldl (fun n p => n * p.1 + p.2) 0

/-- The place of an element of a broadcast shape in one of its operands (R396). -/
def bcastAt (dims idx : List Nat) : Nat :=
  flat dims ((dims.zip (idx.drop (idx.length - dims.length))).map fun p => if p.1 = 1 then 0 else p.2)

/-- An element of a list of values. -/
def valAt (l : List Num) (i : Nat) : Num := l.getD i (.fin false 0 0)

/-- ADD to MIN on two values (R395): FP32, or exact modulo 2^64. -/
def binaryOp (code : Nat) (int : Bool) (a b : Num) : Num :=
  if int then
    let x := a.scaled 0
    let y := b.scaled 0
    match code with
    | 0x10 => int64 (x + y)
    | 0x11 => int64 (x - y)
    | 0x12 => int64 (x * y)
    | 0x13 => int64 (if y = 0 then 0 else Int.tdiv x y)
    | 0x14 => int64 (max x y)
    | _ => int64 (min x y)
  else
    match code with
    | 0x10 => ofF32 (f32add (toF32 a) (toF32 b))
    | 0x11 => ofF32 (f32sub (toF32 a) (toF32 b))
    | 0x12 => ofF32 (f32mul (toF32 a) (toF32 b))
    | 0x13 => ofF32 (f32div (toF32 a) (toF32 b))
    | 0x14 => (ofF32 (toF32 a)).max (ofF32 (toF32 b))
    | _ => (ofF32 (toF32 a)).min (ofF32 (toF32 b))

/-- 1 over the square root, within 1 ulp of the correctly rounded result (R396); its special values are those of exact division. -/
def rsqrtOp (x : Num) : Num :=
  match x with
  | .nan => .nan
  | .inf neg => if neg then .nan else .fin false 0 0
  | .fin neg m _ =>
    if m = 0 then .inf neg
    else if neg then .nan
    else
      let w := encodeNum fp32 ((Num.ofInt 1).div x).sqrt
      ofF32 (w + Config.rsqrtUlp (toF32 x) % 3 - 1)

/-- The elementwise functions (R395, R396): SQRT correctly rounded; RSQRT; the others are within 1 ulp by a method the manual does not
give, but for NaN and for the exact infinities and zeros of R428. -/
def unaryOp (code : Nat) (a : Num) : Num :=
  let x := ofF32 (toF32 a)
  let w := toF32 a
  let opaq := ofF32 (Config.fresco1 code w)
  match code, x with
  | _, .nan => .nan
  | 0x22, x => ofF32 (encodeNum fp32 x.sqrt)
  | 0x23, x => rsqrtOp x
  | 0x20, .inf neg => if neg then .fin false 0 0 else .inf false
  | 0x21, .inf neg => if neg then .nan else .inf false
  | 0x21, .fin neg m _ => if m = 0 then .inf true else if neg then .nan else opaq
  | _, _ => opaq

/-- The exact sum of floating values, rounded by whoever stores it (R396, R327). -/
def exactSum (l : List Num) : Num := exactValue (l.foldl (fun f x => (addExact f x).1) {})

/-- A row's SOFTMAX (R396): the sum is exact and rounded once; the exponentials' method is not given. -/
def softmaxRow (l : List Num) : List Num :=
  let ws := l.map toF32
  let e := (List.range ws.length).map fun i => Config.softExp ws i % two32
  let sum := encodeNum fp32 (exactSum (e.map ofF32))
  e.map fun x => ofF32 (f32div x sum)

/-- A row sorted ascending and stable with NaNs last (R395): one value put behind all that are not above it. -/
def sortInsert (x : Num) : List Num → List Num
  | [] => [x]
  | y :: r => if (y == Num.nan && x != Num.nan) || x.lt y then x :: y :: r else y :: sortInsert x r

/-- A dot product of a MATMUL (R388): blocks of 256 summed exactly and rounded to FP32, added in ascending order. -/
def dotF32 (a b : List Num) : Nat :=
  let p := a.zipWith Num.mul b
  (chunksOf 256 (ceilDiv p.length 256) p).foldl (fun acc blk => f32add acc (encodeNum fp32 (exactSum blk))) 0

/-- An integer dot product, exact modulo 2^64 (R388). -/
def dotInt (a b : List Num) : Int := (a.zipWith (fun x y => x.scaled 0 * y.scaled 0) b).foldl (· + ·) 0

/-- MATMUL and MATMUL_T. -/
def matmul (trans : Bool) (ta tb tr : FrTensor) (a b : List Num) (bias : Option (List Num)) : List Num :=
  let k := ta.last
  (List.range tr.count).map fun i =>
    let idx := unflat tr.dims i
    let m := idx.getD (tr.rank - 2) 0
    let n := idx.getD (tr.rank - 1) 0
    let batch := idx.take (tr.rank - 2)
    let place := fun (t : FrTensor) (r c : Nat) => bcastAt (t.dims.take (t.rank - 2)) batch * (t.dims.getD (t.rank - 2) 1 * t.last) + r * t.last + c
    let x := (List.range k).map fun j => valAt a (place ta m j)
    let y := (List.range k).map fun j => valAt b (if trans then place tb n j else place tb j n)
    let z := bias.map fun l => valAt l n
    if ta.isInt then int64 (dotInt x y + (z.map (Num.scaled 0)).getD 0)
    else
      let acc := dotF32 x y
      ofF32 ((z.map fun v => f32add acc (toF32 v)).getD acc)

/-- The values along one axis of a tensor, for an index with that axis at any place. -/
def alongAxis (t : FrTensor) (v : List Num) (axis : Nat) (idx : List Nat) : List Num :=
  (List.range (t.dims.getD axis 1)).map fun j => valAt v (flat t.dims (idx.set axis j))

/-- A reduction of values (R395): exact sum, MAX or MIN. -/
def reduceOp (code : Nat) (int : Bool) (l : List Num) : Num :=
  let f := l.map fun x => ofF32 (toF32 x)
  match code with
  | 0x40 => if int then int64 (l.foldl (fun n x => n + x.scaled 0) 0) else exactSum f
  | 0x41 => if int then l.foldl Num.max (valAt l 0) else f.foldl Num.max (valAt f 0)
  | _ => if int then l.foldl Num.min (valAt l 0) else f.foldl Num.min (valAt f 0)

/-- SCATTER_ADD (R395): rows added one at a time in ascending order, each sum converted to OUT's format. -/
def scatterAdd (ta tr : FrTensor) (a idx old : List Num) : List Num :=
  let per := tr.count / max (tr.dims.headD 1) 1
  let conv := fun (x : Num) =>
    if tr.isInt then decodeNum (fmtOf tr.fmt) (unsigned 64 (x.scaled 0)) else if tr.mx then x else decodeNum (fmtOf tr.fmt) (encodeNum (fmtOf tr.fmt) x)
  (List.range (ta.dims.headD 1)).foldl (fun (o : List Num) i =>
    let k := (valAt idx i).scaled 0
    if k < 0 ∨ (tr.dims.headD 1 : Int) ≤ k then o
    else
      let base := k.toNat * per
      (List.range per).foldl (fun (o : List Num) j => o.set (base + j) (conv (binaryOp 0x10 tr.isInt (valAt o (base + j)) (valAt a (i * per + j))))) o)
    old

/-- The value of an op's output from its operands' (R395); `old` is OUT before the op. -/
def frCompute (img : List Byte) (o : FrOp) (val : Nat → List Num) (old : List Num) : List Num :=
  let ta := frTensor img (o.inp 0)
  let tb := frTensor img (o.inp 1)
  let tr := frTensor img o.out
  let a := val 0
  let b := val 1
  let int := ta.isInt
  let axis := o.imm % 4
  if o.code ≤ 2 then matmul (o.code == 2) ta tb tr a b (if o.inp 2 = frNone then none else some (val 2))
  else if o.code ≤ 0x15 then
    (List.range tr.count).map fun i =>
      let idx := unflat tr.dims i
      binaryOp o.code int (valAt a (bcastAt ta.dims idx)) (valAt b (bcastAt tb.dims idx))
  else if o.code = 0x18 then a.map fun x => ofF32 (f32mul (toF32 x) o.imm)
  else if o.code ≤ 0x27 then a.map (unaryOp o.code)
  else if o.code = 0x30 then (if int then a else a.map fun x => ofF32 (toF32 x))
  else if o.code = 0x31 then a
  else if o.code = 0x32 then
    (List.range tr.count).map fun i => valAt a (flat ta.dims (swapAt (unflat tr.dims i) (o.imm % 256) (o.imm / 256 % 256)))
  else if o.code ≤ 0x42 then
    (List.range tr.count).map fun i => reduceOp o.code int (alongAxis ta a axis ((unflat tr.dims i).insertIdx axis 0))
  else if o.code = 0x43 then
    (List.range tr.count).map fun i =>
      let idx := unflat tr.dims i
      valAt (softmaxRow (alongAxis ta a axis idx)) (idx.getD axis 0)
  else if o.code = 0x50 then
    let per := ta.count / max (ta.dims.headD 1) 1
    (List.range (tb.dims.headD 1)).flatMap fun i =>
      let k := (valAt b i).scaled 0
      if k < 0 ∨ (ta.dims.headD 1 : Int) ≤ k then List.replicate per (.fin false 0 0) else (a.drop (k.toNat * per)).take per
  else if o.code = 0x51 then scatterAdd ta tr a b old
  else (chunksOf ta.last ta.rows a).flatMap fun r => r.foldl (fun l x => sortInsert x l) []

end Sys2Proof.Machine
end

