-- ==== Sys2Proof/Machine/RedOps.lean ====
section
/-! DEFINITION. Gauge requests (spec/10 R317, R337 to R340), answers to partial results and forwarded increments (R333, R338), results
written to the pool (R333), and the timers and faults of staging (R332, R334, R341, R342, R344, R345). -/

namespace Sys2Proof.Machine

open Sys2Proof

/-! ### Gauge requests -/

/-- Steps 6 to 8 of GAUGE_INC and GAUGE_READ (R316, R317, R338); a patch's new key counts from the next tick (R339). -/
def gaugeStatus (s : State) (op : Nat) (m : Msg) : Option Nat :=
  let k := grpOfAddr m.address.toNat
  let e := (gaugeOf s k).epoch
  let d := (m.epoch.toNat + two16 - e) % two16
  if gaugeTarget s k = 0 then some St.notMapped
  else if keyOfWord (coatReg (if gaugeTarget (underOld s) k = 0 then s else underOld s) Reg.trwGaugeKey k) ≠ m.key then some St.accessDenied
  else if m.address.toNat % 2 ^ 42 ≠ 0 ∨ (op = Op.gaugeInc ∧ d ≠ 0 ∧ d ≠ 1 ∧ d ≠ 65535) then some St.malformed
  else none

/-- A GAUGE_INC or GAUGE_READ executes (R337, R338, R340): an increment of the epoch just passed counts as excess. -/
def runGauge (s : State) (t : Tx) (op : Nat) (m : Msg) : State :=
  let k := grpOfAddr m.address.toNat
  let x := gaugeOf s k
  if op = Op.gaugeRead then
    outcome s t.id St.ok (beBytes 4 x.value ++ beBytes 4 x.next ++ beBytes 4 (gaugeTarget s k) ++ beBytes 2 x.epoch ++ [0, 0])
  else
    let n := beAt m.body 0 4
    let flags := beAt m.body 4 2
    let bytes := if m.length.toNat = 16 then beAt m.body 8 8 else 0
    let d := (m.epoch.toNat + two16 - x.epoch) % two16
    let s := outcome s t.id St.ok []
    if d = 0 then gaugeAdd s k n flags bytes
    else if d = 1 then gaugeAddNext s k n flags bytes
    else bump s Reg.trwGaugeExcessLo n

/-- A forwarded increment that was refused, or whose target failed, a class 2 fault (R187, R338). -/
def fwdRejected (s : State) (k cls : Nat) : State := raise s Reg.trwEventStatus 5 cls k []

/-- A patch coat that changes a gauge (R339): one that it removes is forgotten, one whose VALUE has reached the new TARGET fires. -/
def gaugesPatched (s : State) : State :=
  s.trw.gauges.foldl (fun s p =>
    if gaugeTarget s p.1 = 0 then { s with trw := { s.trw with gauges := alErase s.trw.gauges p.1 } } else fireDue s p.1) s

/-- A patch coat whose table gives a rank another endpoint (R377): LATE_RUN starts at 0, and an excluded entry is restored with the
next epoch that opens. -/
def ranksPatched (s : State) (old new : Coat) : State :=
  (grpsIn new).foldl (fun s x =>
    match grpIn old x.id with
    | none => s
    | some y =>
      x.ranks.foldl (fun s r =>
        if (x.table[r]?).map ContribEnt.ep = (y.table[r]?).map ContribEnt.ep then s
        else setGrp s x.id fun z =>
          { z with lateRun := alErase z.lateRun r, flagged := without z.flagged r,
                   restore := if z.excluded.contains r then addOnce z.restore r else z.restore }) s) s

/-! ### Partial results (R333) -/

/-- A partial that its parent refused, or whose parent failed: final, and the epoch's increment carries ABORTED. -/
def parentRejected (s : State) (g e : Nat) (status : Option Nat) : State :=
  let s := raise s Reg.trwEventStatus 6 (if status.isNone then 2 else 1) g (det 2 g ++ det 2 e ++ (status.map (det 1)).getD [])
  resultDone (setEpoch s g e fun x => { x with aborted := true }) g e

/-- A partial's completion (R333): BUSY sends it again under a new number. -/
def partialAnswered (s : State) (o : OutReq) (g e status : Nat) : State :=
  if status = St.ok then resultDone s g e
  else if status = St.busy then request s o.target o.opcode o.cls o.key o.epoch o.address o.payload o.purpose
  else parentRejected s g e (some status)

/-! ### Results written to the pool -/

/-- A result's write executes, as a WRITE of this home (R216, R218, R333). -/
def runResult (s : State) (t : Tx) (a : Nat) (data : List Byte) : State :=
  match dataStatus s t [] with
  | some st => outcome s t.id st []
  | none => outcome (mirrorOut (writeBytes s t a data) t.id 0 Op.mirrorWrite a data (lineRange a data.length)) t.id St.ok []

/-! ### Timers and faults -/

/-- A contribution that has waited STAGE_WAIT_US for its chunk completes BUSY and is not added (R332). -/
def stageBusy (s : State) (source tag : Nat) : State :=
  s.trw.groups.foldl (fun s p =>
    let l := (grpSt s p.1).wait
    match l.find? fun w => w.source == source && w.tag == tag && headOfPair l w with
    | none => s
    | some w =>
      let s := setGrp s p.1 fun y => { y with wait := y.wait.filter fun v => v.tx != w.tx }
      let s := raise (bump s Reg.trwStageBusyLo 1) Reg.trwEventStatus 2 3 p.1 []
      serveAll (unopen (outcome s w.tx St.busy []) p.1 w.epoch)) s

/-- The ranks whose contribution to a chunk has not arrived (R341). -/
def notArrived (s : State) (x : Epoch) (k : Chunk) : List Nat :=
  (missingRanks x k).filter fun r =>
    match k.atInput with
    | some p => ((txOf s p.1).map Tx.source).bind (rankOf x.grp) != some r
    | none => true

/-- A chunk's lateness timer expires: each contributor not yet added is late, once an epoch (R341). -/
def lateChunk (s : State) (g e c : Nat) : State :=
  match epochOf s g e, chunkOf s g e c with
  | some x, some k =>
    let late := (notArrived s x k).filter fun r => !x.late.contains r
    setEpoch (bump s Reg.trwLateLo late.length) g e fun x => { x with late := x.late ++ late }
  | _, _ => s

/-- A chunk has waited FAIL_MS: the contributors it waits for fail (R342). -/
def failChunk (s : State) (g e c : Nat) : State :=
  match epochOf s g e, chunkOf s g e c with
  | some x, some k => (notArrived s x k).foldl (fun s r => contribFailed s x.grp r 3) s
  | _, _ => s

/-- A chunk's wide forms are read back: the contribution that waited at the Trowel's input is added, its wait counted (R334). -/
def readbackDone (s : State) (g e c : Nat) : State :=
  match epochOf s g e, chunkOf s g e c with
  | some x, some k =>
    if k.readback ≠ 1 then s
    else
      let s := setChunk s g e c fun k => { k with readback := 2 }
      match k.atInput, (k.atInput.bind fun w => (txOf s w.1).map Tx.source).bind (rankOf x.grp) with
      | some (tx, since), some r =>
        serveAll (commitContrib (bump s Reg.trwSpillWaitLo ((tickNow s + two64 - since) % two64)) tx g e c r)
      | _, _ => s
  | _, _ => s

/-- An uncorrectable error in a chunk's staging entry or wide form (R345, R560): the location, a free value, is retired, and the job
enters frost. -/
def stageUncorr (s : State) (g e c : Nat) : State :=
  match epochOf s g e, chunkOf s g e c with
  | some x, some k =>
    let d := draw s
    let kind := if k.accs.any accSpilled && d.1 % 2 == 1 then BankKind.wideForm else BankKind.stagingEntry
    let d2 := draw d.2
    let s := raise (permanentFault d2.2) Reg.trwEventStatus 4 2 g []
    addHook (retireLocation s kind (d2.1 % two32)) (.frost x.grp.key.job 2 (selfEp s) 2)
  | _, _ => s

/-- The contribution frames that wait at a Trowel unit's input, uncommitted (R334, R344). -/
def framesAt (s : State) (unit : Nat) : Nat := countBy (stagedChunks s) fun p => p.2.atInput.any fun w => Config.trowelOf w.1 % 64 == unit

/-- A Trowel unit's uncommitted frames are run again on other units (R344). -/
def rerunFrames (s : State) (unit : Nat) : State := if framesAt s unit = 0 then s else bump s Reg.trwRerunLo (framesAt s unit)

/-- A Trowel unit is retired (R344, R558, R560). -/
def trowelRetired (s : State) (unit : Nat) : State :=
  if (unitOf s 3 unit).st = 3 then s
  else rerunFrames (raise (retireUnit (permanentFault s) 3 unit) Reg.trwEventStatus 0 2 unit []) unit

end Sys2Proof.Machine
end

