-- ==== Sys2Proof/Machine/GatherOps.lean ====
section
/-! DEFINITION. Gather and Sieve units (spec/11 R353 to R367): payloads, checks of ranges, units, passes over lists, records and
rows. -/

namespace Sys2Proof.Machine

open Sys2Proof

/-! ### Payloads (R355, R362) -/

/-- A GATHER payload (R355). -/
structure GReq where
  fmt : Nat
  dest : Nat
  rowBytes : Nat
  rows : Nat
  stride : Nat
  count : Nat
  listBase : Nat
  destBase : Nat
  table : Nat
  inl : List Byte := []
deriving DecidableEq, Repr

/-- A GATHER payload read; the table's base is the request's ADDRESS, or bytes 32 to 39 in a chain. -/
def gReq (b : List Byte) (table : Nat) : GReq :=
  { fmt := fld (beAt b 0 1) 0 2, dest := fld (beAt b 0 1) 2 2, rowBytes := beAt b 2 2, rows := beAt b 4 4, stride := beAt b 8 4,
    count := beAt b 12 4, listBase := beAt b 16 8, destBase := beAt b 24 8, table, inl := b.drop 48 }

/-- Bytes of a list item (R356). -/
def GReq.item (g : GReq) : Nat := if g.fmt = 0 then 4 else 8

/-- The rules of R355 that a chained gather shares. -/
def GReq.common (g : GReq) (b : List Byte) : Bool :=
  g.dest ≤ 1 && beAt b 0 1 / 16 == 0 && beAt b 1 1 == 0 && 4 ≤ g.rowBytes && g.rowBytes ≤ 4096 && g.rowBytes % 4 == 0 && 1 ≤ g.rows &&
    g.stride % 4 == 0 && g.rowBytes ≤ g.stride && (if g.dest = 1 then g.destBase % 4 == 0 else g.destBase == 0) && g.table % 4 == 0

/-- The format of a GATHER (R355, R356). -/
def gatherOk (m : Msg) : Bool :=
  let b := m.body
  let g := gReq b m.address.toNat
  48 ≤ b.length && g.common b && m.address.toNat / 2 ^ 56 == 0 && g.fmt ≤ 2 && 1 ≤ g.count && g.count ≤ 16777216 &&
    allZero (slice b 32 16) &&
    (if g.listBase = 0 then g.count * g.item == b.length - 48
     else b.length == 48 && g.listBase / 2 ^ 56 == 0 && g.listBase % g.item == 0) &&
    (g.dest == 0 || g.fmt ≤ 1 || g.listBase == 0)

/-- A SIEVE payload (R362). -/
structure SReq where
  mode : Nat
  dest : Nat
  idx : Bool
  key : Nat
  recBytes : Nat
  keyOff : Nat
  records : Nat
  k : Nat
  p1 : Nat
  p2 : Nat
  either : Bool
  v1 : Nat
  v2 : Nat
  destBase : Nat
  base : Nat
deriving DecidableEq, Repr

/-- A SIEVE payload read. -/
def sReq (b : List Byte) (base : Nat) : SReq :=
  let h := beAt b 0 1
  let p := beAt b 16 1
  { mode := fld h 0 2, dest := fld h 2 2, idx := bit h 4, key := fld (beAt b 1 1) 0 4, recBytes := beAt b 2 2, keyOff := beAt b 4 2,
    records := beAt b 8 4, k := beAt b 12 4, p1 := fld p 0 3, p2 := fld p 3 3, either := bit p 6, v1 := beAt b 24 8, v2 := beAt b 32 8,
    destBase := beAt b 40 8, base }

/-- Bytes of an output item. -/
def SReq.item (q : SReq) : Nat := if q.idx then 4 else q.recBytes

/-- The most items that a Sieve can deliver. -/
def SReq.bound (q : SReq) : Nat := if q.mode = 0 ∧ q.k = 0 then q.records else min q.k q.records

/-- The chained GATHER of a SIEVE (R355, R362). -/
def chainReq (b : List Byte) : GReq := gReq (slice b 48 48) (beAt b 80 8)

/-- The format of a SIEVE (R362); a top-k beyond 65,536 is judged at step 8. -/
def sieveOk (m : Msg) : Bool :=
  let b := m.body
  let q := sReq b m.address.toNat
  let f := fmtOf q.key
  let keys := [0, 1, 2, 3, 4, 9, 10, 11]
  let value := fun (v : Nat) => decide (v < 2 ^ f.bits)
  b.length == (if q.dest = 2 then 96 else 48) && m.address.toNat / 2 ^ 56 == 0 && m.address.toNat % 4 == 0 && q.mode ≤ 2 && q.dest ≤ 2 &&
    (q.idx || q.dest != 2) && beAt b 0 1 / 32 == 0 && beAt b 1 1 / 16 == 0 && keys.contains q.key && 4 ≤ q.recBytes && q.recBytes ≤ 4096 &&
    q.recBytes % 4 == 0 && q.keyOff + f.bits / 8 ≤ q.recBytes && beAt b 6 2 == 0 && 1 ≤ q.records && (q.mode == 0 || 1 ≤ q.k) &&
    !(q.mode == 0 && q.k == 0 && q.dest == 1) && (f.int || (q.p1 != 7 && q.p2 != 7)) && bit (beAt b 16 1) 7 == false &&
    allZero (slice b 17 7) && value q.v1 && value q.v2 && (if q.dest = 1 then q.destBase % 4 == 0 else q.destBase == 0) &&
    (q.dest != 2 ||
      (let c := slice b 48 48
       let g := chainReq b
       g.common c && g.fmt == 0 && g.count == 0 && g.listBase == 0 && allZero (slice c 40 8)))

/-! ### Ranges (R354) -/

/-- A range that a request names: address, bytes, whether it is written. -/
structure GRange where
  addr : Nat
  bytes : Nat
  write : Bool := false
deriving DecidableEq, Repr

/-- The table's range. -/
def GReq.tableRange (g : GReq) : GRange := { addr := g.table, bytes := (g.rows - 1) * g.stride + g.rowBytes }

/-- How many rows an inline or U32 or U64 list names. -/
def GReq.rowCount (g : GReq) : Nat :=
  if g.fmt = 2 ∧ g.listBase = 0 then (List.range g.count).foldl (fun n i => n + beAt g.inl (8 * i + 4) 2) 0 else g.count

/-- Every range that a GATHER or a SIEVE names. -/
def gatherRanges (op : Nat) (m : Msg) : List GRange :=
  let b := m.body
  if op = Op.gather then
    let g := gReq b m.address.toNat
    [g.tableRange] ++ (if g.listBase = 0 then [] else [{ addr := g.listBase, bytes := g.count * g.item }]) ++
      (if g.dest = 1 then [{ addr := g.destBase, bytes := g.rowCount * g.rowBytes, write := true }] else [])
  else
    let q := sReq b m.address.toNat
    let g := chainReq b
    [{ addr := q.base, bytes := q.records * q.recBytes }] ++
      (if q.dest = 1 then [{ addr := q.destBase, bytes := q.bound * q.item, write := true }] else []) ++
      (if q.dest = 2 then [g.tableRange] ++
        (if g.dest = 1 then [{ addr := g.destBase, bytes := q.bound * g.rowBytes, write := true }] else []) else [])

/-- Steps 6 to 8 of GATHER and SIEVE (R354, R356, R489). -/
def gatherStatus (s : State) (op : Nat) (m : Msg) : Option Nat :=
  let rs := gatherRanges op m
  let denied := fun (r : GRange) =>
    (windowFor s m.src r.addr r.bytes).any fun w => w.key != m.key || w.secondary || (r.write && w.readOnly) || (sealedSlot s w.id).isSome
  if rs.any fun r => (windowFor s m.src r.addr r.bytes).isNone then some St.notMapped
  else if rs.any denied then some St.accessDenied
  else if op = Op.gather then
    let g := gReq m.body m.address.toNat
    let badRun := fun (i : Nat) => beAt g.inl (8 * i + 4) 2 == 0 || beAt g.inl (8 * i + 6) 2 != 0
    if g.fmt = 2 ∧ g.listBase = 0 ∧ (List.range g.count).any badRun = true then some St.malformed else none
  else
    let q := sReq m.body m.address.toNat
    if q.mode ≠ 0 ∧ 65536 < q.k then some St.unsupported else none

/-! ### Units (R360) -/

/-- Whether an opcode runs on a Sieve unit first. -/
def unitKind (op : Nat) : Nat := if op = Op.sieve then 5 else 4

/-- The requests at a unit. -/
def atUnit (s : State) (op unit : Nat) : Nat :=
  countBy s.pool.txs fun t => t.unit == some unit && unitOp t == some op

/-- The unit that a request goes to: of those in service the one with the fewest requests, the lower index on a tie; none while all
hold 64. -/
def pickUnit (s : State) (op : Nat) : Option Nat :=
  ((List.range 16).filter fun u => inService s (unitKind op) u && !(unitOf s (unitKind op) u).wanted && atUnit s op u < 64).foldl (fun (b : Option Nat) u =>
    match b with
    | none => some u
    | some v => if atUnit s op u < atUnit s op v then some u else some v) none

/-- Requests without a unit are given one, in order. -/
def assignUnits (s : State) : State :=
  (s.pool.txs.filter fun t => needsUnit t && t.unit.isNone).foldl (fun s t =>
    match unitOp t with
    | some op =>
      match pickUnit s op with
      | some u => setTx s t.id fun t => { t with unit := some u }
      | none => s
    | none => s) s

/-- Whether a transaction is at a unit. -/
def isAtUnit (t : Tx) (kind unit : Nat) : Bool := t.unit == some unit && (unitOp t).any fun op => unitKind op == kind

/-- Whether a request at a unit has begun. -/
def hasBegun (t : Tx) : Bool := t.stage != .waiting || t.step != 0

/-- Requests at a unit go to another one; one in progress runs again from its start (R360). -/
def leaveUnit (s : State) (kind unit : Nat) : State :=
  assignUnits (s.pool.txs.foldl (fun s t =>
    if isAtUnit t kind unit then
      setTx s t.id fun t =>
        if hasBegun t ∧ t.status = none ∧ (t.req?).any (fun r => r.1 != Op.tileInvoke) = true then
          { t with unit := none, step := 0, plan := [], reads := [], writes := [], fills := [], toFill := [], bad := [], stage := .waiting }
        else { t with unit := none }
    else s) s)

/-- The requests that wait at a unit go to another one (R572). -/
def leaveQueued (s : State) (kind unit : Nat) : State :=
  assignUnits (s.pool.txs.foldl (fun s t =>
    if isAtUnit t kind unit && !hasBegun t then setTx s t.id fun t => { t with unit := none } else s) s)

/-- A Gather unit (kind 4) or Sieve unit (kind 5) is retired (R360, R558, R560). -/
def gatherRetired (s : State) (kind unit : Nat) : State :=
  if (unitOf s kind unit).st = 3 then s
  else
    let ev := if kind = 4 then Reg.gthEventStatus else Reg.sivEventStatus
    leaveUnit (raise (retireUnit (permanentFault s) kind unit) ev 0 2 unit []) kind unit

/-! ### Rows -/

/-- The rows a list names: `some` a row of the table, `none` a row of zeros out of range; a pool-held RUN of no rows counts as one out
of range and adds none (R356). The second part counts the out-of-range indices. -/
def listRows (g : GReq) (list : List Byte) (big : Bool) : List (Option Nat) × Nat :=
  let num := fun (i off n : Nat) => if big then beAt list (g.item * i + off) n else leAt list (g.item * i + off) n
  let row := fun (k : Nat) => if k < g.rows then some k else none
  let l := (List.range g.count).flatMap fun i =>
    if g.fmt = 2 then (List.range (num i 4 2)).map fun j => row (num i 0 4 + j) else [row (num i 0 g.item)]
  let empty := if g.fmt = 2 then countBy (List.range g.count) fun i => num i 4 2 == 0 else 0
  (l, countBy l (fun x => x.isNone) + empty)

/-- The byte range of a row. -/
def GReq.rowAddr (g : GReq) (k : Nat) : Nat := g.table + k * g.stride

/-- The lines of some rows, in order. -/
def rowLines (g : GReq) (rows : List (Option Nat)) : List (Nat × Nat) :=
  rows.filterMap fun r => r.map fun k => lineRange (g.rowAddr k) g.rowBytes

/-- Lines read in order, a line that follows itself once. -/
def lineSeq (l : List (Nat × Nat)) : List Nat :=
  (l.flatMap rangeLines).foldr (fun x r => if r.head? = some x then r else x :: r) []

/-- Runs of consecutive lines (R361). -/
def runsOf (l : List Nat) : Nat :=
  match l with
  | [] => 0
  | x :: r => 1 + ((x :: r).zip r).foldl (fun n p => if p.1 + 1 = p.2 then n else n + 1) 0

/-- The status that a line gives a gather, if it cannot be had. -/
def lineStatus (s : State) (t : Tx) (line : Nat) : Option Nat :=
  if isPoisoned s line then some St.poisoned else (t.bad.lookup line)

/-- A line that a mirror's partner may still give (R190, R359). -/
def mirrorMay (s : State) (t : Tx) (line status : Nat) : Bool :=
  !t.noMirror && (status == St.poisoned || status == St.lost) &&
    ((winOfLine s line).map fun w => mirSt s w == .paired || (mirSt s w == .resync && !(winSt s w.id).marked.contains (unitOfLine line))).getD
      false

/-- MIRROR_READ of one line for work that goes on with it (R190). -/
def askMirror (s : State) (t : Tx) (cls line status : Nat) : State :=
  match winOfLine s line with
  | some w =>
    let s := request s w.partner Op.mirrorRead cls w.key 0 (w.mbase + (128 * line - w.base)) (beBytes 2 128 ++ [0, 0]) (.mirrorRead t.id w.id)
    setTx s t.id fun t => { t with stage := .finishing, mirrorRead := some status }
  | none => s

/-- The transaction gathers other lines: it waits for them as at its start. -/
def regather (s : State) (id : Nat) (reads writes : Ranges) (f : Tx → Tx) : State :=
  setTx s id fun t => { f t with stage := .waiting, reads, writes, bad := [] }

/-- The completion payload of GATHER and SIEVE (R358). -/
def gatherReply (items total : Nat) (trunc : Bool) : List Byte :=
  beBytes 4 items ++ beBytes 4 total ++ beBytes 1 (if trunc then 1 else 0) ++ List.replicate 7 0

/-- Items sent as RESULT_DATA frames of whole items, at most 4,088 bytes each (R353, R357, R358). An item of 4,092 or 4,096 bytes, of
which none fits, goes in a frame of its own. DESIGN CHOICE, log entry 230. -/
def sendItems (s : State) (m : Msg) (cls size : Nat) (items : List (List Byte)) : State :=
  let per := max (4088 / max size 1) 1
  (List.range (ceilDiv items.length per)).foldl (fun s i =>
    let part := (items.drop (i * per)).take per
    emit s (.pmt { opcode := Op.resultData, cls, source := selfEp s, dest := m.src, tag := m.tag.toNat, seq := m.seq.toNat, key := m.key,
                   epoch := m.epoch.toNat, address := m.address.toNat,
                   payload := beBytes 4 (i * per) ++ beBytes 2 part.length ++ [0, 0] ++ part.flatten })) s

/-- Lines that were not in HBM are counted and put into the cache (R168, R361). -/
def linesRead (s : State) (t : Tx) (lines : List Nat) (gather : Bool) : State :=
  let miss := (lines.foldl addOnce []).filter fun l => !inHbm s l
  let s := if gather then bump (bump (bump s Reg.gthLinesLo lines.length) Reg.gthRunsLo (runsOf lines)) Reg.gthMissLo miss.length else s
  miss.foldl (fun s l => txAlloc s t l) s

/-- The rows of a gather are read: delivered up to the first that cannot be had, and the request completes (R356 to R359, R366).
`total` is what TOTAL shows; `trunc` the Sieve's in a chain. -/
def runRows (s : State) (t : Tx) (m : Msg) (g : GReq) (total : Nat) (trunc : Bool) : State :=
  let statusOf := fun (r : Option Nat) =>
    match r with
    | some k => (rangeLines (lineRange (g.rowAddr k) g.rowBytes)).findSome? fun l => (lineStatus s t l).map fun st => (l, st)
    | none => none
  match t.plan.findSome? statusOf with
  | some (l, st) =>
    if mirrorMay s t l st then askMirror s t m.cls.toNat l st
    else
      let good := t.plan.takeWhile fun r => (statusOf r).isNone
      deliver (linesRead s t (lineSeq (rowLines g good)) true) t m g good total trunc st
  | none => deliver (linesRead s t (lineSeq (rowLines g t.plan)) true) t m g t.plan total trunc St.ok
where
  /-- Rows go to the requester or to the pool. -/
  deliver (s : State) (t : Tx) (m : Msg) (g : GReq) (rows : List (Option Nat)) (total : Nat) (trunc : Bool) (st : Nat) : State :=
    let items := rows.map fun (r : Option Nat) =>
      match r with
      | some k => dmaRead s t (g.rowAddr k) g.rowBytes
      | none => List.replicate g.rowBytes 0
    let s := bump s Reg.gthReqLo 1
    let s := if g.dest = 1 then dmaWrites s t g.destBase items.flatten else sendItems s m (coatFld s Reg.gthCfg 0 19 4) g.rowBytes items
    outcome s t.id st (gatherReply items.length total trunc)

/-- The rows of a gather become the transaction's lines. -/
def gatherRows (s : State) (t : Tx) (g : GReq) (rows : List (Option Nat)) (total : Nat) : State :=
  let writes := if g.dest = 1 then [lineRange g.destBase (rows.length * g.rowBytes)] else []
  let reads := (rowLines g rows) ++ (if g.dest = 1 then partLines g.destBase (rows.length * g.rowBytes) else [])
  regather s t.id reads writes fun t => { t with plan := rows, total, step := 9 }

/-- GATHER: its list, then its rows (R356). -/
def runGather (s : State) (t : Tx) (m : Msg) : State :=
  let g := gReq m.body m.address.toNat
  if t.step = 9 then runRows s t m g t.total false
  else if g.listBase = 0 then
    let r := listRows g g.inl true
    gatherRows (bump s Reg.gthOorLo r.2) t g r.1 r.2
  else if t.step = 0 then regather s t.id [lineRange g.listBase (g.count * g.item)] [] fun t => { t with step := 1 }
  else
    let lines := rangeLines (lineRange g.listBase (g.count * g.item))
    match lines.findSome? fun l => (lineStatus s t l).map fun st => (l, st) with
    | some (l, st) =>
      if mirrorMay s t l st then askMirror s t m.cls.toNat l st
      else outcome (bump s Reg.gthReqLo 1) t.id st (gatherReply 0 0 false)
    | none =>
      let r := listRows g (dmaRead s t g.listBase (g.count * g.item)) false
      gatherRows (bump (linesRead s t lines true) Reg.gthOorLo r.2) t g r.1 r.2

/-! ### Sieve (R363 to R365) -/

/-- A term of the predicate (R363). -/
def sieveTerm (f : Fmt) (op key value : Nat) : Bool :=
  let a := decodeNum f key
  let b := decodeNum f value
  match op with
  | 0 => true
  | 1 => a.eqv b
  | 2 => !a.eqv b
  | 3 => a.lt b
  | 4 => a.lt b || a.eqv b
  | 5 => b.lt a
  | 6 => b.lt a || a.eqv b
  | _ => key &&& value != 0

/-- Whether a record passes (R363). -/
def sievePasses (q : SReq) (key : Nat) : Bool :=
  let f := fmtOf q.key
  let a := sieveTerm f q.p1 key q.v1
  let b := sieveTerm f q.p2 key q.v2
  if q.either then a || b else a && b

/-- One record put into a list that is in output order (R365): equal keys keep the record order. -/
def topInsert (max : Bool) (x : Nat × Num) : List (Nat × Num) → List (Nat × Num)
  | [] => [x]
  | y :: r => if (if max then y.2.lt x.2 else x.2.lt y.2) then x :: y :: r else y :: topInsert max x r

/-- What a Sieve finds among its records' keys: candidates in output order, how many candidates, NaN keys met by a top-k. -/
def sieveFind (q : SReq) (keys : List Nat) : List Nat × Nat × Nat :=
  let f := fmtOf q.key
  let passing := (keys.zipIdx.filter fun x => sievePasses q x.1).map fun x => (x.2, decodeNum f x.1)
  if q.mode = 0 then
    let l := passing.map fun x => x.1
    (if q.k = 0 then l else l.take q.k, l.length, 0)
  else
    let c := passing.filter fun x => x.2 != .nan
    ((((c.foldl (fun l x => topInsert (q.mode == 1) x l) []).map fun x => x.1).take q.k), c.length, passing.length - c.length)

/-- The counters of a Sieve (R385). -/
def countSieve (s : State) (q : SReq) (total nans : Nat) (trunc : Bool) : State :=
  let s := bump (bump (bump s Reg.sivRecordsLo q.records) Reg.sivPassedLo total) Reg.sivNanLo nans
  let s := if q.mode ≠ 0 ∧ 256 < q.k then bump s Reg.sivTopkSlowLo 1 else s
  let s := if q.mode = 0 ∧ q.k = 0 then bump s Reg.sivTwoPassLo 1 else s
  let s := if trunc then bump s Reg.sivTruncLo 1 else s
  bump s Reg.sivReqLo 1

/-- SIEVE: its records, then its output: to the requester, to the pool, or as the list of a gather (R364 to R366). -/
def runSieve (s : State) (t : Tx) (m : Msg) : State :=
  let q := sReq m.body m.address.toNat
  let n := q.records * q.recBytes
  let g := chainReq m.body
  let truncOf := fun (total : Nat) => q.mode == 0 && q.k != 0 && decide (q.k < total)
  if t.step = 9 then runRows s t m g t.total (truncOf t.total)
  else if t.step = 0 then regather s t.id [lineRange q.base n] [] fun t => { t with step := 1 }
  else if t.step = 2 then
    let items := t.plan.filterMap fun (r : Option Nat) => r.map fun i =>
      if q.idx then leBytes 4 i else dmaRead s t (q.base + i * q.recBytes) q.recBytes
    outcome (dmaWrites s t q.destBase items.flatten) t.id St.ok (gatherReply items.length t.total (truncOf t.total))
  else
    let lines := rangeLines (lineRange q.base n)
    match lines.findSome? fun l => (lineStatus s t l).map fun st => (l, st) with
    | some (l, st) =>
      if mirrorMay s t l st then askMirror s t m.cls.toNat l st
      else outcome (bump s Reg.sivReqLo 1) t.id st (gatherReply 0 0 false)
    | none =>
      let data := dmaRead s t q.base n
      let keys := (List.range q.records).map fun i => leAt data (i * q.recBytes + q.keyOff) ((fmtOf q.key).bits / 8)
      let r := sieveFind q keys
      let total := r.2.1
      let s := countSieve (linesRead s t lines false) q total r.2.2 (truncOf total)
      let plan := r.1.map some
      if q.dest = 0 then
        let items := r.1.map fun i => if q.idx then leBytes 4 i else slice data (i * q.recBytes) q.recBytes
        outcome (sendItems s m (coatFld s Reg.sivCfg 0 0 4) q.item items) t.id St.ok (gatherReply items.length total (truncOf total))
      else if q.dest = 1 then
        let out := plan.length * q.item
        regather s t.id ([lineRange q.base n] ++ partLines q.destBase out) [lineRange q.destBase out] fun t => { t with plan, total, step := 2 }
      else
        let rows := r.1.map fun i => if i < g.rows then some i else none
        gatherRows (bump s Reg.gthOorLo (countBy rows fun x => x.isNone)) t g rows total

end Sys2Proof.Machine
end

