-- ==== Sys2Proof/Machine/RubOps.lean ====
section
/-! DEFINITION. Reduce-update-broadcast (spec/11 R368 to R375): the parameter records, the optimizers, the state's write, the
broadcast. -/

namespace Sys2Proof.Machine

open Sys2Proof

/-! ### The optimizers (R371): FP32 words, rounded at every step -/

/-- The nine scalars of a parameter record, by their order in R370. -/
def RubPar.get (p : RubPar) (i : Nat) : Nat := p.vals.getD i 0

/-- An FP32 word with its sign changed. -/
def f32neg (a : Nat) : Nat := a ^^^ 0x80000000

/-- sign(x): 0 for a zero, a NaN for a NaN. -/
def f32sign (a : Nat) : Nat :=
  match decodeNum fp32 a with
  | .nan => 0x7FC00000
  | x => if x.isZero then 0 else if x.neg then 0xBF800000 else f32one

/-- min(max(g, -c), c) unless c is a zero. -/
def f32clip (g c : Nat) : Nat :=
  if (decodeNum fp32 c).isZero then g
  else encodeNum fp32 (((decodeNum fp32 g).max (decodeNum fp32 (f32neg c))).min (decodeNum fp32 c))

/-- w - LR * (x + WD * w). -/
def f32descend (p : RubPar) (x w : Nat) : Nat := f32sub w (f32mul (p.get 0) (f32add x (f32mul (p.get 4) w)))

/-- One element's update: new w, m, v; none where the gradient is not finite (R371). -/
def rubElem (opt : Nat) (p : RubPar) (grad w m v : Nat) : Option (Nat × Nat × Nat) :=
  let g0 := f32mul grad (p.get 5)
  let b1 := p.get 1
  let b2 := p.get 2
  if !(decodeNum fp32 g0).finite then none
  else
    let g := f32clip g0 (p.get 8)
    let mix := fun (b x y : Nat) => f32add (f32mul b x) (f32mul (f32sub f32one b) y)
    match opt with
    | 0 => some (f32descend p g w, m, v)
    | 1 => let m' := f32add (f32mul b1 m) g; some (f32descend p m' w, m', v)
    | 2 =>
      let m' := mix b1 m g
      let v' := mix b2 v (f32mul g g)
      let x := f32div (f32mul m' (p.get 6)) (f32add (f32sqrt (f32mul v' (p.get 7))) (p.get 3))
      some (f32descend p x w, m', v')
    | _ => some (f32descend p (f32sign (mix b1 m g)) w, mix b2 m g, v)

/-! ### A chunk -/

/-- The state arrays that an optimizer uses: W; M by OPT 1 to 3; V by OPT 2 (R371). -/
def rubArrays (x : Grp) : List Nat := [x.wBase] ++ (if x.opt = 0 then [] else [x.mBase]) ++ if x.opt = 2 then [x.vBase] else []

/-- The oldest chunk in the ring that no tile has taken (R368). -/
def ringNext (s : State) (g : Nat) : Option RingEnt := (grpSt s g).ring.find? fun r => r.tile.isNone

/-- The chunks that a tile has, of every group that names it (R375). -/
def tileChunks (s : State) (tile : Nat) : Nat := sumBy s.trw.groups fun p => countBy p.2.ring fun r => r.tile == some tile

/-- The tile of a set that a chunk goes to: of those in service the one with the fewest chunks, the lower index on a tie (R375). -/
def rubTile (s : State) (x : Grp) : Option Nat :=
  (((List.range x.tileCount).map fun i => x.tileFirst + i).filter (inService s 2)).foldl (fun (b : Option Nat) t =>
    match b with
    | none => some t
    | some u => if tileChunks s t < tileChunks s u then some t else some u) none

/-- A ring entry changed. -/
def setRing (s : State) (g e c : Nat) (f : RingEnt → RingEnt) : State :=
  setGrp s g fun y => { y with ring := y.ring.map fun r => if r.epoch = e ∧ r.chunk = c then f r else r }

/-- A tile takes the oldest chunk: its parameter record, where the epoch's is not read yet, and its state are fetched (R368, R372). -/
def rubStart (s : State) (g tile : Nat) : State :=
  match ringNext s g with
  | none => s
  | some r =>
    match (grpSt s g).epochs.find? fun x => x.num == r.epoch with
    | none => s
    | some x =>
      if rubTile s x.grp ≠ some tile then s
      else
        let n := 4 * x.grp.elemsOf r.chunk
        let off := 4 * (r.chunk * x.grp.ce)
        let arrays := (rubArrays x.grp).map fun a => lineRange (a + off) n
        let par := if x.rub.isNone then [((x.grp.param + 128 * (r.epoch % 8)) / 128, 1)] else []
        let id := s.pool.nextTx
        let s := newTx s { id, work := .rub g tile r.epoch r.chunk, reads := par ++ arrays, writes := arrays }
        let s := setRing s g r.epoch r.chunk fun r => { r with tile := some tile, tx := some id }
        setGrp s g fun y => { y with rubEpoch := r.epoch }

/-- Bytes of the pool as an update tile sees them; a line that cannot be had gives free values (the spec states none). -/
def rubRead (s : State) (t : Tx) (a n : Nat) : List Byte × State :=
  let r := lineRange a n
  let p := (rangeLines r).foldl (fun (p : List Byte × State) l =>
    match lineStatus p.2 t l with
    | none => (p.1 ++ openSeal p.2 l (padTo (lineData p.2 t l) 128 0), p.2)
    | some _ => let d := draw p.2; (p.1 ++ leBytes 128 d.1, d.2)) ([], s)
  (slice p.1 (a - 128 * r.1) n, p.2)

/-- An update's state is written line by line; a line that could not be read stays as it is. -/
def rubWrite (s : State) (t : Tx) (a : Nat) (bs : List Byte) : State :=
  (rangeLines (lineRange a bs.length)).foldl (fun s l =>
    if (lineStatus s t l).isSome then s
    else
      let lo := max a (128 * l)
      let hi := min (a + bs.length) (128 * (l + 1))
      dmaWrite s t lo (slice bs (lo - a) (hi - lo))) s

/-- The epoch's parameter record (R370, R372): one of another epoch makes it skipped and ABORTED. -/
def rubParam (s : State) (t : Tx) (g : Nat) (x : Epoch) : RubPar × State :=
  match x.rub with
  | some p => (p, s)
  | none =>
    let r := rubRead s t (x.grp.param + 128 * (x.num % 8)) 128
    let b := r.1
    let p : RubPar := { skip := leAt b 0 2 != x.num || bit (leAt b 2 1) 0, vals := (List.range 9).map fun i => leAt b (8 + 4 * i) 4 }
    let s := setEpoch r.2 g x.num fun x => { x with rub := some p }
    if leAt b 0 2 = x.num then (p, s)
    else
      let s := setEpoch s g x.num fun x => { x with aborted := true }
      (p, raise (bumpSel s Reg.gthRubParamStaleLo g 1) Reg.gthEventStatus 2 1 g [])

/-- The payload of a RUB_BCAST (R373, R433, R441): COBs only where they are strictly smaller. -/
def bcastPayload (x : Grp) (ws : List Nat) : List Byte :=
  let vals := ws.map (decodeNum fp32)
  let raw := storeRow x.bcast x.bcastMx vals
  let blocks := (chunksOf 128 (ceilDiv ws.length 128) vals).map fun b =>
    if x.bcastMx then
      let e := (chunksOf 32 (mxBlocks b.length) b).map (mxEncode x.bcast)
      cobBytes x.bcast true (e.map (·.1)) (e.flatMap fun p => p.2)
    else cobBytes x.bcast false [] (b.map (encodeNum (fmtOf x.bcast)))
  if x.compress ∧ blocks.flatten.length < raw.length then [0, 0, 0, 0] ++ blocks.flatten else [1, 0, 0, 0] ++ raw

/-- FP32 words of bytes. -/
def f32words (b : List Byte) : List Nat := unpackElems 32 (b.length / 4) b

/-- A use of HBM granules (R465). -/
inductive Granule where
  | pinned (w : Win)
  | program (e : ProgEnt)
  | resident (e : ResEnt)
  | unassigned
  | internal
deriving DecidableEq, Repr

/-- The world that the granule table gives a use: a pinned region's its window's, tile working memory's that of the program or resident slot
charged for it; everything else is secure (R465). -/
def Granule.world : Granule → Bool
  | .pinned w => w.key.world
  | .program e => e.key.world
  | .resident e => e.key.world
  | _ => true

/-- The world of a pool line: its granule's in the pinned region, its tag's in the associative cache (R465). -/
def lineWorld (s : State) (line : Nat) : Option Bool :=
  (winOfLine s line).map fun w => if w.policy = 0 then (Granule.pinned w).world else w.key.world

/-- Lines of the other world than a requester of the block's own reaches (R466). -/
def worldBreak (s : State) (world : Bool) (g : Ranges) : Bool := (g.flatMap rangeLines).any fun l => (lineWorld s l).any (· != world)

/-- A world violation (R466): counted, raised, and the requester's job enters frost. Which unit asked, and the granule behind the line,
are not fixed by the manual: free values. -/
def worldViolated (s : State) (job : Nat) : State :=
  let a := draw s
  let b := draw a.2
  let s := raise (bump b.2 Reg.secWorldViolLo 1) Reg.secEventStatus 3 2 noUnit (det 4 a.1 ++ det 4 b.1)
  addHook s (.frost job 3 (selfEp s) 2)

/-- A chunk's update (R371): the state is written by DMA, the weights to broadcast are kept in the chunk's ring entry. -/
def runRub (s : State) (t : Tx) (g e c : Nat) : State :=
  match (grpSt s g).epochs.find? (fun x => x.num == e), (grpSt s g).ring.find? fun r => r.epoch == e && r.chunk == c with
  | some x, some r =>
    match (t.reads.flatMap rangeLines).findSome? fun l => (lineStatus s t l).bind fun st => if mirrorMay s t l st then some (l, st) else none with
    | some (l, st) => askMirror s t 0 l st
    | none =>
      let p := rubParam s t g x
      if p.1.skip then outcome p.2 t.id St.ok []
      else
        let n := x.grp.elemsOf c
        let off := 4 * (c * x.grp.ce)
        let rw := rubRead p.2 t (x.grp.wBase + off) (4 * n)
        let rm := if x.grp.opt = 0 then ([], rw.2) else rubRead rw.2 t (x.grp.mBase + off) (4 * n)
        let rv := if x.grp.opt = 2 then rubRead rm.2 t (x.grp.vBase + off) (4 * n) else ([], rm.2)
        let w := f32words rw.1
        let m := f32words rm.1
        let v := f32words rv.1
        let grads := (unpackElems (fmtOf x.grp.outF).bits n r.grads).map (convert (fmtOf x.grp.outF) fp32)
        let new := (List.range n).map fun i =>
          rubElem x.grp.opt p.1 (grads.getD i 0) (w.getD i 0) (m.getD i 0) (v.getD i 0)
        let bad := countBy new fun (y : Option (Nat × Nat × Nat)) => y.isNone
        let s := rv.2
        let s := if bad = 0 then s else raise (bumpSel s Reg.gthRubNonfiniteLo g bad) Reg.gthEventStatus 3 1 g []
        let res := (List.range n).map fun i => (new.getD i none).getD (w.getD i 0, m.getD i 0, v.getD i 0)
        let put := fun (s : State) (base : Nat) (f : Nat × Nat × Nat → Nat) => rubWrite s t (base + off) (res.flatMap fun y => leBytes 4 (f y))
        let s := put s x.grp.wBase (fun y => y.1)
        let s := if x.grp.opt = 0 then s else put s x.grp.mBase fun y => y.2.1
        let s := if x.grp.opt = 2 then put s x.grp.vBase fun y => y.2.2 else s
        outcome (setRing s g e c fun r => { r with grads := bcastPayload x.grp (res.map fun y => y.1) }) t.id St.ok []
  | _, _ => outcome s t.id St.ok []

/-- A chunk's write is visible: its weights are broadcast (R373), its ring entry goes, and its epoch owes one result less (R374). One whose
update was refused (R466) broadcasts nothing. -/
def rubEnded (s : State) (g e c status : Nat) : State :=
  let entry := (grpSt s g).ring.find? fun r => r.epoch == e && r.chunk == c
  let s := setGrp s g fun y => { y with ring := y.ring.filter fun r => !(r.epoch == e && r.chunk == c) }
  match (grpSt s g).epochs.find? (fun x => x.num == e), entry with
  | some x, some r =>
    let skip := (x.rub.map RubPar.skip).getD true || status != St.ok
    let s := if skip then s else
      multicast s x.grp.repl x.grp.mcast Op.rubBcast x.grp.key e (redAddr g (c * x.grp.ce) false) r.grads
    serveAll (resultDone s g e)
  | _, _ => serveAll s

/-- Chunks whose write has not begun leave a tile, and another takes them (R375), with them any later epoch's chunk of the same elements
(R368); those of a job in frost are discarded (R564). -/
def rubLeave (s : State) (f : Nat → Nat → Nat → Bool) (discard : Bool) : State :=
  let goes := fun (t : Tx) =>
    match t.work with
    | .rub g tile e _ => f g tile e && t.status.isNone
    | _ => false
  let behind := fun (t : Tx) =>
    match t.work with
    | .rub g _ e c => !discard && t.status.isNone &&
        s.pool.txs.any fun u => goes u && (match u.work with | .rub g' _ e' c' => g' == g && c' == c && e' != e && u.id < t.id | _ => false)
    | _ => false
  s.pool.txs.foldl (fun s t =>
    match t.work with
    | .rub g _ e c =>
      if goes t || behind t then
        let s := dropTx s t.id
        if discard then setGrp s g fun y => { y with ring := y.ring.filter fun r => !(r.epoch == e && r.chunk == c) }
        else setRing s g e c fun r => { r with tile := none, tx := none }
      else s
    | _ => s) s

/-- Every tile that a RUB of the coat names (R369). -/
def rubTiles (c : Coat) : List Nat :=
  ((grpsIn c).filter fun x => x.root && x.dest == 4).flatMap fun x => (List.range x.tileCount).map fun i => x.tileFirst + i

end Sys2Proof.Machine
end

