-- ==== Sys2Proof/Machine/TileOps.lean ====
section
/-! DEFINITION. Matrix tiles (spec/12): program slots and lowering (R400 to R402), invocations and their checks (R404, R405), parts,
ops and their DMA (R403, R407 to R410), faults and frost (R411 to R414); the roles of host cores (spec/14 R448). -/

namespace Sys2Proof.Machine

open Sys2Proof

/-! ### Host core roles (R448, R452, R459) -/

/-- LOWER_CORES. -/
def lowerCores (s : State) : Nat := coatFld s Reg.tilCfg 0 14 3

/-- HOST_CORES. -/
def hostCores (s : State) : Nat := coatFld s Reg.tilCfg 0 9 5

/-- ROLE of a core: 0 firmware, 1 lowering, 2 host ops, 3 resident, 4 borrowed. -/
def coreRole (s : State) (c : Nat) : Nat :=
  if c < 4 then 0
  else if c < 4 + lowerCores s then 1
  else if c < 4 + lowerCores s + hostCores s then (if s.cor.borrowed.contains c then 4 else 2)
  else 3

/-- Whether a core runs a host op now. -/
def coreRunsOp (s : State) (c : Nat) : Bool := s.til.invs.any fun v => v.core == some c

/-- The host-op cores in service. -/
def hostOpCores (s : State) : List Nat := (List.range 24).filter fun c => coreRole s c == 2 && inService s 9 c && !(unitOf s 9 c).wanted && !s.cor.lending.contains c

/-! ### Program slots (R400, R401) -/

/-- A program slot. -/
def progSt (s : State) (slot : Nat) : ProgSt := alGetD s.til.progs slot {}

/-- A program slot changed. -/
def setProg (s : State) (slot : Nat) (p : ProgSt) : State := { s with til := { s.til with progs := alSet s.til.progs slot p } }

/-- STATE of a slot (R401, R423): 0 EMPTY, 1 LOWERING, 2 READY, 3 REPLACING. -/
def ProgSt.code (p : ProgSt) : Nat :=
  match p.cur, p.new with
  | none, none => 0
  | none, some _ => if p.applied then 1 else 0
  | some _, none => 2
  | some _, some _ => if p.applied then 3 else 2

/-- The program that serves a slot, or the one being lowered where there is no earlier one. -/
def ProgSt.serving (p : ProgSt) : Option ProgEnt :=
  match p.cur with
  | some c => some c
  | none => if p.applied then p.new else none

/-- Whether a lowered program takes its slot over: from the tick after its lowering has ended on, once its coat has applied (R401, R416). -/
def ProgSt.due (p : ProgSt) (tick : Nat) : Bool := p.new.isSome && p.applied && p.lowered.any (· != tick)

/-- A program whose time has come serves. -/
def ProgSt.settled (p : ProgSt) (tick : Nat) : ProgSt := if p.due tick then { cur := p.new } else p

/-- The programs that a patch brings begin to be lowered when it passes its checks (R401). -/
def progsReceived (s : State) (old new : Coat) : State :=
  new.tile.progs.foldl (fun s (p : ProgEnt) =>
    if old.tile.progs.contains p then s
    else setProg s p.slot { progSt s p.slot with new := some p, lowered := none, applied := false }) s

/-- Programs that wait for a coat which will not apply are given up. -/
def progsDropped (s : State) : State :=
  let f := fun (p : ProgSt) => if p.applied then p else { p with new := none, lowered := none }
  { s with til := { s.til with progs := s.til.progs.map fun x => (x.1, f x.2) } }

/-- The coat in force: removed slots are empty, replaced ones go over to the new program once it is lowered (R401). -/
def progsApplied (s : State) (c : Coat) : State :=
  let keep := s.til.progs.filter fun p => c.tile.progs.any fun (e : ProgEnt) => e.slot == p.1
  let f := fun (p : ProgSt) => if p.new.isSome then ({ p with applied := true } : ProgSt).settled (tickNow s) else p
  { s with til := { s.til with progs := keep.map fun x => (x.1, f x.2) } }

/-- In the tick after their lowering has ended, programs take their slots over (R401). -/
def progsTurn (s : State) : State := { s with til := { s.til with progs := s.til.progs.map fun p => (p.1, p.2.settled (tickNow s)) } }

/-- The boot coat's programs are lowered during start-up (R401). -/
def progsBooted (s : State) (c : Coat) : State :=
  c.tile.progs.foldl (fun s (p : ProgEnt) => setProg s p.slot { new := some p, applied := true }) s

/-- A rollback restores the earlier programs without lowering them again (R401). -/
def progsRestored (s : State) (c : Coat) : State :=
  let f := fun (p : ProgEnt) =>
    let x := progSt s p.slot
    if x.cur = none ∧ x.new = some p then x else ({ cur := some p } : ProgSt)
  { s with til := { s.til with progs := c.tile.progs.map fun (p : ProgEnt) => (p.slot, f p) } }

/-- Lowering of a slot's program ends (R401); ops placed on host cores are reported (R402). -/
def lowerEnded (s : State) (slot : Nat) : State :=
  let p := progSt s slot
  match p.new with
  | none => s
  | some e =>
    if p.lowered.isSome then s
    else
      let n := (frHostOps e.image).length
      let s := raise (setProg s slot { p with lowered := some (tickNow s) }) Reg.tilEventStatus 2 1 slot []
      if n = 0 then s else raise s Reg.tilEventStatus 1 1 slot (det 2 slot ++ det 4 n)

/-! ### Invocations -/

/-- An invocation by its transaction. -/
def invOf (s : State) (tx : Nat) : Option Inv := s.til.invs.find? fun v => v.tx == tx

/-- An invocation changed. -/
def setInv (s : State) (tx : Nat) (f : Inv → Inv) : State :=
  { s with til := { s.til with invs := s.til.invs.map fun v => if v.tx = tx then f v else v } }

/-- PARTS (R403). -/
def partsOf (p : ProgEnt) : Nat := min (frTilesMax p.image) p.count

/-- CONC, 0 standing for 64 (R400, R422). -/
def concOf (p : ProgEnt) : Nat := if p.conc = 0 then 64 else p.conc

/-- The invocations of a slot that execute. -/
def executing (s : State) (slot : Nat) : Nat := countBy s.til.invs fun v => v.slot == slot && v.started.isSome

/-- Microseconds since an invocation began to execute (R408). -/
def Inv.elapsed (s : State) (v : Inv) : Nat :=
  match v.started with
  | some t => min ((tickNow s + two64 - t) % two64 / 500) (two32 - 1)
  | none => 0

/-- The 16-byte payload of an invocation's completion (R408). -/
def invPayload (s : State) (v : Inv) : List Byte :=
  beBytes 4 v.items ++ beBytes 4 v.total ++ beBytes 1 ((if v.host then 1 else 0) + if v.rerun then 2 else 0) ++ [0, 0, 0] ++
    beBytes 4 (v.elapsed s)

/-- An invocation's status is decided. -/
def invEnd (s : State) (v : Inv) (status : Nat) : State :=
  setTx (outcome s v.tx status (invPayload s v)) v.tx fun t => { t with unit := none, fills := [], mirrorRead := none }

/-! ### TILE_INVOKE: steps 4 to 8 (R404, R405) -/

/-- PROGRAM of a payload. -/
def invSlot (m : Msg) : Nat := beAt m.body 0 2

/-- ARG_BASE of each argument. -/
def invBases (m : Msg) : List Nat := (List.range (beAt m.body 2 1)).map fun i => beAt m.body (8 + 8 * i) 8

/-- Step 4 (R404). -/
def invokeFormat (m : Msg) : Bool :=
  let n := beAt m.body 2 1
  m.address == 0 && 8 ≤ m.length.toNat && n ≤ 16 && m.length.toNat == 8 + 8 * n && invSlot m ≤ 1023 && allZero (slice m.body 3 5) &&
    (invBases m).all fun b => b / 2 ^ 56 == 0 && b % 128 == 0

/-- An argument's range: base, bytes, whether it is written. -/
def invRanges (img : List Byte) (bases : List Nat) : List GRange :=
  bases.zipIdx.map fun b => { addr := b.1, bytes := frArgEnd img b.2, write := frArgOut img b.2 }

/-- Whether a written argument range meets another (R405). -/
def rangesClash (rs : List GRange) : Bool :=
  rs.zipIdx.any fun a => rs.zipIdx.any fun b =>
    a.2 != b.2 && a.1.write && decide (a.1.addr < b.1.addr + b.1.bytes) && decide (b.1.addr < a.1.addr + a.1.bytes)

/-- Steps 6 to 8 (R404, R405): an argument that binds no tensor has no range. -/
def invokeStatus (s : State) (m : Msg) : Option Nat :=
  match (progSt s (invSlot m)).serving with
  | none => some St.notMapped
  | some p =>
    let rs := (invRanges p.image (invBases m)).filter fun r => 0 < r.bytes
    let denied := fun (r : GRange) =>
      (windowFor s m.src r.addr r.bytes).any fun w => w.key != m.key || w.secondary || (r.write && w.readOnly)
    if rs.any fun r => (windowFor s m.src r.addr r.bytes).isNone then some St.notMapped
    else if p.key ≠ m.key ∨ rs.any denied = true then some St.accessDenied
    else if beAt m.body 2 1 ≠ frArgs p.image ∨ rangesClash rs = true then some St.malformed
    else none

/-- A TILE_INVOKE that steps 4 to 9 stop completes with the payload of R408 too. -/
def stopInvoke (s : State) (m : Msg) (status : Nat) : State :=
  complete s m status (List.replicate 16 0) false false true

/-- Step 10 begins: the invocation takes its tracker entry and the program that serves now (R401, R416). -/
def admitInvoke (s : State) (m : Msg) : State :=
  match (progSt s (invSlot m)).serving with
  | none => stopInvoke s m St.notMapped
  | some p =>
    let id := s.pool.nextTx
    let s := newTx s { id, source := m.src, tag := m.tag.toNat, work := .req Op.tileInvoke m }
    let v : Inv := { tx := id, source := m.src, tag := m.tag.toNat, slot := invSlot m, prog := p, bases := invBases m }
    { s with til := { s.til with invs := s.til.invs ++ [v] } }

/-! ### Ops -/

/-- The address of an argument's tensor. -/
def Inv.addr (v : Inv) (t : FrTensor) : Nat := v.bases.getD t.arg 0 + t.off

/-- The bytes from an element to another one in a tensor stored plainly: rows of the first axis. -/
def rowSpan (t : FrTensor) (k : Nat) : Nat × Nat :=
  let per := t.count / max (t.dims.headD 1) 1
  let w := (fmtOf t.fmt).bits
  if t.rank ≤ 1 then (k * w / 8, ((k + 1) * w + 7) / 8 - k * w / 8)
  else
    let n := per / max t.last 1 * packedBytes w t.last
    (k * n, n)

/-- The rows of its first axis that an index tensor's values name, in range. -/
def rowsNamed (t : FrTensor) (idx : List Num) : List Nat :=
  idx.filterMap fun x => let k := x.scaled 0; if 0 ≤ k ∧ k < (t.dims.headD 1 : Int) then some k.toNat else none

/-- Whether an op reads its table, or writes its output, by rows: GATHER_ROWS and SCATTER_ADD on a plainly stored argument. -/
def byRows (o : FrOp) (t : FrTensor) : Bool := (o.code == 0x50 || o.code == 0x51) && t.isArg && !t.mx && !t.cob

/-- The tensor that GATHER_ROWS or SCATTER_ADD names rows of. -/
def rowTensor (img : List Byte) (o : FrOp) : FrTensor := frTensor img (if o.code = 0x50 then o.inp 0 else o.out)

/-- The lines of an op's argument tensors: those it reads, those it writes. `rows`: the named rows where it goes by rows, none before
they are known. -/
def opLines (v : Inv) (o : FrOp) (rows : Option (List Nat)) : Ranges × Ranges :=
  let img := v.prog.image
  let whole := fun (i : Nat) =>
    let t := frTensor img i
    if t.isArg then [lineRange (v.addr t) t.bytes] else []
  let rt := rowTensor img o
  let named := (rows.getD []).map fun k => lineRange (v.addr rt + (rowSpan rt k).1) (rowSpan rt k).2
  let ins := o.uses.flatMap fun i => if byRows o rt && o.code == 0x50 && i == o.inp 0 then named else whole i
  if o.isControl then (ins, [])
  else
    let t := frTensor img o.out
    if !t.isArg then (ins, [])
    else if o.code = 0x51 then (if byRows o rt then (ins ++ named, named) else (ins ++ whole o.out, whole o.out))
    else (ins ++ partLines (v.addr t) t.bytes, whole o.out)

/-- The current op's DMA begins: a transaction of its own under the invocation's entry (R390). -/
def startDma (s : State) (v : Inv) : State :=
  let o := frOp v.prog.image v.pc
  let g := opLines v o (if byRows o (rowTensor v.prog.image o) then none else some [])
  setInv (newTx s { id := 0, work := .tileOp v.tx, reads := g.1, writes := g.2 }) v.tx fun v => { v with dma := true }

/-- A tensor's stored bytes as an op sees them; a TEMP tensor that nothing has written reads free values. -/
def tensorBytes (s : State) (t : Tx) (v : Inv) (i : Nat) : List Byte × State :=
  let img := v.prog.image
  let x := frTensor img i
  if x.isArg then (dmaRead s t (v.addr x) x.bytes, s)
  else if x.kind = 3 then (slice img (frConstAt img + x.off) x.bytes, s)
  else
    match alGet v.temps i with
    | some b => (b, s)
    | none => let d := draw s; (leBytes x.bytes d.1, d.2)

/-- An operand's values; each COB group that the operand port rejects is logged (R440). -/
def operand (s : State) (t : Tx) (v : Inv) (i : Nat) : List Num × State :=
  let b := tensorBytes s t v i
  let x := tensorValues (frTensor v.prog.image i) b.1
  (x.1, x.2.foldl (fun s g => logEvent s 11 1 34 v.slot (det 2 v.slot ++ det 2 i ++ det 4 g)) b.2)

/-- Several operands' values. -/
def operands (s : State) (t : Tx) (v : Inv) (l : List Nat) : List (List Num) × State :=
  l.foldl (fun (p : List (List Num) × State) i => let x := operand p.2 t v i; (p.1 ++ [x.1], x.2)) ([], s)

/-- The op computes and its output is written: by DMA to an argument, else to the invocation's TEMP memory (R390, R391). -/
def runOp (s : State) (t : Tx) (v : Inv) (o : FrOp) : State :=
  let img := v.prog.image
  let tr := frTensor img o.out
  let r := operands s t v o.uses
  let old := if o.code = 0x51 then operand r.2 t v o.out else ([], r.2)
  let s := old.2
  let vals := frCompute img o (fun k => r.1.getD k []) old.1
  let bytes := storeTensor tr (frTensor img (o.inp 0)).isInt vals
  if !tr.isArg then setInv s v.tx fun v => { v with temps := alSet v.temps o.out bytes }
  else if o.code = 0x51 ∧ byRows o tr = true then
    ((rowsNamed tr (r.1.getD 1 [])).foldl addOnce []).foldl (fun s k =>
      let p := rowSpan tr k
      dmaWrites s t (v.addr tr + p.1) (slice bytes p.1 p.2)) s
  else dmaWrites s t (v.addr tr) bytes

/-- LOOP and BRANCH (R395): where the ops go on, and the loops they are in. -/
def control (v : Inv) (o : FrOp) (taken : Bool) : Nat × List LoopFr :=
  let stop := v.pc + 1 + o.imm % 65536
  let passes := if o.imm / 65536 = 0 then 65536 else o.imm / 65536
  if o.code = 0x71 then (if taken then v.pc + 1 else stop, v.loops)
  else
    match v.loops with
    | f :: r =>
      if f.op = v.pc then (if taken ∧ 0 < f.left then (v.pc + 1, v.loops) else (stop, r))
      else if taken then (v.pc + 1, { op := v.pc, stop, left := passes, loop := true } :: v.loops) else (stop, v.loops)
    | [] => if taken then (v.pc + 1, [{ op := v.pc, stop, left := passes, loop := true }]) else (stop, [])

/-- The end of a LOOP's body goes back to its test, one pass fewer left (R395). -/
def loopBack (pc : Nat) (loops : List LoopFr) : Nat × List LoopFr :=
  match loops with
  | f :: r => if f.stop ≤ pc then (f.op, { f with left := f.left - 1 } :: r) else (pc, f :: r)
  | [] => (pc, [])

/-- The next op of an invocation is due: its parts wait for tiles, a host op for a core, a SIEVE_TAIL for its lines; or the program has
ended (R403, R408, R410). -/
def invPrepare (s : State) (tx : Nat) : State :=
  match invOf s tx with
  | none => s
  | some v =>
    let img := v.prog.image
    if v.fenced then invEnd s v St.jobFenced
    else if frOps img ≤ v.pc then invEnd s v St.ok
    else if frOnHost img v.pc then setInv s tx fun v => { v with parts := [] }
    else if (frOp img v.pc).code = 0x7F then
      let o := frOp img v.pc
      let a := frTensor img (o.inp 0)
      regather s tx [lineRange (v.addr a) a.bytes] [] fun t => { t with step := 1, status := none, plan := [] }
    else setInv s tx fun v => { v with parts := List.replicate (partsOf v.prog) .waiting }

/-- An op has ended in every part; the invocation goes on at `pc`. -/
def invNext (s : State) (tx pc : Nat) (loops : List LoopFr) : State :=
  let p := loopBack pc loops
  invPrepare (setInv s tx fun v => { v with pc := p.1, loops := p.2, parts := [], dma := false, core := none }) tx

/-- The lines of an op are to hand: a line that cannot be had ends the invocation (R408), else the op takes effect. -/
def tileOpReady (s : State) (t : Tx) (inv : Nat) : State :=
  match invOf s inv with
  | none => outcome s t.id St.ok []
  | some v =>
    let img := v.prog.image
    let o := frOp img v.pc
    if worldBreak s v.prog.key.world (t.reads ++ t.writes) then
      outcome (worldViolated s v.prog.key.job) t.id St.jobFenced []
    else
    match (t.reads.flatMap rangeLines).findSome? fun l => (lineStatus s t l).map fun st => (l, st) with
    | some (l, st) => if mirrorMay s t l st then askMirror s t 0 l st else outcome s t.id st []
    | none =>
      let rt := rowTensor img o
      if byRows o rt ∧ t.step = 0 then
        let x := operand s t v (o.inp 1)
        let g := opLines v o (some ((rowsNamed rt x.1).foldl addOnce []))
        regather x.2 t.id g.1 g.2 fun t => { t with step := 1 }
      else if o.isControl then
        let x := operand s t v (o.inp 0)
        let taken := (valAt x.1 0).scaled 0 != 0
        outcome (setInv x.2 inv fun v => { v with taken }) t.id St.ok []
      else outcome (runOp s t v o) t.id St.ok []

/-- A core goes over to firmware (R452). -/
def borrowCore (s : State) (core : Nat) : State :=
  raise { s with cor := { s.cor with lending := without s.cor.lending core, borrowed := s.cor.borrowed ++ [core] } } Reg.glbHostEvent 0 2 core []

/-- A host op ends: it is counted, and its core is borrowed where firmware waits for it (R457). -/
def hostOpEnds (s : State) (core : Option Nat) : State :=
  match core with
  | some c => let s := bump s Reg.tilHostOpsLo 1; if s.cor.lending.contains c then borrowCore s c else s
  | none => s

/-- An op's writes are visible (R409), or a LOOP's or BRANCH's test has been made. -/
def tileOpEnded (s : State) (inv status : Nat) : State :=
  match invOf s inv with
  | none => s
  | some v =>
    let o := frOp v.prog.image v.pc
    let s := hostOpEnds s v.core
    if status ≠ St.ok then invEnd s v status
    else if v.lost then invEnd s v St.poisoned
    else if o.isControl then let p := control v o v.taken; invNext s inv p.1 p.2
    else invNext s inv (v.pc + 1) v.loops

/-! ### SIEVE_TAIL (R410) -/

/-- The SIEVE that a SIEVE_TAIL makes: its payload as R362 lays it out. -/
def sieveTailMsg (v : Inv) (m : Msg) : Msg :=
  let img := v.prog.image
  let o := frOp img v.pc
  let a := frTensor img (o.inp 0)
  let b := frTensor img (o.inp 1)
  let row := packedBytes (fmtOf b.fmt).bits b.last
  let payload :=
    beBytes 1 ((if bit o.imm 17 then 2 else 1) + 4 * 2 + 16) ++ beBytes 1 a.fmt ++ beBytes 2 ((fmtOf a.fmt).bits / 8) ++ [0, 0, 0, 0] ++
      beBytes 4 a.count ++ beBytes 4 (o.imm % 131072) ++ List.replicate 32 0 ++
      ([0, 0] ++ beBytes 2 row ++ beBytes 4 (b.dims.headD 1) ++ beBytes 4 row ++ List.replicate 20 0 ++ beBytes 8 (v.addr b) ++
        List.replicate 8 0)
  { m with address := BitVec.ofNat 64 (v.addr a), length := 96, payload }

/-- The lines of a SIEVE_TAIL's pass are to hand; its RESULT_DATA echo the TILE_INVOKE. -/
def sieveTailReady (s : State) (t : Tx) (m : Msg) : State :=
  match invOf s t.id with
  | none => outcome s t.id St.ok []
  | some v =>
    let n := s.out.length
    let s := runSieve s t (sieveTailMsg v m)
    let f := fun (o : Out) =>
      match o with
      | .pmt p => if p.opcode = Op.resultData then Out.pmt { p with address := m.address.toNat } else o
      | o => o
    let s := { s with out := s.out.take n ++ (s.out.drop n).map f }
    match txOf s t.id with
    | some t' =>
      match t'.status with
      | none => s
      | some st =>
        let s := setTx s t.id fun t => { t with status := none, step := 0, unit := none, plan := [] }
        let s := setInv s t.id fun v => { v with items := beAt t'.reply 0 4, total := beAt t'.reply 4 4 }
        match invOf s t.id with
        | some v => if st = St.ok then invNext s t.id (v.pc + 1) v.loops else invEnd s v st
        | none => s
    | none => s

/-! ### Step 10, parts and cores (R402, R407, R409) -/

/-- QUEUE_MAX (R418). -/
def queueMax (s : State) : Nat := coatFld s Reg.tilCfg 0 0 9

/-- An invocation begins to execute. -/
def invStart (s : State) (tx : Nat) : State := invPrepare (setInv s tx fun v => { v with started := some (tickNow s) }) tx

/-- Every earlier request of its pair has executed (R406): the invocation executes, waits for its slot, or completes NOT_READY or BUSY
(R407, R408). -/
def runInvoke (s : State) (t : Tx) (m : Msg) : State :=
  if t.step ≠ 0 then sieveTailReady s t m
  else
    match invOf s t.id with
    | none => outcome s t.id St.notReady []
    | some v =>
      let s := setTx (executes s t.id) t.id fun t => { t with executed := true }
      if (progSt s v.slot).code = 1 then invEnd s v St.notReady
      else if executing s v.slot < concOf v.prog then invStart (setInv s t.id fun v => { v with ready := true }) t.id
      else if countBy s.til.invs (fun w => w.slot == v.slot && w.ready && w.started.isNone) < queueMax s then
        setInv s t.id fun v => { v with ready := true }
      else invEnd s v St.busy

/-- Whether one executing invocation is older than another; ties go to the lower slot (R407). -/
def Inv.before (a b : Inv) : Bool :=
  a.started.getD 0 < b.started.getD 0 || (a.started.getD 0 == b.started.getD 0 && a.slot < b.slot)

/-- The oldest executing invocation that satisfies a test. -/
def oldestInv (s : State) (f : Inv → Bool) : Option Inv :=
  (s.til.invs.filter fun v => v.started.isSome && !v.fenced && f v).foldl (fun (b : Option Inv) v =>
    match b with
    | none => some v
    | some w => if v.before w then some v else some w) none

/-- Whether a part of an invocation runs on a tile. -/
def Inv.on (v : Inv) (tile : Nat) : Bool := v.parts.contains (.running tile)

/-- Whether a tile runs a part. -/
def tileBusy (s : State) (tile : Nat) : Bool := s.til.invs.any fun v => v.on tile

/-- Whether a program slot or resident slot that a coat entry places at a twin runs here (R515). -/
def runsHere (s : State) (twin : Nat) : Bool := s.scr.role == 0 || twin == myTwin s

/-- Whether a program's set contains a tile. -/
def inSet (p : ProgEnt) (tile : Nat) : Bool := p.first ≤ tile && tile < p.first + p.count

/-- A tile's own state. -/
def tileSt (s : State) (tile : Nat) : TileSt := alGetD s.til.tiles tile {}

/-- The time that clearing a tile takes, in ticks: about 1 µs (R467). -/
def clearTicks : Nat := 500

/-- A tile as it is when it takes a part of a program: one that holds anything of the other world is first cleared whole, which delays the
part's start (R467). -/
def TileSt.enters (x : TileSt) (world : Bool) (tick : Nat) : TileSt :=
  if x.world = some (!world) then { startAt := tick + clearTicks } else { x with startAt := tick }

/-- A tile takes up a part of an invocation: its data, code and place are the tile's from then on. -/
def tileTakes (s : State) (tile : Nat) (v : Inv) : State :=
  let x := (tileSt s tile).enters v.prog.key.world (tickNow s)
  let x : TileSt := { x with world := some v.prog.key.world, sram := addOnce x.sram v.tx, icache := addOnce x.icache v.slot,
                             sequencer := some (v.tx, v.pc) }
  { s with til := { s.til with tiles := alSet s.til.tiles tile x } }

/-- A tile that falls free takes the next part of the oldest executing invocation whose set contains it (R407); a tile that is out of
service, that waits for its self-test, or that lies in a RUB set takes none (R369, R412). -/
def dispatchPart (s : State) (tile : Nat) : State :=
  if !inService s 2 tile || (unitOf s 2 tile).wanted || tileBusy s tile || (rubTiles (coat s)).contains tile then s
  else
    match oldestInv s fun v => runsHere s v.prog.twin && v.parts.contains .waiting && inSet v.prog tile with
    | none => s
    | some v => setInv (tileTakes s tile v) v.tx fun v => { v with parts := v.parts.set (v.parts.findIdx (· == .waiting)) (.running tile) }

/-- Whether the unit that holds off its self-test is free to begin it (R571, R572). -/
def beginWanted (s : State) (kind index : Nat) : State :=
  if (unitOf s kind index).wanted then setUnit s kind index fun u => { u with st := 2, wanted := false } else s

/-- The last part of an op has ended it: its DMA takes place, or the invocation stops (R409, R414). -/
def partsEnded (s : State) (tx : Nat) : State :=
  match invOf s tx with
  | none => s
  | some v =>
    let running := v.parts.any fun p => p != .waiting && p != .ended
    if v.fenced then (if running || v.dma then s else invEnd s v St.jobFenced)
    else if v.parts.all (· == .ended) then startDma s v else s

/-- A part ends its op on a tile (R409); one whose tile is still being cleared has not started (R467). How many array cycles and how much DMA it took is not fixed by the manual (R386): free. -/
def partEnded (s : State) (tile : Nat) : State :=
  match s.til.invs.find? fun v => v.on tile with
  | none => s
  | some v =>
    if tickNow s < (tileSt s tile).startAt then s
    else
    let c := draw s
    let d := draw c.2
    let s := bump (bump (bumpSel (correctedIn d.2 Reg.tilSramEccCorrLo) Reg.tilTileBusyLo tile c.1) Reg.tilArrayCyclesLo c.1) Reg.tilDma64bLo d.1
    let s := setInv s v.tx fun v => { v with parts := v.parts.map fun p => if p = .running tile then .ended else p }
    partsEnded (beginWanted s 2 tile) v.tx

/-- A tile is lost (R411): the part it was running starts again on another tile of the set; its RUB chunks go to another (R375). -/
def tileLost (s : State) (tile : Nat) : State :=
  let s := rubLeave s (fun _ t _ => t == tile) false
  match s.til.invs.find? fun v => v.on tile with
  | none => s
  | some v =>
    let s := setInv (bump s Reg.tilRerunLo 1) v.tx fun v =>
      { v with rerun := true, parts := v.parts.map fun p => if p = .running tile then .waiting else p }
    partsEnded s v.tx

/-- A tile is retired (R411, R560). Whether its fault was an uncorrectable SRAM error is not told (R389): a free value. -/
def tileRetire (s : State) (tile : Nat) : State :=
  if (unitOf s 2 tile).st = 3 then s
  else
    let d := draw (permanentFault s)
    let s := if d.1 % 2 = 1 then raise d.2 Reg.tilEventStatus 3 2 tile [] else d.2
    tileLost (raise (retireUnit s 2 tile) Reg.tilEventStatus 0 2 tile []) tile

/-- A host-op core takes up an op: going over to the other world it first clears its caches, its TLBs and its vector state (R449). -/
def coreTakes (s : State) (core : Nat) (v : Inv) : State :=
  let held := match alGet s.cor.cores core with
    | some x => if x.world = v.prog.key.world then x.holds else []
    | none => []
  { s with cor := { s.cor with cores := alSet s.cor.cores core { world := v.prog.key.world, holds := addOnce held v.tx } } }

/-- A host-op core takes the oldest executing invocation whose next op waits for one (R402). -/
def hostOpStart (s : State) (core : Nat) : State :=
  if !(hostOpCores s).contains core || coreRunsOp s core then s
  else
    match oldestInv s fun v => runsHere s v.prog.twin && !v.dma && v.core.isNone && v.pc < frOps v.prog.image && frOnHost v.prog.image v.pc with
    | none => s
    | some v => startDma (setInv (coreTakes s core v) v.tx fun v => { v with core := some core, host := true }) v

/-- An invocation has waited 50 µs with no tile of its set, or no host-op core, in service: BUSY (R412, R452). -/
def noTileBusy (s : State) (source tag : Nat) : State :=
  match s.til.invs.find? fun v => v.source == source && v.tag == tag && v.started.isSome with
  | none => s
  | some v =>
    let host := v.pc < frOps v.prog.image && frOnHost v.prog.image v.pc
    let stuck :=
      if host then !v.dma && ((hostOpCores s).isEmpty || !runsHere s v.prog.twin)
      else v.parts.contains .waiting && v.parts.all (fun p => p == .waiting || p == .ended) &&
        !(List.range 80).any fun t => runsHere s v.prog.twin && inSet v.prog t && inService s 2 t
    if stuck then invEnd s v St.busy else s

/-- Invocations that have ended leave, counted; waiting ones begin to execute as far as CONC allows, in admission order (R407). -/
def tilesSettle (s : State) : State :=
  let ovr := fun (v : Inv) =>
    match txOf s v.tx with
    | some t => t.status.isSome
    | none => true
  let busy := fun (v : Inv) => (txOf s v.tx).any fun t => t.status == some St.busy
  let gone := s.til.invs.filter ovr
  let s := { s with til := { s.til with invs := s.til.invs.filter fun v => !ovr v } }
  let s := gone.foldl (fun s v =>
    let s := bumpSel (bump s Reg.tilInvokedLo 1) Reg.tilProgInvokedLo v.slot 1
    if busy v then bump s Reg.tilBusyLo 1 else s) s
  s.til.invs.foldl (fun s v =>
    if v.ready && v.started.isNone && executing s v.slot < concOf v.prog then invStart s v.tx else s) s

/-! ### Frost and lost memory (R413, R414) -/

/-- A job's invocations at its frost: waiting ones complete at once, executing ones at the next op boundary of every part (R414). -/
def invsFenced (s : State) (job : Nat) : State :=
  (s.til.invs.filter fun v => v.prog.key.job == job).foldl (fun s v =>
    let s := setInv s v.tx fun v => { v with fenced := true }
    let sieving := (txOf s v.tx).any fun t => t.step != 0
    let running := v.parts.any fun p => p != .waiting && p != .ended
    if sieving then setTx s v.tx fun t => { t with reply := invPayload s v }
    else if running || v.dma then s
    else invEnd s v St.jobFenced) s

/-- The retirement of a pseudo-channel loses lines of tile working memory (R413). Which programs and TEMP tensors lay there is not
fixed: free values. An op whose DMA is under way ends first. -/
def tileMemoryLost (s : State) : State :=
  let s := s.til.progs.foldl (fun s p =>
    match p.2.cur with
    | none => s
    | some e =>
      let d := draw s
      if d.1 % 2 = 1 then setProg d.2 p.1 (if p.2.new.isSome && p.2.applied then { p.2 with cur := none } else { new := some e, applied := true })
      else d.2) s
  s.til.invs.foldl (fun s v =>
    if v.temps.isEmpty then s
    else
      let d := draw s
      if d.1 % 2 = 0 then d.2 else if v.dma then setInv d.2 v.tx fun v => { v with lost := true } else invEnd d.2 v St.poisoned) s

end Sys2Proof.Machine
end

