-- ==== Sys2Proof/Machine/CoreOps.lean ====
section
/-! DEFINITION. Host cores (spec/14): resident programs and their service calls (R453, R454, R456), the mailbox (R455), retired and
failing cores (R450, R452). -/

namespace Sys2Proof.Machine

open Sys2Proof

/-! ### Resident slots (R453, R456, R460) -/

/-- A resident slot's state. -/
def resOf (s : State) (slot : Nat) : Res := alGetD s.cor.res slot {}

/-- A resident slot changed. -/
def setRes (s : State) (slot : Nat) (f : Res → Res) : State :=
  { s with cor := { s.cor with res := alSet s.cor.res slot (f (resOf s slot)) } }

/-- The coat's entry of a slot. -/
def resEnt (s : State) (slot : Nat) : Option ResEnt := (coat s).resident.slots.find? fun r => r.slot == slot

/-- The resident cores that no program runs on, ascending. -/
def idleResident (s : State) : List Nat :=
  (List.range 24).filter fun c => coreRole s c == 3 && inService s 9 c && !s.cor.res.any fun p => p.2.cores.contains c

/-- The image of a LOADING program is in place, in zeroed memory, and it starts on its cores at the entry point, each with its index in a0
(R453). -/
def resStart (s : State) (slot : Nat) : State :=
  match resEnt s slot with
  | some e =>
    if (resOf s slot).st = 1 ∧ runsHere s e.twin = true then
      let cores := (idleResident s).take e.cores
      let s := setRes s slot fun r =>
        { r with st := 2, cores, cause := 0, memory := e.segs.map fun g => (g.1, padTo g.2.2 g.2.1 0) }
      cores.zipIdx.foldl (fun s c => emit s (.coreStart c.1 e.entry c.2)) s
    else s
  | none => s

/-- A program stops (R456): its cores halt, completions of its requests will be discarded, its messages are discarded and counted. -/
def resStop (s : State) (slot st cause : Nat) : State :=
  let gone := (resOf s slot).cores
  let s := { s with cor := { s.cor with waits := s.cor.waits.filter fun w => !gone.contains w.1 } }
  setRes s slot fun r => { r with st, cause := cause % 64, cores := [], mail := [], dropped := min 2047 (r.dropped + r.mail.length) }

/-- The resident section of a coat applies (R453, R456): programs that it removes or replaces stop, new ones and stopped ones that a
patch names again are loaded. -/
def residentsApplied (s : State) (old new : Coat) (named : Bool) : State :=
  let entry := fun (c : Coat) (n : Nat) => c.resident.slots.find? fun (r : ResEnt) => r.slot == n
  let live := fun (s : State) (n : Nat) => (resOf s n).st == 1 || (resOf s n).st == 2
  let s := old.resident.slots.foldl (fun s (r : ResEnt) =>
    if entry new r.slot = some r then s
    else if live s r.slot ∨ (entry new r.slot).isNone then resStop s r.slot 0 0 else s) s
  new.resident.slots.foldl (fun s (r : ResEnt) =>
    if !runsHere s r.twin ∨ (entry old r.slot = some r ∧ (live s r.slot ∨ named = false)) then s
    else setRes s r.slot fun x => { x with st := 1, cause := 0, cores := [], mail := [] }) s

/-- A job's resident programs at its frost (R456, R564). -/
def residentsFrozen (s : State) (job : Nat) : State :=
  ((coat s).resident.slots.filter fun r => r.key.job == job).foldl (fun s r =>
    if (resOf s r.slot).st = 1 ∨ (resOf s r.slot).st = 2 then resStop s r.slot 5 0 else s) s

/-! ### Service calls (R454) -/

/-- The slot whose program runs on a core, if the core is free to make a call. -/
def callSlot (s : State) (core : Nat) : Option ResEnt :=
  if (alGet s.cor.waits core).isSome then none
  else (s.cor.res.find? fun p => p.2.st == 2 && p.2.cores.contains core).bind fun p => resEnt s p.1

/-- A call returns to its core. -/
def coreReturn (s : State) (core status : Nat) (data : List Byte) : State :=
  emit { s with cor := { s.cor with waits := alErase s.cor.waits core } } (.coreReturn core status data)

/-- A core blocks. -/
def coreWaits (s : State) (core : Nat) (w : CoreWait) : State := { s with cor := { s.cor with waits := alSet s.cor.waits core w } }

/-- The pair of a resident program and this home, as numbered requests know it (R179). -/
def corePair (s : State) (ep : Nat) : Nat := selfEp s + 1048576 * (1 + ep)

/-- A message of a resident program to this home, numbered on its pair, with its CRC (R174, R454). -/
def coreMsg (s : State) (e : ResEnt) (op flags tag address : Nat) (payload : List Byte) : Msg :=
  let m : Msg :=
    { port := 1024, version := 1, cls := 0, flags := BitVec.ofNat 16 flags, source := BitVec.ofNat 24 e.ep,
      dest := BitVec.ofNat 24 (selfEp s), tag := BitVec.ofNat 16 tag, seq := BitVec.ofNat 32 (nextSeqOf s (corePair s e.ep)),
      length := BitVec.ofNat 16 payload.length, wt := BitVec.ofNat 16 (wtOf e.key), job := BitVec.ofNat 16 e.key.job, epoch := 0,
      address := BitVec.ofNat 64 address, payload, crc := 0 }
  { m with crc := crc32c (headerBytes op m ++ payload) }

/-- The lowest tag of a resident program that no request of it holds here. -/
def coreTag (s : State) (ep : Nat) : Nat := ((List.range 65536).find? fun t => !tagInUse s ep t).getD 0

/-- A pool call: its request goes to this home, or to another one (R454). -/
def coreCall (s : State) (core : Nat) (e : ResEnt) (home op flags address : Nat) (payload : List Byte) : State :=
  if home = selfEp s then
    let m := coreMsg s e op flags (coreTag s e.ep) address payload
    receiveReq (coreWaits (takeSeq s (corePair s e.ep)) core (.request e.slot home m.tag.toNat)) op m
  else
    let tag := freeTag s home
    let o : OutReq := { target := home, tag, seq := 0, opcode := op, address := address % two64, payload, key := e.key, cls := 0, epoch := 0,
                        flags, purpose := .coreCall e.slot core }
    let s := coreWaits { s with pool := { s.pool with outs := s.pool.outs ++ [o] } } core (.request e.slot home tag)
    sendWaiting s home

/-- The core that waits for a request. -/
def waitingCore (s : State) (slot home tag : Nat) : Option Nat :=
  (s.cor.waits.find? fun w => w.2 == .request slot home tag).map fun w => w.1

/-- A completion at this home of a resident program's request reaches its core; a RETRY leaves it waiting for its grant; one that no
core waits for is discarded (R454, R456). -/
def coreDone (s : State) (c : Cpl) : State :=
  match (coat s).resident.slots.find? fun r => r.ep == c.source with
  | none => s
  | some e =>
    match waitingCore s e.slot (selfEp s) c.tag with
    | some core => if c.status = St.retry then s else coreReturn s core c.status c.payload
    | none => s

/-- A grant after RETRY: the same request again, with RSV_CREDIT and a new number (R186). -/
def coreGranted (s : State) (m : Msg) : State :=
  match (coat s).resident.slots.find? fun r => r.ep == m.src with
  | none => s
  | some e =>
    let m' := coreMsg s e Op.atomic (m.flags.toNat ||| 2 ^ flagRsv) m.tag.toNat m.address.toNat m.payload
    receiveReq (takeSeq s (corePair s e.ep)) Op.atomic m'

/-- A completion from another home reaches its core (R454). -/
def coreAnswered (s : State) (slot core status : Nat) (home tag : Nat) (data : List Byte) : State :=
  if alGet s.cor.waits core = some (.request slot home tag) then coreReturn s core status data else s

/-- The message at the head of a mailbox goes to a core (R454). -/
def mailTo (s : State) (slot core : Nat) : State :=
  match (resOf s slot).mail with
  | x :: r => coreReturn (setRes s slot fun y => { y with mail := r }) core St.ok (beBytes 4 x.cookie ++ x.message)
  | [] => s

/-- Whether random data can be served (R478, R479): a request in the tick in which the source becomes ready is not. -/
def rngServes (s : State) : Bool := (s.sec.rng == .ready && s.sec.readyAt != some (tickNow s)) || (s.sec.rng == .retesting && !s.sec.stale)

/-- Random bytes drawn, counted in SEC_RNG_BYTES; their value is free (R477). -/
def randomBytes (s : State) (n : Nat) : List Byte × State :=
  let d := draw s
  (leBytes n d.1, bump d.2 Reg.secRngBytesLo n)

/-- Codes of ALM_STATE.STATE (R54). -/
def almCode : AlmSt → Nat
  | .unset => 0
  | .acquiring => 1
  | .locked => 2
  | .holdover => 3
  | .island => 4

/-! ### The mailbox (R455) -/

/-- Step 4 of MBX_POST. -/
def postFormat (m : Msg) : Bool :=
  let n := m.length.toNat
  8 ≤ n && m.address == 0 && beAt m.body 0 2 ≤ 63 && beAt m.body 2 2 == 0

/-- Steps 6 to 9 of MBX_POST, with the slot in place of a window. -/
def postStatus (s : State) (m : Msg) : Option Nat :=
  let n := beAt m.body 0 2
  match resEnt s n with
  | none => some St.notMapped
  | some e =>
    let st := (resOf s n).st
    if st = 0 ∨ st = 3 ∨ st = 4 then some St.notMapped
    else if e.key ≠ m.key then some St.accessDenied
    else if st = 5 then some St.jobFenced
    else none

/-- Step 10 of MBX_POST: queued, and handed on where a core waits for a message. -/
def postMail (s : State) (m : Msg) : Nat × State :=
  let n := beAt m.body 0 2
  let r := resOf s n
  if r.st = 1 then (St.notReady, s)
  else if 64 ≤ r.mail.length then (St.busy, s)
  else
    let s := setRes s n fun r => { r with mail := r.mail ++ [{ cookie := beAt m.body 4 4, message := m.body.drop 8 }] }
    match s.cor.waits.find? fun w => w.2 == .message n with
    | some w => (St.ok, mailTo s n w.1)
    | none => (St.ok, s)

/-! ### Cores that fail (R450, R452) -/

/-- A host op whose core is lost starts again on another one (R452); an op whose effect has already begun to be written stands. -/
def hostOpLost (s : State) (core : Nat) : State :=
  match s.til.invs.find? fun v => v.core == some core with
  | none => s
  | some v =>
    match s.pool.txs.find? fun t => t.work == .tileOp v.tx with
    | some t =>
      if t.executed || !(t.toSnoop.isEmpty && t.snoops.isEmpty) then s
      else partsEnded (setInv (dropTx s t.id) v.tx fun v => { v with core := none, dma := false, rerun := true }) v.tx
    | none => s

/-- The highest-numbered host-op core in service becomes a firmware core (R452), one that runs an op once that op ends (R457). -/
def borrowNext (s : State) : State :=
  match (hostOpCores s).getLast? with
  | some c => if coreRunsOp s c then { s with cor := { s.cor with lending := s.cor.lending ++ [c] } } else borrowCore s c
  | none => s

/-- A firmware core is retired, and another core takes its place (R452). -/
def firmwareRetired (s : State) (core : Nat) : State :=
  if (unitOf s 9 core).st = 3 then s
  else
    let s := setUnit (permanentFault s) 9 core fun u => { u with st := 3, reason := 2, wanted := false }
    borrowNext (raise (logRetired s 9 core core) Reg.glbHostEvent 2 2 core [])

/-- A host core of a kind of R547 is retired; in place of one that runs firmware, or was about to, another is borrowed (R452). -/
def coreRetired (s : State) (core : Nat) : State :=
  if core < 4 then firmwareRetired s core
  else if (unitOf s 9 core).st = 3 then s
  else
    let fw := s.cor.borrowed.contains core || s.cor.lending.contains core
    let s := raise (retireUnit (permanentFault s) 9 core) Reg.glbHostEvent 2 2 core []
    if fw then borrowNext { s with cor := { s.cor with borrowed := without s.cor.borrowed core, lending := without s.cor.lending core } } else s

end Sys2Proof.Machine
end

