-- ==== Sys2Proof/Machine/FrostOps.lean ====
section
/-! DEFINITION. Frost (spec/18 R563 to R568): a job enters it, its work is fenced and swept, notices go to the other homes, THAW ends
it. -/

namespace Sys2Proof.Machine

open Sys2Proof

/-- A job's frost state changed. -/
def setJobSt (s : State) (job : Nat) (f : Job → Job) : State :=
  { s with ras := { s.ras with jobs := alSet s.ras.jobs job (f (jobSt s job)) } }

/-- Opcodes that a job's frost does not fence (R564, R566). -/
def frostExempt (op : Nat) : Bool := isMirrorOp op || op == Op.frostNotice || op == Op.thaw || op == Op.pairReset

/-- The requests of a job that are in progress will complete with JOB_FENCED (R264, R564). -/
def fenceJob (s : State) (job : Nat) : State :=
  let f := fun (t : Tx) =>
    match t.work with
    | .req op m => if m.job.toNat = job ∧ !frostExempt op ∧ !isReserved t then { t with fenced := true } else t
    | _ => t
  { s with pool := { s.pool with txs := s.pool.txs.map f } }

/-- The homes that the pool section lists for a job, but this one (R566). -/
def otherHomes (s : State) (job : Nat) : List Nat :=
  (((coat s).pool.homes.lookup job).getD []).filter fun h => h != selfEp s

/-- FROST_NOTICE to every other home of a job (R566). -/
def sendNotices (s : State) (job cause : Nat) : State :=
  (otherHomes s job).foldl (fun s h =>
    request s h Op.frostNotice (classFor s Cls.mgmt) { job } 0 0 (beBytes 2 job ++ beBytes 1 cause ++ [0]) (.frostNotice job)) s

/-- What a frost entry logs: job, cause, origin (R563, R658). -/
def frostDetail (job cause origin : Nat) : List Byte := det 2 job ++ det 1 cause ++ det 3 origin

/-- A job enters frost (R563 to R566). Another cause while it is in frost is logged; it only outdates a THAW that waits for its slot.
`cls` is the class of the cause; a sweep that finds no record ends with it, any other with a snoop's answer (log entry 208). -/
def enterFrost (s : State) (job cause origin cls : Nat) : State :=
  let remote := origin != selfEp s
  if (jobSt s job).frost then
    let s := logEvent s 16 cls 38 job (frostDetail job cause origin)
    setJobSt s job fun j => if j.thaw.isSome then { j with serial := (j.serial + 1) % two32 } else j
  else
    let s := setJobSt s job fun j =>
      { j with frost := true, swept := false, remote, cause, origin, serial := (j.serial + 1) % two32, thaw := none,
               since := tickNow s, cls := if (sweepLeft s { id := 0, work := .sweep job }).isEmpty then cls else 1 }
    let s := raise (bump s Reg.rasFrostLo 1) Reg.rasEventStatus 4 cls job (frostDetail job cause origin)
    let gs := groupsOfJob s job
    let s := abortJob (fenceJob s job) job cls
    let s := rubLeave s (fun g _ e => gs.contains g && !(grpSt s g).epochs.any fun x => x.num == e) true
    let s := residentsFrozen (invsFenced s job) job
    let s := bgTx s { id := 0, work := .sweep job }
    if remote then s else sendNotices s job cause

/-- The format of FROST_NOTICE (R566). -/
def noticeFormat (m : Msg) : Bool := m.length == 4 && m.address == 0 && beAt m.body 2 1 ≤ 3 && beAt m.body 3 1 == 0

/-- A FROST_NOTICE takes effect: one from a home listed for the job puts the job in frost (R566). -/
def runNotice (s : State) (m : Msg) : Nat × State :=
  let job := beAt m.body 0 2
  if (((coat s).pool.homes.lookup job).getD []).contains m.src then (St.ok, addHook s (.frost job (beAt m.body 2 1) m.src 1))
  else (St.accessDenied, s)

/-- The format of THAW (R567). -/
def thawFormat (m : Msg) : Bool := m.length == 104 && m.address == 0 && beAt m.body 2 2 == 0

/-- The status of a THAW, by the first check of R567 that fails. -/
def thawStatus (s : State) (m : Msg) : Nat :=
  let b := m.body
  let j := jobSt s (beAt b 0 2)
  if j.frost = false then St.malformed
  else if Config.ecdsaVerify (coat s).pubkey (Config.sha384 (b.take 8)) (slice b 8 96) = false then St.accessDenied
  else if beAt b 4 4 ≠ j.serial then St.accessDenied
  else if j.swept = false then St.busy
  else St.ok

/-- An accepted THAW waits for the next slot (R567). -/
def acceptThaw (s : State) (m : Msg) : State := setJobSt s (beAt m.body 0 2) fun j => { j with thaw := some j.serial }

/-- A THAW is judged (R567). -/
def runThaw (s : State) (m : Msg) : Nat × State :=
  let st := thawStatus s m
  (st, if st = St.ok then acceptThaw s m else s)

/-- The slot of an accepted THAW begins: the job leaves frost where FROST_SERIAL still matches (R567, R568). -/
def thawApplied (s : State) (job : Nat) : State :=
  let j := jobSt s job
  match j.thaw with
  | none => s
  | some n =>
    if j.frost ∧ n = j.serial then
      let s := setJobSt s job fun j => { j with frost := false, swept := false, remote := false, cause := 0, origin := 0, thaw := none }
      raise (thawGroups s job) Reg.rasEventStatus 6 4 job []
    else logEvent (setJobSt s job fun j => { j with thaw := none }) 16 4 35 job []

end Sys2Proof.Machine
end

