-- ==== Sys2Proof/Machine/RasOps.lean ====
section
/-! DEFINITION. Faults of memory and of units (spec/18 R556 to R562, R571 to R575), sheeting and returns (spec/17 R546 to R548). -/

namespace Sys2Proof.Machine

open Sys2Proof

/-! ### HBM (R167, R559) -/

/-- A pseudo-channel. -/
def pcOf (s : State) (pc : Nat) : Pc := alGetD s.ras.pcs pc {}

/-- A pseudo-channel changed. -/
def setPc (s : State) (pc : Nat) (f : Pc → Pc) : State :=
  { s with ras := { s.ras with pcs := alSet s.ras.pcs pc (f (pcOf s pc)) } }

/-- Whether a tick lies in the last 24 hours. -/
def withinDay (s : State) (tick : Nat) : Bool := (tickNow s + two64 - tick) % two64 < dayTicks

/-- HBM_SHORT: the associative cache has fallen below 16 GiB (R167). -/
def hbmShort (before s : State) : State :=
  if 16384 ≤ cacheMib before ∧ cacheMib s < 16384 then raise s Reg.poolEventStatus 0 2 noUnit [] else s

/-- A line that its row cannot give any more: a clean cached line is dropped; a dirty or pinned one is poisoned, and every PLC that
holds it is recalled (R167). -/
def lineUnreadable (s : State) (line : Nat) : State :=
  let kept := (cacheGet s line).any fun c => c.dirty || c.staged
  if isPinned s line || kept then
    let s := poisonLine s line
    if (recsOf s line).isEmpty then s else bgTx s { id := 0, work := .recall line, writes := [(line, 1)] }
  else if (cacheGet s line).isSome then dropLine s line
  else s

/-- Several unreadable lines. -/
def linesUnreadable (s : State) (lines : List Nat) : State := lines.foldl lineUnreadable s

/-- A pseudo-channel is being retired (R167, R559, R560): its lines move, and what the tiles had there may be lost (R413). -/
def retirePc (s : State) (pc : Nat) : State :=
  let s' := retireLocation (setPc (permanentFault s) pc fun p => { p with st := 1, repairing := [] }) .pseudoChannel pc
  hbmShort s (tileMemoryLost (raise s' Reg.rasEventStatus 3 2 pc []))

/-- A row repair begins; where no spare row is left the pseudo-channel is retired (R559). -/
def repairRow (s : State) (pc row : Nat) : State :=
  let p := pcOf s pc
  if p.repairing.contains row then s
  else if p.spare = 0 then retirePc s pc
  else setPc s pc fun p => { p with spare := p.spare - 1, repairing := p.repairing ++ [row] }

/-- Whether a pseudo-channel serves. -/
def pcServes (s : State) (pc : Nat) : Bool := (pcOf s pc).st == 0 && inService s 6 (pc / 64)

/-- An uncorrectable error in a row (R559); one in a pseudo-channel that is being retired is not repaired (R575). -/
def hbmUncorr (s : State) (pc row : Nat) (lines : List Nat) : State :=
  let s := bump s Reg.rasHbmUeLo 1
  if !pcServes s pc then linesUnreadable s lines
  else
    let s := setPc s pc fun p => { p with ueRows := alSet (p.ueRows.filter fun r => withinDay s r.2) row (tickNow s) }
    let s := permanentFault (linesUnreadable s lines)
    if coatFld s Reg.rasCfg 0 12 6 < (pcOf s pc).ueRows.length then retirePc s pc else repairRow s pc row

/-- A 1 s window of corrected errors of a pseudo-channel ends (R559). -/
def hbmCorrected (s : State) (pc count row : Nat) (lines : List Nat) : State :=
  let s := setPc (bump (bump s Reg.rasHbmCeLo count) Reg.rasTransientLo count) pc fun p => { p with ceLast := min count 4095 }
  if pcServes s pc ∧ coatFld s Reg.rasCfg 0 0 12 < count then repairRow (permanentFault (linesUnreadable s lines)) pc row else s

/-- A row repair is done: recorded in the stack's repair fuses (R559). -/
def rowRepaired (s : State) (pc row : Nat) : State :=
  if (pcOf s pc).repairing.contains row then
    let s := setPc (transientFault s) pc fun p => { p with repairing := without p.repairing row }
    raise { s with nv := { s.nv with repaired := s.nv.repaired ++ [(pc, row)] } } Reg.rasEventStatus 2 2 pc []
  else s

/-- The lines of a retired pseudo-channel have moved (R562, R583). -/
def pcMoved (s : State) (pc : Nat) : State := setPc s pc fun p => if p.st = 1 then { p with st := 2 } else p

/-! ### Units that fault (R558) -/

/-- The kinds of unit that R558 tests after a fault. -/
def faultKinds : List Nat := [2, 3, 4, 5, 9]

/-- The kinds that are tested periodically (R571). -/
def testKinds : List Nat := [2, 3, 4, 5, 9, 10]

/-- A resident program's core leaves service: the lowest idle core of the role takes its place (R547). -/
def residentMoves (s : State) (core : Nat) : State :=
  match s.cor.res.find? (fun p => p.2.cores.contains core), (idleResident s).head? with
  | some (slot, _), some c =>
    let s := setRes s slot fun r => { r with cores := r.cores.map fun k => if k = core then c else k }
    { s with cor := { s.cor with waits := s.cor.waits.map fun w => if w.1 = core then (c, w.2) else w } }
  | _, _ => s

/-- A unit's work goes elsewhere when it faults (R411, R344, R360, R452). -/
def moveWork (s : State) (kind index : Nat) : State :=
  match kind with
  | 2 => tileLost s index
  | 3 => rerunFrames s index
  | 4 => leaveUnit s 4 index
  | 5 => leaveUnit s 5 index
  | 9 => residentMoves (hostOpLost s index) index
  | _ => s

/-- A class 2 fault of a unit: its work moves and it enters self-test at once (R558). -/
def unitFault (s : State) (kind index : Nat) : State :=
  let u := unitOf s kind index
  if !faultKinds.contains kind || u.st == 1 || u.st == 3 then s
  else
    let s := setUnit (raise s Reg.rasEventStatus 0 2 index []) kind index fun u =>
      { u with st := 2, faulty := true, wanted := false, faults := (u.faults.filter (withinDay s)) ++ [tickNow s] }
    if u.st = 0 then moveWork s kind index else s

/-! ### Returns and retirement (R548, R560) -/

/-- A repaired lane serves again: in the place it still has in its port, which retrains, or as the group's idle spare (R77). -/
def laneReturns (s : State) (n : Nat) : State :=
  let p := if isSpareLane n then none else some (laneHomePort s n)
  match p.bind fun p => ((portOf s p).lanes.findIdx? (· == n)).map fun i => (p, i) with
  | some (p, i) =>
    let s := setLane s n fun l => { l with role := .active, logical := i, port := some p }
    degradePort (setPort s p fun q => { q with held := false }) p
  | none => setLane s n fun l => { l with role := .idleSpare, port := none }

/-- A returned tray: one that replaces another is new (R548). -/
def trayReturns (s : State) (kind index reason : Nat) : State :=
  if reason ≠ 2 then s
  else if kind = 7 then
    let s := { s with pool := { s.pool with capUnits := s.pool.capUnits.map fun (u : Nat × CapUnit) =>
      (u.1, { u.2 with copies := u.2.copies.map fun l => without l index }) } }
    identifyTrays (setCapTray s index fun _ => { fresh := true })
  else identifyDense (updateMissing (setDTray s index fun _ => {}))

/-- A unit serves again once its self-test has passed (R548). -/
def unitReturns (s : State) (kind index : Nat) : State :=
  let reason := (unitOf s kind index).reason
  let s := setUnit s kind index fun u => { u with st := 0, reason := 0, returning := false, wanted := false, faulty := false }
  let s := raise (sheetMark s kind index false) Reg.cfgEventStatus 9 4 index []
  match kind with
  | 0 => laneReturns s index
  | 1 => retrain (setPort s index fun q => { q with held := false }) index
  | 7 => trayReturns s 7 index reason
  | 8 => denseConditions (trayReturns s 8 index reason)
  | 11 => if s.scr.role = 0 then s else { s with scr := { s.scr with groups := (List.range 8).filter fun g => g == index || s.scr.groups.contains g } }
  | _ => s

/-- A unit is retired after a failed test (R560, R572). -/
def unitGone (s : State) (kind index : Nat) : State :=
  match kind with
  | 0 => laneEvent (retireUnit (permanentFault s) 0 index) index 1
  | 2 => tileRetire s index
  | 3 => trowelRetired s index
  | 4 => gatherRetired s 4 index
  | 5 => gatherRetired s 5 index
  | 9 => coreRetired s index
  | 10 => raise (retireUnit (permanentFault s) 10 index) Reg.swcEventStatus 0 2 index []
  | 11 => raise (retireUnit (permanentFault s) 11 index) Reg.scrEventStatus 4 2 index []
  | _ => retireUnit (permanentFault s) kind index

/-! ### Self-test (R571, R572) -/

/-- The units of a kind that serve. -/
def servingUnits (s : State) (kind : Nat) : List Nat :=
  if kind = 9 then hostOpCores s else (List.range (unitCounts.getD kind 0)).filter (inService s kind)

/-- The units of a kind in a periodic test, or about to enter one. -/
def testingUnits (s : State) (kind : Nat) : Nat :=
  countBy s.cfg.units fun (u : (Nat × Nat) × UnitSt) =>
    u.1.1 == kind && ((u.2.st == 2 && !u.2.faulty && !u.2.returning) || (u.2.st == 0 && u.2.wanted))

/-- Whether one more unit of a kind may be tested (R571). -/
def mayTest (s : State) (kind : Nat) : Bool :=
  let n := (servingUnits s kind).length
  testKinds.contains kind && bit (coatReg s Reg.rasSelftestCfg 0) 8 && testingUnits s kind < ceilDiv n 32 && (kind != 3 || 50 < n) &&
    (kind != 10 || !s.cfg.units.any fun (u : (Nat × Nat) × UnitSt) => u.1.1 == 10 && u.2.st == 3)

/-- Whether a unit holds work that it must finish before its test (R572). -/
def unitBusy (s : State) (kind index : Nat) : Bool :=
  match kind with
  | 2 => tileBusy s index
  | 3 => framesAt s index != 0
  | 4 => s.pool.txs.any fun t => isAtUnit t 4 index
  | 5 => s.pool.txs.any fun t => isAtUnit t 5 index
  | 9 => coreRunsOp s index
  | _ => false

/-- A periodic self-test starts, or waits for the unit's work to end (R571, R572). -/
def testStart (s : State) (kind index : Nat) : State :=
  let u := unitOf s kind index
  if !mayTest s kind || !(servingUnits s kind).contains index || u.wanted then s
  else
    let s := setUnit s kind index fun u => { u with wanted := true, faulty := false }
    let s := if kind = 4 ∨ kind = 5 then leaveQueued s kind index else s
    if unitBusy s kind index then s else beginWanted s kind index

/-- Units that wait for their self-test begin it once their work has ended. -/
def beginTests (s : State) : State :=
  s.cfg.units.foldl (fun s (u : (Nat × Nat) × UnitSt) =>
    if u.2.wanted && u.2.st == 0 && !unitBusy s u.1.1 u.1.2 then beginWanted s u.1.1 u.1.2 else s) s

/-- A self-test ends (R548, R558, R572). -/
def testEnd (s : State) (kind index : Nat) (pass : Bool) : State :=
  let u := unitOf s kind index
  if u.st ≠ 2 then s
  else if pass then
    let s := bump (setUnit s kind index fun u => { u with tested := tickNow s }) Reg.rasSelftestPassLo 1
    let many := coatFld s Reg.rasCfg 0 18 4 ≤ countBy u.faults (withinDay s)
    if u.faulty ∧ many then unitGone s kind index
    else
      let s := if u.faulty then transientFault s else s
      if u.returning then unitReturns s kind index else setUnit s kind index fun u => { u with st := 0, faulty := false }
  else unitGone (raise (bump s Reg.rasSelftestFailLo 1) Reg.rasEventStatus 8 2 index []) kind index

/-- A request has waited 50 µs for a unit of a kind that is under test (R572). -/
def testWaitBusy (s : State) (source tag : Nat) : State :=
  let stuck := fun (op : Nat) =>
    (servingUnits s (unitKind op)).isEmpty && s.cfg.units.any fun (u : (Nat × Nat) × UnitSt) => u.1.1 == unitKind op && u.2.st == 2
  match s.pool.txs.find? fun t => t.isReq && t.source == source && t.tag == tag && needsUnit t && t.unit.isNone with
  | none => s
  | some t =>
    match unitOp t, invOf s t.id with
    | some op, v =>
      if stuck op then
        let s := bump s Reg.rasSelftestBusyLo 1
        match v with
        | some v => invEnd s v St.busy
        | none => outcome s t.id St.busy (gatherReply 0 0 false)
      else s
    | none, _ => s

/-! ### Sheeting (R546 to R548) -/

/-- What sheeting a unit does at once, by its kind (R547). -/
def sheetEffect (before s : State) (kind index : Nat) : State :=
  match kind with
  | 0 => laneLeaves s index
  | 1 => portDown s index
  | 4 => leaveQueued s 4 index
  | 5 => leaveQueued s 5 index
  | 6 => hbmShort before s
  | 8 => denseConditions s
  | 9 => residentMoves (hostOpLost s index) index
  | 11 => { s with scr := { s.scr with groups := without s.scr.groups index } }
  | _ => s

/-- A unit is sheeted; one that is sheeted already takes the new REASON; a record for a retired one is logged and does nothing (R547, R549,
R591). -/
def sheetUnit (s : State) (kind index reason : Nat) : State :=
  if (unitOf s kind index).st = 3 then logEvent s 15 4 8 index []
  else if (unitOf s kind index).st = 1 then setUnit s kind index fun u => { u with reason }
  else
    let before := s
    let s := setUnit s kind index fun u => { u with st := 1, reason, returning := false, wanted := false, faulty := false }
    sheetEffect before (raise (sheetMark s kind index true) Reg.cfgEventStatus 8 4 index []) kind index

/-- A sheeted unit begins the self-test of its return (R548); a record for another one is logged and does nothing (R591). -/
def returnBegins (s : State) (kind index reason : Nat) : State :=
  let u := unitOf s kind index
  if u.st = 1 then setUnit s kind index fun u => { u with st := 2, returning := true, wanted := false, faulty := false, reason }
  else logEvent s 15 4 9 index []

/-- A SHEET record is carried out (R546 to R548). -/
def sheetRecord (s : State) (r : SheetRec) : State :=
  if r.ret then returnBegins s r.kind r.index r.reason else sheetUnit s r.kind r.index r.reason

/-- A unit's recalibration or test has ended: it returns by itself (R548). -/
def unitReady (s : State) (kind index : Nat) : State :=
  let u := unitOf s kind index
  if u.st = 1 ∧ (u.reason = 1 ∨ u.reason = 3) then returnBegins s kind index u.reason else s

end Sys2Proof.Machine
end

