-- ==== Sys2Proof/Machine/ScrOps.lean ====
section
/-! DEFINITION. Scrim twin mode (spec/16): pairing, commit records, control transactions, the failure of a twin, takeover and
handback. -/

namespace Sys2Proof.Machine

open Sys2Proof

/-- Raises a bit of SCR_EVENT_STATUS. -/
def scrEvent (s : State) (bitNo cls unit : Nat) : State := raise s Reg.scrEventStatus bitNo cls unit []

/-- The twins' fields changed. -/
def setScr (s : State) (f : Scr → Scr) : State := { s with scr := f s.scr }

/-- The entry of the coat's twin section for a role (R506). -/
def twinEnt (s : State) (role : Nat) : Option TwinEnt := (((coat s).twin).getD []).find? fun (t : TwinEnt) => t.role == role

/-- SEC_DEVID: the SHA-384 of this device's DeviceID public key (R471). -/
def ownDigest (s : State) : Nat := Config.sha384 s.sec.deviceKey

/-- The other twin's role. -/
def otherRole (s : State) : Nat := if s.scr.role = 1 then 2 else 1

/-! ### Pairing (R506, R507) -/

/-- A twin becomes HELD: every port DOWN, nothing served (R517). -/
def enterHeld (s : State) : State :=
  s.lnk.ports.foldl (fun s p => if p.2.st = .disabled then s else portDown s p.1) (setScr s fun x => { x with st := .held })

/-- A twin becomes ALONE: it waits for no commit acknowledgement any more (R513, R517). -/
def enterAlone (s : State) : State :=
  let s := setScr s fun x => { x with st := .alone, rejoin := false, took := false }
  { s with pool := { s.pool with txs := s.pool.txs.map fun t => { t with commit := none, acked := t.acked || t.commit.isSome } } }

/-- Pairing fails: the left twin goes on ALONE, the right twin is HELD (R507). -/
def pairMismatch (s : State) (cls : Nat) : State :=
  let s := scrEvent s 1 cls noUnit
  if s.scr.st = .alone then s else if s.scr.role = 1 then enterAlone s else enterHeld s

/-- The role that a coat gives this device (R506): a coat without a twin section gives 0; one that names this device in neither entry
gives 0 and holds it. -/
def loadRole (s : State) (c : Coat) : State :=
  match c.twin with
  | none => setScr s fun x => { x with role := 0, st := .solo }
  | some l =>
    match l.find? fun (t : TwinEnt) => t.digest == ownDigest s with
    | some t => setScr s fun x => { x with role := t.role, st := .training }
    | none => enterHeld (scrEvent (setScr s fun x => { x with role := 0 }) 1 1 noUnit)

/-- The bridge has trained on some groups: with four or more HELLO goes out (R507). -/
def bridgeTrained (s : State) (groups : BitVec 8) : State :=
  if s.scr.st ≠ .training ∧ s.scr.st ≠ .alone then s
  else
    let g := (List.range 8).filter fun i => groups.getLsbD i && inService s 11 i
    if 4 ≤ g.length then
      let s := setScr s fun x => { x with groups := g, trained := true }
      emit s (.bridge (.hello s.scr.role (ownDigest s) (coat s).serial (coat s).headerDigest))
    else pairMismatch s 1

/-- What R507 checks of the partner's HELLO. -/
def helloOk (s : State) (role devid serial digest : Nat) : Bool :=
  role == otherRole s && (twinEnt s role).any (fun t => t.digest == devid) && serial == (coat s).serial && digest == (coat s).headerDigest

/-- HELLO arrives (R507, R519): a twin that was reset while its partner served rejoins; a survivor begins to stream its shadows. -/
def helloRx (s : State) (role devid serial digest : Nat) : State :=
  if s.scr.role = 0 ∨ (s.scr.st ≠ .training ∧ s.scr.st ≠ .alone) then s
  else if !helloOk s role devid serial digest then pairMismatch s 1
  else
    let s := setScr s fun x => { x with partnerDevid := devid, partnerAlive := true }
    if s.scr.st = .alone then setScr s fun x => { x with rejoin := true, streamed := 0 }
    else if s.scr.wasReset then setScr s fun x => { x with st := .rejoining }
    else scrEvent (setScr s fun x => { x with st := .paired }) 0 1 noUnit

/-- A bridge group is retired (R504). -/
def bridgeGroupLost (s : State) (g : Nat) : State :=
  if (unitOf s 11 g).st = 3 then s
  else
    let s := retireUnit (permanentFault s) 11 g
    scrEvent (setScr s fun x => { x with groups := without x.groups g }) 4 2 g

/-! ### Commit records (R513) -/

/-- A list of (key, value) with several keys set. -/
def alSetAll {κ α : Type} [DecidableEq κ] (l new : List (κ × α)) : List (κ × α) := new.foldl (fun l x => alSet l x.1 x.2) l

/-- Kept completions with new ones in place of those of the same source and tag (R181). -/
def keepAll (l new : List Cpl) : List Cpl :=
  new.foldl (fun l c => l.filter (fun x => !(x.source == c.source && x.tag == c.tag)) ++ [c]) l

/-- A slot's registration at the other twin holds here too, where this twin keeps the records of the lines it homes (R210); when it ends, this
twin sweeps the records that it keeps (R206). -/
def slotShared (s : State) (x : Nat × Nat × Nat × Nat × Bool) : State :=
  let (i, ep, setsLog2, ways, on) := x
  let y := slotOf s i
  if on ∧ y.st = .registered ∧ y.ep = ep ∧ y.setsLog2 = setsLog2 ∧ y.ways = ways then s
  else if on then setSlot s i fun _ => { st := .registered, ep, setsLog2, ways }
  else if slotLive y && !y.recs.isEmpty then bgTx (setSlot s i fun z => { z with st := .deregistering }) { id := 0, work := .dereg i }
  else setSlot s i fun _ => {}

/-- A commit record arrives: applied whole, and acknowledged (R513). A request of a source that this twin sequences has completed. -/
def commitRx (s : State) (c : Commit) : State :=
  if s.scr.st ≠ .paired then s
  else
    let mine := c.kept.filter fun k => k.source % 2 == myTwin s
    let s := setScr s fun x =>
      { x with
        dirtyShadow := (alSetAll x.dirtyShadow c.lines).filter fun l => !c.freed.contains l.1
        pinnedMirror := alSetAll x.pinnedMirror c.pinned
        shadowRecs := alSetAll x.shadowRecs (c.records.map fun r => ((r.1, r.2.1), r.2.2))
        shadowPoison := c.poison.foldl (fun l p => if p.2 then addOnce l p.1 else without l p.1) x.shadowPoison
        shadowE := alSetAll x.shadowE c.pairE
        shadowKept := keepAll x.shadowKept (c.kept.filter fun k => k.source % 2 != myTwin s)
        shadowGauges := c.gauges.foldl (fun l g => l.filter (fun y => y.1 != g.1) ++ [g]) x.shadowGauges
        shadowSlots := c.slots.foldl (fun l g => l.filter (fun y => y.1 != g.1) ++ [g]) x.shadowSlots }
    let s := mine.foldl (fun s k =>
      match s.pool.txs.find? fun t => t.away && t.source == k.source && t.tag == k.tag with
      | some t => resetMayEnd (if t.keep then keepCpl (dropTx s t.id) k else dropTx s t.id) t.source
      | none => s) s
    let s := c.slots.foldl slotShared s
    let n := 160 * (c.lines.length + c.pinned.length)
    emit (bump s Reg.scrRxBytesLo n) (.bridge (.commitAck c.id))

/-- A commit record was acknowledged: the transaction that waits for it may complete (R513). -/
def commitAcked (s : State) (id : Nat) : State :=
  let f := fun (t : Tx) => if t.commit = some id then { t with commit := none, acked := true } else t
  { s with pool := { s.pool with txs := s.pool.txs.map f } }

/-- A request in sequence goes to the other twin for step 10 (R512); its entry stays until the other twin's commit record. -/
def passOn (s : State) (op : Nat) (m : Msg) : State :=
  let s := toPartner s (.execute op m) (36 + m.payload.length)
  newTx s { id := 0, source := m.src, tag := m.tag.toNat, work := .req op m, stage := .finishing, away := true }

/-! ### Failure and takeover (R517, R518) -/

/-- No heartbeat for 3 µs (R517). -/
def partnerSilent (s : State) (alive : Bool) : State :=
  if s.scr.st ≠ .paired ∧ s.scr.st ≠ .rejoining then s
  else
    let s := setScr s fun x => { x with partnerAlive := alive }
    if s.scr.role = 2 ∧ alive = true then scrEvent (enterHeld s) 3 2 noUnit
    else enterAlone (scrEvent s 2 2 noUnit)

/-- The dense tier starts to recover: trays are identified again, its map is not known (R302). -/
def denseRecover (s : State) : State := identifyDense { s with dns := { st := 1 } }

/-- A shadow slot's registration takes effect. -/
def takeSlot (s : State) (x : Nat × Nat × Nat × Nat × Bool) : State :=
  setSlot s x.1 fun y =>
    { y with st := if x.2.2.2.2 then .registered else y.st, ep := x.2.1, setsLog2 := x.2.2.1, ways := x.2.2.2.1 }

/-- The survivor's shadows take effect (R518); requests it had passed to the failed twin execute here. -/
def takeOver (s : State) : State :=
  if s.scr.st ≠ .alone ∨ s.scr.took = true then s
  else
    let x := s.scr
    let s := x.dirtyShadow.foldl (fun s l =>
      touchLine { s with mem := memLineWrite s.mem l.1 l.2 } l.1 fun c => { c with dirty := true }) s
    let s := x.pinnedMirror.foldl (fun s l => { s with mem := memLineWrite s.mem l.1 l.2 }) s
    let s := x.shadowSlots.foldl takeSlot s
    let s := x.shadowRecs.foldl (fun s r =>
      putRec s r.1.1 (r.1.2 / 16) (r.1.2 % 16) (if r.2.state = 0 then none else some r.2)) s
    let s := { s with coh := { s.coh with poison := x.shadowPoison.foldl addOnce s.coh.poison } }
    let s := x.shadowE.foldl (fun s p => setSrc s p.1 fun y => { y with expect := p.2 }) s
    let s := x.shadowKept.foldl keepCpl s
    let s := x.shadowGauges.foldl (fun s g =>
      setGauge s g.1 fun y => { y with value := g.2.1, next := g.2.2.1, epoch := g.2.2.2.1, fired := g.2.2.2.2 }) s
    let s := setScr s fun y =>
      { y with took := true, dirtyShadow := [], pinnedMirror := [], shadowRecs := [], shadowPoison := [], shadowE := [],
               shadowKept := [], shadowGauges := [], shadowSlots := [] }
    let s := (s.trw.groups.filter fun g => g.1 % 2 != myTwin s).foldl (fun s g => abortGroup s g.1 2) s
    let s := (coat s).resident.slots.foldl (fun s r => if r.twin = myTwin s then s else resStop s r.slot 0 0) s
    let s := (s.pool.txs.filter Tx.away).foldl (fun s t =>
      match t.req? with
      | some (op, m) =>
        if op = Op.tileInvoke then complete (dropTx s t.id) m St.busy (List.replicate 16 0) false false t.keep
        else addHook (dropTx s t.id) (.execute op m)
      | none => s) s
    if s.scr.role = 2 then denseRecover s else s

/-! ### Rejoining (R519) -/

/-- The lines of this home that the partner will home: dirty ones in the cache. -/
def streamLines (s : State) : List (Nat × List Byte) :=
  (s.pool.cache.filter fun (c : Nat × CLine) => c.2.dirty && homeTwin c.1 != myTwin s).map fun (c : Nat × CLine) => (c.1, hbmLine s c.1)

/-- The next lines of a survivor's shadows go to its rejoining partner (R519). -/
def streamShadow (s : State) (count : Nat) : State :=
  if s.scr.st ≠ .alone ∨ s.scr.rejoin = false then s
  else
    let l := ((streamLines s).drop s.scr.streamed).take count
    toPartner (setScr s fun x => { x with streamed := x.streamed + l.length }) (.stream l) (160 * l.length)

/-- What the survivor held for its partner's lines and sources becomes shadow again. -/
def giveBack (s : State) : State :=
  let other := fun (l : Nat) => homeTwin l != myTwin s
  let dirty := streamLines s
  let recs := (allRecs s).filter fun r => other r.it.line
  let srcs := s.pool.srcs.filter fun (p : Nat × Src) => p.1 % 2 != myTwin s
  let gauges := s.trw.gauges.filter fun (g : Nat × Gauge) => g.1 % 2 != myTwin s
  let s := setScr s fun x =>
    { x with
      dirtyShadow := alSetAll x.dirtyShadow dirty
      shadowRecs := alSetAll x.shadowRecs (recs.map fun r => ((r.slot, 16 * r.set + r.way), r.it))
      shadowPoison := (s.coh.poison.filter other).foldl addOnce x.shadowPoison
      shadowE := alSetAll x.shadowE (srcs.map fun p => (p.1, p.2.expect))
      shadowKept := keepAll x.shadowKept (srcs.flatMap fun p => p.2.kept)
      shadowGauges := x.shadowGauges ++ gauges.map fun g => (g.1, g.2.value, g.2.next, g.2.epoch, g.2.fired) }
  let s := (s.pool.cache.filter fun (c : Nat × CLine) => other c.1).foldl (fun s c => dropLine s c.1) s
  let s := recs.foldl (fun s r => putRec s r.slot r.set r.way none) s
  let s := { s with coh := { s.coh with poison := s.coh.poison.filter fun l => !other l } }
  let s := { s with pool := { s.pool with srcs := s.pool.srcs.filter fun p => p.1 % 2 == myTwin s } }
  let s : State := { s with trw := { s.trw with gauges := s.trw.gauges.filter fun (g : Nat × Gauge) => g.1 % 2 == myTwin s } }
  s

/-- The handback at a slot boundary: both twins enter PAIRED (R519). -/
def handBack (s : State) : State :=
  let done := fun (s : State) => scrEvent (setScr s fun x => { x with st := .paired, rejoin := false, took := false }) 5 4 noUnit
  if s.scr.st = .alone ∧ s.scr.rejoin = true then done (toPartner (giveBack s) .handback 0)
  else if s.scr.st = .rejoining then
    let s := done s
    if s.scr.role = 1 then denseRecover s else s
  else s

/-! ### Control transactions, heartbeat, waits (R514, R516, R517) -/

/-- A control transaction starts (R516): the right twin's backs off where both start one in a tick, and goes again in the tick after. -/
def controlStarts (s : State) (kind : CtlKind) (mine partnerToo : Bool) : State :=
  if s.scr.st ≠ .paired ∧ s.scr.st ≠ .rejoining ∧ s.scr.rejoin = false then s
  else if !mine then s
  else if partnerToo ∧ s.scr.role = 2 then bump (setScr s fun x => { x with ctlAgain := some kind }) Reg.scrBackoffLo 1
  else emit s (.bridge (.control kind))

/-- A heartbeat crosses the bridge and SCR_ALIVE toggles (R517). -/
def heartbeat (s : State) : State :=
  if s.scr.role = 0 then s
  else
    let s := setScr s fun x => { x with alive := !x.alive }
    emits s [.bridge .heartbeat, .pin .scrAlive s.scr.alive]

/-- A write has waited SHORT_WAIT for room in the dirty shadow (R514). -/
def shadowWaitBusy (s : State) (source tag : Nat) : State :=
  match s.pool.txs.find? fun t => t.isReq && t.source == source && t.tag == tag with
  | some t =>
    match t.req? with
    | some (_, m) => if t.stage = .waiting ∧ heldShadow s t = true then answer (dropTx s t.id) m St.busy else s
    | none => s
  | none => s

end Sys2Proof.Machine
end

