-- ==== Sys2Proof/Machine/SecOps.lean ====
section
/-! DEFINITION. Security (spec/15): randomness, key slots and key commands, re-keying, MKA at the rack boundary, debug unlock. -/

namespace Sys2Proof.Machine

open Sys2Proof

/-- Raises a bit of SEC_EVENT_STATUS. -/
def secEvent (s : State) (bitNo cls unit : Nat) : State := raise s Reg.secEventStatus bitNo cls unit []

/-- The security fields changed. -/
def setSec (s : State) (f : Sec → Sec) : State := { s with sec := f s.sec }

/-- Bring-up mode: the strap as sampled at release from reset (R616, R630). -/
def bringup (s : State) : Bool := s.pwr.straps.getLsbD 0

/-! ### Randomness (R477 to R479) -/

/-- A start-up test ends. A device that still tests makes up to ten attempts; a retest repeats until it passes. -/
def rngTested (s : State) (pass : Bool) : State :=
  if s.sec.rng ≠ .testing ∧ s.sec.rng ≠ .retesting then s
  else if pass then
    secEvent (setSec s fun x => { x with rng := .ready, stale := false, readyAt := if rngServes s then none else some (tickNow s) }) 0 1 noUnit
  else
    let s := bump s Reg.secRngHealthFailLo 1
    if s.sec.rng = .retesting then s
    else
      let s := setSec s fun x => { x with attempts := x.attempts + 1 }
      if s.sec.attempts < 10 then s else secEvent (permanentFault (setSec s fun x => { x with rng := .failed })) 1 2 noUnit

/-- A continuous test fails in service (R479). -/
def rngFails (s : State) : State :=
  let s := bump s Reg.secRngHealthFailLo 1
  if s.sec.rng = .ready then secEvent (setSec s fun x => { x with rng := .retesting }) 2 2 noUnit else s

/-- The next reseed falls due: without a source the DRBG serves no longer (R477, R479). -/
def reseedDue (s : State) : State := setSec s fun x => if x.rng = .retesting then { x with stale := true } else x

/-! ### Key slots (R480 to R484) -/

/-- A key slot changed. -/
def setKey (s : State) (i : Nat) (f : KeySlot → KeySlot) : State :=
  setSec s fun x => { x with keys := alSet x.keys i (f (keySlotOf s i)) }

/-- A slot zeroised: EMPTY (R483). -/
def emptyKey (s : State) (i : Nat) : State := setSec s fun x => { x with keys := alErase x.keys i }

/-- The windows whose bytes a slot protects, in ascending index (R485 to R488). -/
def keyWins (s : State) (i : Nat) : List Win :=
  let l := (wins s).filter fun w => if (sealedSlot s w.id).isSome then sealedSlot s w.id == some i else w.encrypt && w.keySlot == i
  l.mergeSort fun a b => a.id ≤ b.id

/-- Whether a window of the active coat names a slot (R483). -/
def keyNamed (s : State) (i : Nat) : Bool :=
  (wins s).any (fun w => w.encrypt && w.keySlot == i) || (coat s).security.sealed.any fun (p : Nat × Nat) => p.2 == i

/-- A key command's fields (R481). -/
structure KeyCmd where
  cmd : Nat
  kind : Nat
  slot : Nat
  owner : Nat
  members : Nat
  apply : Nat
  digest : List Byte
  key : List Byte
deriving DecidableEq, Repr

/-- The fields of a payload. -/
def keyCmd (b : List Byte) : KeyCmd :=
  { cmd := beAt b 0 1, kind := beAt b 1 1, slot := beAt b 2 2, owner := beAt b 4 2, members := beAt b 6 2, apply := beAt b 8 8,
    digest := slice b 16 48, key := slice b 64 64 }

/-- Whether a payload's length and fields are within range (R481). -/
def keyCmdOk (b : List Byte) : Bool :=
  let c := keyCmd b
  if c.cmd = 1 then
    b.length == 128 && c.kind ≤ 1 && c.slot ≤ 4095 && (c.kind == 1 || c.owner < 4096) && c.key.take 32 != c.key.drop 32
  else if c.cmd = 2 then b.length == 4 && c.kind == 0 && c.slot ≤ 4095
  else if c.cmd = 3 then b.length == 128 && c.kind == 0 && c.slot ≤ 1023 && c.owner < 4096
  else false

/-- Whether R482 refuses a command to a role. A tenant's command concerns its own slots only; a device set's slot is no tenant's. -/
def keyRefused (s : State) (role : Role) (c : KeyCmd) : Bool :=
  let k := keySlotOf s c.slot
  bringup s || s.sec.debug ||
  match role with
  | .attest => true
  | .fm => false
  | .tenant t =>
    c.cmd == 3 || c.kind == 1 || (c.cmd == 1 && c.owner != t) || (k.st != .empty && (k.kind == 1 || k.owner != t))

/-- LOAD (R483). A slot not after the current one means the next slot boundary (R481). -/
def keyLoads (s : State) (c : KeyCmd) : Nat × State :=
  let k := keySlotOf s c.slot
  let members := if c.kind = 1 then (if c.members = 0 then 4096 else c.members) else 0
  let put := fun (k : KeySlot) =>
    { k with st := .pending, next := some c.key, nextMembers := members, nextDigest := beNat c.digest, applySlot := c.apply,
             due := if slotNow s < c.apply then c.apply else slotNow s + 1 }
  match k.st with
  | .empty =>
    (St.ok, setKey s c.slot fun _ => put { kind := c.kind, owner := c.owner, members, digest := beNat c.digest })
  | .active => if k.kind = c.kind ∧ k.owner = c.owner then (St.ok, setKey s c.slot put) else (St.accessDenied, s)
  | _ => (St.busy, s)

/-- ERASE (R483). -/
def keyErases (s : State) (c : KeyCmd) : Nat × State :=
  match (keySlotOf s c.slot).st with
  | .empty => (St.ok, s)
  | .active => if keyNamed s c.slot then (St.busy, s) else (St.ok, emptyKey s c.slot)
  | _ => (St.busy, s)

/-! ### MKA (R491) -/

/-- A port's MACsec state. -/
def macOf (s : State) (p : Nat) : MacSec := alGetD s.lnk.macsec p {}

/-- A port's MACsec state changed. -/
def setMac (s : State) (p : Nat) (f : MacSec → MacSec) : State :=
  { s with lnk := { s.lnk with macsec := alSet s.lnk.macsec p (f (macOf s p)) } }

/-- A secure association key is installed, the newest of at most four; the port leaves AWAITING_KEY (R86, R87). -/
def installSak (s : State) (p sak : Nat) : State :=
  let s := setMac s p fun m => { m with saks := (sak :: m.saks.filter (· != sak)).take 4, packets := 0 }
  if (portOf s p).st = .awaitingKey then comeUp s p else s

/-- An MKA frame of this device's leaves a port. -/
def sendMka (s : State) (p : Nat) (sak : Option Nat) : State :=
  let m := macOf s p
  emit s (.mka p { ckn := (m.cak.getD (0, 0)).1, serverPriority := BitVec.ofNat 8 (coat s).security.mkaPriority,
                   serverId := Config.eui64.toNat, live := m.live, sak })

/-- LINK_CAK: a new connectivity association; the old key protects traffic until the new one is installed. -/
def linkCakSet (s : State) (c : KeyCmd) : State :=
  let cak := some (beNat (c.digest.take 16), beNat (c.key.take 32))
  sendMka (setMac s c.slot fun m => { m with cak, keyServer := false, live := [] }) c.slot none

/-- Whether this end is key server against the sender of a frame: the lower priority value, then the lower identifier. -/
def mkaWins (s : State) (f : Mka) : Bool :=
  let mine := (coat s).security.mkaPriority
  mine < f.serverPriority.toNat || (mine == f.serverPriority.toNat && Config.eui64.toNat < f.serverId)

/-- An MKA frame arrives (R491). As key server this end draws a key from the DRBG when it becomes one, when live membership changes, and
when the packet number reaches 2^62; without randomness it waits (R478). -/
def mkaRx (s : State) (p : Nat) (f : Mka) : State :=
  let m := macOf s p
  if !outOfRack s p || (m.cak.map fun c => c.1) != some f.ckn then s
  else if mkaWins s f then
    let due := !m.keyServer || m.live != f.live || 2 ^ 62 ≤ m.packets
    if due && rngServes s then
      let r := randomBytes s 32
      let sak := beNat r.1
      let s := setMac r.2 p fun m => { m with keyServer := true, live := f.live }
      installSak (sendMka s p (some sak)) p sak
    else s
  else
    let s := setMac s p fun m => { m with keyServer := false, live := f.live }
    match f.sak with
    | some k => installSak s p k
    | none => s

/-! ### Key commands (R481, R482) -/

/-- A key command: its status, and the state after it. -/
def keyCommand (s : State) (role : Role) (b : List Byte) : Nat × State :=
  let c := keyCmd b
  if !keyCmdOk b then (St.malformed, s)
  else if keyRefused s role c then (St.accessDenied, secEvent (bump s Reg.secKeyRefusedLo 1) 6 1 noUnit)
  else if c.cmd = 1 then keyLoads s c
  else if c.cmd = 2 then keyErases s c
  else if !outOfRack s c.slot then (St.unsupported, s)
  else (St.ok, linkCakSet s c)

/-- The role of a session; of every other context ATTEST (R474). -/
def roleOf (s : State) (session : Nat) : Role := (s.sec.sessions.lookup session).getD .attest

/-- A key command that came in a secure session: answered in it by a status code and three zero bytes. -/
def sessionKey (s : State) (session : Nat) (b : List Byte) : State :=
  let r := keyCommand s (roleOf s session) b
  emit r.2 (.spdm session (beBytes 1 r.1 ++ [0, 0, 0]))

/-! ### Application and re-keying (R484, R487) -/

/-- The next unit that a slot's cursor stands before: window and offset. -/
def rekeyNext (s : State) (i : Nat) : Option (Win × Nat) :=
  let k := keySlotOf s i
  match (keyWins s i).find? fun w => w.id == k.curWin && k.curOff < w.size with
  | some w => some (w, k.curOff)
  | none => ((keyWins s i).find? fun w => k.curWin < w.id).map fun w => (w, 0)

/-- Where no unit is left the old pair is zeroised and the slot is ACTIVE (R487). -/
def rekeyMayEnd (s : State) (i : Nat) : State :=
  if (keySlotOf s i).st = .rotating ∧ (rekeyNext s i).isNone then
    secEvent (setKey s i fun k => { k with st := .active, old := none, curWin := 0, curOff := 0 }) 5 1 i
  else s

/-- A pending pair applies, from its slot on (R484). -/
def keyApplies (s : State) (i : Nat) : State :=
  let k := keySlotOf s i
  if k.st ≠ .pending ∨ slotNow s < k.due then s
  else
    let first := ((keyWins s i).head?.map Win.id).getD 0
    let s := setKey s i fun k =>
      { k with st := if k.pair.isSome then .rotating else .active, old := k.pair, pair := k.next, next := none, gen := (k.gen + 1) % two16,
               members := k.nextMembers, digest := k.nextDigest, applySlot := 0, due := 0, curWin := first, curOff := 0 }
    rekeyMayEnd (secEvent s 4 4 i) i

/-- A unit that reads as zeros in its tier, with no line in HBM, is skipped (R487). -/
def rekeySkips (s : State) (w : Win) (unit : Nat) : Bool :=
  let cached := s.pool.cache.any fun (c : Nat × CLine) => unitOfLine c.1 == unit
  if w.policy = 0 then false
  else if w.policy = 1 then (List.range 512).all (fun i => zeroed s (512 * unit + i)) && !((sealedSlot s w.id).isSome && cached)
  else (mapOf s unit).st == .zero && !((sealedSlot s w.id).isSome && cached)

/-- The cursor passes a unit (R487). -/
def rekeyPass (s : State) (i unit bytes : Nat) : State :=
  match winOfLine s (512 * unit) with
  | some w =>
    rekeyMayEnd (bump (setKey s i fun k => { k with curWin := w.id, curOff := 65536 * unit + 65536 - w.base }) Reg.secRekeyBytesLo bytes) i
  | none => rekeyMayEnd s i

/-- A step of a ROTATING slot: the unit at its cursor is re-keyed, or passed where it reads as zeros (R487). -/
def rekeyStarts (s : State) (i : Nat) : State :=
  let busy := s.pool.txs.any fun t =>
    match t.work with
    | .rekey j _ => j == i
    | _ => false
  if (keySlotOf s i).st ≠ .rotating ∨ busy = true then s
  else
    match rekeyNext s i with
    | none => rekeyMayEnd s i
    | some (w, off) =>
      let unit := (w.base + off) / 65536
      if rekeySkips s w unit then rekeyPass s i unit 0
      else if !bgRoom s then s
      else
        let whole := (512 * unit, 512)
        let raw := (sealedSlot s w.id).isNone && (unitPlace s unit).isSome
        newTx s { id := 0, work := .rekey i unit, reads := if raw then [] else [whole], writes := if raw then [whole] else [] }

/-- A unit's re-keying ended: one whose tier is not ready is tried again (R487). -/
def rekeyEnded (s : State) (i unit status : Nat) : State :=
  if status = St.notReady ∨ (keySlotOf s i).st ≠ .rotating then s else rekeyPass s i unit (if status = St.ok then 65536 else 0)

/-! ### Debug (R493, R494) -/

/-- The debugger reads a nonce, where randomness serves. -/
def nonceRead (s : State) : State :=
  if rngServes s then
    let r := randomBytes s 32
    setSec r.2 fun x => { x with nonce := some (beNat r.1) }
  else s

/-- The four steps of an unlock (R494). -/
def debugOpens (s : State) : State :=
  let macs := s.lnk.macsec.map Prod.fst
  let shut := fun (s : State) (p : Nat) =>
    if (portOf s p).st = .up ∨ (portOf s p).st = .degraded then setPort s p fun q => { q with st := .awaitingKey } else s
  let s := macs.foldl (fun s p => if outOfRack s p then shut s p else s) { s with lnk := { s.lnk with macsec := [] } }
  let keep := s.pool.txs.filter fun t =>
    match t.work with
    | .rekey _ _ => false
    | _ => true
  let s := { s with pool := { s.pool with txs := keep } }
  secEvent (setSec s fun x => { x with keys := [], sessions := [], aliasKey := false, signDisabled := true, debug := true }) 7 4 noUnit

/-- The debugger returns a signature over SHA-384(DeviceID public key, nonce): each nonce is good for one attempt (R493). -/
def debugTry (s : State) (sig : List Byte) (inTime : Bool) : State :=
  match s.sec.nonce with
  | none => s
  | some n =>
    let ok := inTime && bit (coatReg s Reg.secCfg 0) 0 &&
      Config.ecdsaVerify Config.debugAuthority (Config.sha384 (s.sec.deviceKey ++ beBytes 32 n)) sig
    let s := setSec s fun x => { x with nonce := none }
    if ok then debugOpens s else s

end Sys2Proof.Machine
end

