-- ==== Sys2Proof/Machine/LoadOps.lean ====
section
/-! DEFINITION. The rules under which a coat is rejected at load (spec/19 R587 and the rules that each chapter names). Each check names the
type of the section that breaks it; sections are judged in the order of their types (log entry 103). -/

namespace Sys2Proof.Machine

open Sys2Proof

/-- The state as it would be with a coat in force: the settings that a load rule speaks of. -/
def under (s : State) (c : Coat) : State :=
  { s with cfg := { s.cfg with active := some c }, scr := { s.scr with role := if c.twin.isSome then 1 else 0 } }

/-- Whether a list has no repeats. -/
def distinct {α : Type} [DecidableEq α] : List α → Bool
  | [] => true
  | x :: r => !r.contains x && distinct r

/-! ### Fields out of range -/

/-- A field with a stated range: register, low bit, width, least and greatest value. -/
structure RangeRule where
  addr : Nat
  lo : Nat
  n : Nat
  least : Nat
  most : Nat
deriving DecidableEq, Repr

/-- The ranges that a coat is rejected for breaking (R26, R78, R96, R99, R110, R131, R240, R305, R306, R418, R499, R523, R551, R577, R604,
R652), and those of the registers whose tables state a range and no more (R130, R135, R194 to R197, R304, R347, R381, R578).
DEDUCED, log entry 207. -/
def rangeRules : List RangeRule := [
  ⟨Reg.almHoldoverLimit, 0, 20, 1000, 1000000⟩, ⟨Reg.lnkFaultCfg, 0, 4, 1, 10⟩, ⟨Reg.lnkFaultCfg, 4, 5, 8, 20⟩, ⟨Reg.lnkFaultCfg, 21, 8, 1, 255⟩,
  ⟨Reg.lnkLlrCfg, 0, 6, 1, 50⟩, ⟨Reg.lnkLlrCfg, 6, 4, 1, 15⟩, ⟨Reg.lnkPortCfg, 0, 2, 0, 2⟩, ⟨Reg.swcCfg, 0, 5, 1, 20⟩,
  ⟨Reg.swcCfg, 5, 8, 1, 255⟩, ⟨Reg.swcCfg, 13, 10, 1, 1000⟩, ⟨Reg.swcQCfg, 16, 4, 0, 9⟩, ⟨Reg.cohCfg, 0, 10, 10, 1000⟩,
  ⟨Reg.cohCfg, 10, 3, 1, 7⟩, ⟨Reg.cohCfg, 13, 11, 1, 1024⟩] ++ [
  ⟨Reg.dnsCfg, 4, 5, 1, 30⟩, ⟨Reg.dnsCfg, 9, 6, 4, 32⟩, ⟨Reg.dnsCfg, 15, 10, 10, 600⟩, ⟨Reg.dnsGcCfg, 0, 5, 2, 20⟩,
  ⟨Reg.dnsGcCfg, 5, 5, 1, 19⟩, ⟨Reg.dnsGcCfg, 10, 12, 16, 4095⟩, ⟨Reg.dnsGcCfg, 22, 6, 16, 63⟩, ⟨Reg.tilCfg, 0, 9, 1, 256⟩,
  ⟨Reg.tilCfg, 9, 5, 1, 19⟩, ⟨Reg.tilCfg, 14, 3, 1, 7⟩, ⟨Reg.secCfg, 1, 5, 1, 16⟩, ⟨Reg.scrCfg, 2, 7, 1, 64⟩, ⟨Reg.scrCfg, 0, 2, 0, 0⟩,
  ⟨Reg.cfgCfg, 0, 12, 1, 3600⟩, ⟨Reg.cfgCfg, 18, 4, 1, 15⟩] ++ [
  ⟨Reg.rasCfg, 0, 12, 16, 4095⟩, ⟨Reg.rasCfg, 12, 6, 1, 63⟩, ⟨Reg.rasCfg, 18, 4, 1, 15⟩, ⟨Reg.telCfg, 0, 20, 977, 1048575⟩,
  ⟨Reg.pwrCfg, 0, 12, 1000, 2500⟩, ⟨Reg.pwrCfg, 12, 7, 85, 103⟩, ⟨Reg.pwrCfg, 19, 7, 80, 95⟩, ⟨Reg.pwrCfg, 26, 4, 1, 15⟩] ++ [
  ⟨Reg.poolHbmCfg, 0, 7, 0, 64⟩, ⟨Reg.poolHbmCfg, 7, 9, 0, 256⟩, ⟨Reg.poolHbmArb, 0, 4, 1, 15⟩, ⟨Reg.poolHbmArb, 4, 4, 1, 15⟩,
  ⟨Reg.poolHbmArb, 8, 4, 1, 15⟩, ⟨Reg.poolHbmArb, 12, 4, 1, 15⟩, ⟨Reg.poolTimeout, 0, 10, 1, 1000⟩, ⟨Reg.poolTimeout, 10, 3, 1, 7⟩,
  ⟨Reg.poolTimeout, 13, 10, 1, 1000⟩, ⟨Reg.poolTierCfg, 0, 17, 1, 86400⟩, ⟨Reg.poolTierCfg, 18, 4, 1, 8⟩, ⟨Reg.poolTierCfg, 22, 8, 1, 100⟩,
  ⟨Reg.poolTrkCfg, 0, 16, 512, 16384⟩, ⟨Reg.poolTrkCfg, 16, 9, 8, 256⟩, ⟨Reg.poolSrcCfg, 0, 13, 0, 4096⟩] ++ [
  ⟨Reg.swcL2Cfg, 0, 12, 10, 3600⟩, ⟨Reg.swcPortPfc, 9, 4, 0, 9⟩, ⟨Reg.dnsMediaCfg, 0, 9, 10, 500⟩, ⟨Reg.trwCfg, 0, 10, 1, 1000⟩,
  ⟨Reg.trwGrpTimers, 0, 14, 1, 10000⟩, ⟨Reg.trwGrpTimers, 14, 14, 1, 10000⟩,
  ⟨Reg.gthCfg, 0, 11, 64, 1024⟩, ⟨Reg.gthCfg, 11, 8, 1, 255⟩, ⟨Reg.rasSelftestCfg, 0, 8, 1, 168⟩]

/-- The row of a register: in LNK that of lane 0. -/
def rowOf (addr : Nat) : Nat := if 0x02000000 ≤ addr ∧ addr < 0x04000000 then lnkRow addr else addr

/-- Whether every record keeps the ranges. A field that no record names has its reset value, which is in range. -/
def rangesOk (regs : List RegRec) : Bool :=
  regs.all fun r => (rangeRules.filter fun x => x.addr == rowOf r.addr).all fun x =>
    let v := fld r.val.toNat x.lo x.n
    x.least ≤ v && v ≤ x.most

/-! ### Ports and links (R60, R65) -/

/-- The ports that a coat's sections refer to: almanac, switch, schedule, security. -/
def targetPorts (t : Target) : List Nat :=
  match t with
  | .port p => [p]
  | _ => []

/-- Whether ports exist: on this device, or in a twin coat on either. -/
def portsOk (sc : State) (l : List Nat) : Bool :=
  l.all fun p => p < (if (coat sc).twin.isSome then 1024 else 512) && portExists sc p

/-- The ports of a device pair that exist. -/
def livePorts (sc : State) : List Nat := (List.range (if (coat sc).twin.isSome then 1024 else 512)).filter (portExists sc)

/-- R65: a wired spare lane belongs to a port that the mode starts, of kind Scanan or tray. A SPARE_PORT other than 0 without SPARE_WIRED
breaks it too. -/
def sparesOk (sc : State) : Bool :=
  (List.range (if (coat sc).twin.isSome then 128 else 64)).all fun g =>
    let w := coatReg sc (lnkPort Reg.lnkGrpCfg (8 * g)) 0
    let p := 8 * g + fld w 3 3
    if bit w 2 then portExists sc p && hasLlr sc p else fld w 3 3 == 0

/-! ### Buffers and schedulers (R109, R126, R135, R148, R149, R153, R160) -/

/-- R109 for the ports of one device. -/
def buffersOk (sc : State) (ports : List Nat) : Bool :=
  let minOf := fun (p c : Nat) => coatFld sc Reg.swcQCfg (p + 1024 * c) 0 16
  let mins := sumBy ports fun p => sumBy (List.range 12) fun c => minOf p c
  let pool := coatFld sc Reg.swcPoolCfg 0 0 20
  let hr := coatFld sc Reg.swcHrCfg 0 0 20
  (ports.all fun p => [8, 9, 10, 11].all fun c => 36 ≤ minOf p c) && 65536 ≤ pool && 18432 + mins + hr + pool == 786432

/-- R135: a port with PFC on any priority has headroom, and no more than the pool; a record is judged whether its port exists or not. -/
def pfcOk (sc : State) : Bool :=
  (selsOf (coat sc).regs Reg.swcPortPfc Reg.swcPortPfc).all fun p =>
    let w := coatReg sc Reg.swcPortPfc p
    fld w 0 8 == 0 || (fld w 16 16 != 0 && fld w 16 16 ≤ coatFld sc Reg.swcHrCfg 0 0 20)

/-- Every queue with ECN marking has KMIN below KMAX (R126). -/
def ecnOk (sc : State) : Bool :=
  (selsOf (coat sc).regs Reg.swcQCfg Reg.swcQCfg).all fun q =>
    !bit (coatReg sc Reg.swcQCfg q) 21 || fld (coatReg sc Reg.swcQEcn q) 0 12 < fld (coatReg sc Reg.swcQEcn q) 12 12

/-- R148 and R149: weights of nodes in use, and shapers. -/
def nodesOk (sc : State) : Bool :=
  let regs := (coat sc).regs
  let cfg := fun (n : Nat) => coatReg sc Reg.schNodeCfg n
  let subs := (selsOf regs Reg.schNodeCfg Reg.schNodeCfg).filter fun n => n / 65536 == 1 && bit (cfg n) 9
  (subs.all fun n => fld (cfg n) 0 8 != 0 && (List.range 8).all fun k => fld (cfg (8 * (n % 65536) + k)) 0 8 != 0) &&
    (selsOf regs Reg.schNodeCfg Reg.schNodeCfg).all fun n =>
      let rate := fld (coatReg sc Reg.schNodeRate n) 0 24
      !bit (cfg n) 8 || (rate != 0 && ceilDiv rate 16 ≤ coatReg sc Reg.schNodeBurst n)

/-- R148 and R160 for every port: the weights of the overflow nodes, of the default subscriber and of its leaves, allowances, LEN_ADJ. -/
def schPortsOk (sc : State) : Bool :=
  (livePorts sc).all fun p =>
    let n := nodeSel (.port p)
    let w := coatReg sc Reg.schPortWeight n
    let cfg := coatReg sc Reg.schPortCfg n
    let adj := signed 8 (fld cfg 24 8)
    let leaves := (List.range 4).all fun k => coatFld sc Reg.schPortDefWLo n (8 * k) 8 != 0 && coatFld sc Reg.schPortDefWHi n (8 * k) 8 != 0
    leaves &&     fld w 0 8 != 0 && fld w 8 8 != 0 && fld w 16 8 != 0 && fld cfg 0 8 + fld cfg 8 8 + fld cfg 16 8 ≤ 128 && decide (-32 ≤ adj) && decide (adj ≤ 63)

/-- R153 for every policer in use. -/
def policersOk (sc : State) : Bool :=
  (selsOf (coat sc).regs Reg.schPolCfg Reg.schPolCfg).all fun k =>
    let r := fun a => coatReg sc a k
    !bit (r Reg.schPolCfg) 0 ||
      (r Reg.schPolCir ≤ r Reg.schPolPir && 9216 ≤ r Reg.schPolCbs && 9216 ≤ r Reg.schPolPbs && ceilDiv (r Reg.schPolCir) 16 ≤ r Reg.schPolCbs &&
        ceilDiv (r Reg.schPolPir) 16 ≤ r Reg.schPolPbs && fld (r Reg.schPolCfg) 2 2 != 3)

/-! ### Windows and tiers (R164, R166, R170, R184, R188, R198, R241) -/

/-- Whether a range lies in one window with a key. -/
def inOneWin (sc : State) (key : Key) (a n : Nat) : Bool := (winAt sc a).any fun w => w.key == key && a + n ≤ w.base + w.size

/-- The capacity-tier space that a coat's trays declare (R170); one that has not answered yet may declare 16 TiB (R191; log entry 104). -/
def capDeclared (sc : State) : Nat :=
  sumBy (coat sc).pool.trays fun t =>
    let x := capTrayOf sc t.1
    if x.st < 2 then 2 ^ 44 else if x.st = 3 then 0 else x.bytes

/-- Whether the windows of a policy fit their tier (R164, R170). The dense tier offers 2 PiB at most (R278), which counts while a dense tray has
not answered yet (log entry 104). -/
def tiersFit (sc : State) : Bool :=
  let sum := fun (l : List Nat) => sumBy ((wins sc).filter fun w => l.contains w.policy) Win.size
  let cap := (if capPair sc then capDeclared sc / 2 else capDeclared sc) - 8 * (sum [2, 3] / 65536) - 16777216
  let denseKnown := (coat sc).dense.trays.all fun t => (dTrayOf sc t.index).st != 0
  sum [1] ≤ cap && sum [2, 3] ≤ (if denseKnown then denseUsable sc else 2 ^ 51)

/-- R164, R170, R188, R198: each window by itself, and all together; one that a coat gives anything has a size. -/
def winsOk (sc : State) : Bool :=
  let ws := wins sc
  let cohEn := bit (coatReg sc Reg.poolHbmCfg 0) 16
  (ws.all fun w =>
    w.base % 2097152 == 0 && w.size % 2097152 == 0 && 2097152 ≤ w.size && w.size ≤ 2 ^ 51 && w.base + w.size ≤ 2 ^ 56 && w.policy ≤ 3 &&
      !(w.coherent && (!cohEn || (w.mirror && w.secondary))) && !(w.policy == 0 && (w.encrypt || w.mirror)) &&
      !(w.mirror && w.secondary && w.owner != w.partner) &&
      !(ws.any fun v => v.id != w.id && v.base < w.base + w.size && w.base < v.base + v.size) &&
      countBy ws (fun v => v.owner == w.owner && !(v.mirror && v.secondary)) ≤ 16) &&
    ((coat sc).regs.all fun r =>
      !(Reg.poolWinBaseLo ≤ r.addr && r.addr ≤ Reg.poolWinMbaseHi && r.val != 0 && r.sel < indexMax) || ws.any fun w => w.id == r.sel) && tiersFit sc

/-- R184: CREDITS and BG_RESERVE. -/
def creditsOk (sc : State) : Bool :=
  sumBy (selsOf (coat sc).regs Reg.poolSrcCfg Reg.poolSrcCfg) (creditsOf sc) + bgReserve sc ≤ 65536

/-- R166, R514: at least 16 GiB stay for the associative pool cache; without a map cache there is no dense tray. -/
def cacheOk (sc : State) : Bool :=
  16384 ≤ cacheMib sc && (fld (coatReg sc Reg.poolHbmCfg 0) 0 7 != 0 || (coat sc).dense.trays.isEmpty)

/-! ### Groups (R311, R314, R318, R322, R331, R333, R350, R369) -/

/-- Floating output formats of R322. -/
def outFloat (f : Nat) : Bool := f ≤ 4

/-- Integer formats of R322. -/
def intFmt (f : Nat) : Bool := 9 ≤ f && f ≤ 11

/-- What R322 lets operation, mode and formats be. -/
def formatsOk (x : Grp) : Bool :=
  let isInt := intFmt x.inF && !x.inMx
  let floatIn := outFloat x.inF && !x.inMx
  let mxIn := x.inMx && (x.inF == 3 || x.inF == 4 || x.inF == 5 || x.inF == 6 || x.inF == 7 || x.inF == 9)
  let outs := fun (f : Nat) => if isInt then intFmt f else outFloat f
  let input :=
    if x.op = 0 ∨ x.op = 2 ∨ x.op = 3 then isInt || floatIn || mxIn
    else if x.op = 1 then isInt || (floatIn && x.fast)
    else x.op ≤ 6 && isInt
  input && outs x.outF && outs x.partF

/-- R318: a chunk of either format fits one message. -/
def chunkFits (x : Grp) : Bool := x.ce * max (fmtOf x.inF).bits (fmtOf x.partF).bits ≤ 32768

/-- Whether an array lies in a PINNED window with a group's key. -/
def pinnedArray (sc : State) (x : Grp) (a : Nat) : Bool := inOneWin sc x.key a (4 * x.elems) && (winAt sc a).any fun w => w.policy == 0

/-- R369 for a group whose DEST is 4; another group has no RUB. -/
def rubOk (sc : State) (x : Grp) : Bool :=
  let valid := bit (coatReg sc Reg.gthRubCfg x.id) 22
  let arrays := [x.wBase, x.mBase, x.vBase]
  let used := [true, x.opt != 0, x.opt == 2]
  let apart := fun (a b : Nat) => a + 4 * x.elems ≤ b || b + 4 * x.elems ≤ a
  if x.dest ≠ 4 then !valid
  else
    valid && x.op == 0 && !(intFmt x.inF && !x.inMx) && x.outF ≤ 2 && arrays.all (pinnedArray sc x) &&
      (List.range 3).all (fun i => (List.range i).all fun j => !(used.getD i false || used.getD j false) || apart (arrays.getD i 0) (arrays.getD j 0)) &&
      x.param % 128 == 0 && inOneWin sc x.key x.param 1024 && (x.bcast == 1 || x.bcast == 2 || x.bcast == 3 || x.bcast == 4) &&
      (!x.bcastMx || x.bcast == 3 || x.bcast == 4) && x.tileFirst + x.tileCount ≤ 80

/-- What R314 to R350 ask of each group's registers. ELEMENTS and CHUNKS keep their ranges of R331 and R347
(log entry 207). -/
def groupsOk (sc : State) : Bool :=
  let gs := grpsIn (coat sc)
  (gs.all fun x =>
    gaugeTarget sc x.gauge != 0 && 1 ≤ x.elems && x.elems ≤ 2 ^ 40 && 1 ≤ x.reserve && formatsOk x && chunkFits x && x.dest ≤ 4 && !(x.root && x.dest == 0) && rubOk sc x &&
      (!(x.dest == 2 || x.dest == 3) || inOneWin sc x.key x.resultBase (x.elems * x.outBytes))) &&
    sumBy gs (fun x => x.stageBytes * x.reserve) ≤ 100663296 && sumBy gs Grp.reserve ≤ 65536

/-- The bytes of all rings (R369). -/
def ringBytes (sc : State) : Nat := sumBy ((grpsIn (coat sc)).filter fun x => x.dest == 4) fun x => x.ring * x.ce * x.outBytes

/-- TILE_GIB in bytes. -/
def tileBytes (sc : State) : Nat := 1073741824 * fld (coatReg sc Reg.poolHbmCfg 0) 7 9

/-- R311: the table of a group in use has CONTRIB entries, each endpoint once. -/
def tablesOk (sc : State) : Bool :=
  (grpsIn (coat sc)).all fun x =>
    let n := fld (coatReg sc Reg.trwGrpCfg x.id) 0 12
    x.table.length == (if n = 0 then 4096 else n) && distinct (x.table.map ContribEnt.ep)

/-! ### Section by section -/

/-- The REGISTERS section. -/
def registersOk (sc : State) : Bool :=
  let ports := livePorts sc
  rangesOk (coat sc).regs && sparesOk sc && buffersOk sc (ports.filter fun p => p < 512) &&
    ((coat sc).twin.isNone || buffersOk sc (ports.filter fun p => 512 ≤ p)) && pfcOk sc && ecnOk sc && nodesOk sc && schPortsOk sc && policersOk sc &&
    winsOk sc && creditsOk sc && cacheOk sc && distinct ((slotsIn (coat sc)).map Prod.snd) &&
    coatFld sc Reg.dnsGcCfg 0 5 5 < coatFld sc Reg.dnsGcCfg 0 0 5 && hostCores sc + lowerCores sc ≤ 20 && groupsOk sc &&
    ringBytes sc ≤ tileBytes sc

/-- A calendar's entry breaks no rule of R49. -/
def entryOk (sc : State) (c : Cal) (e : DWord) : Bool :=
  let w := e.toNat
  calStart e < c.period && calStart e + calLength e ≤ c.period && fld w 34 2 != 3 && fld w 0 16 == 0 && portsOk sc [fld w 24 10]

/-- Whether two entries of a group overlap on a port and phase. -/
def entriesClash (a b : DWord) : Bool :=
  let x := a.toNat
  let y := b.toNat
  fld x 24 10 == fld y 24 10 && (fld x 34 2 == fld y 34 2 || fld x 34 2 == 2 || fld y 34 2 == 2) && rangesMeet (calStart a, calLength a) (calStart b, calLength b)

/-- SHARE of an entry, in 256ths. -/
def shareOf (e : DWord) : Nat := if fld e.toNat 16 8 = 0 then 256 else fld e.toNat 16 8

/-- Bézout's coefficients: (g, x, y) with a x + b y = g, the greatest common divisor. -/
def bezout : Nat → Nat → Nat → Nat × Int × Int
  | 0, a, _ => (a, 1, 0)
  | n + 1, a, b =>
    if b = 0 then (a, 1, 0)
    else
      let r := bezout n b (a % b)
      (r.1, r.2.2, r.2.1 - (a / b : Nat) * r.2.2)

/-- The numbers that are `r` modulo `m` and `q` modulo `p`: their residue and modulus; none where no number is both. -/
def meetClass (r m q p : Nat) : Option (Nat × Nat) :=
  let x := bezout 64 m p
  let gap : Int := (q : Int) - (r : Int)
  if gap % (x.1 : Int) ≠ 0 then none
  else
    let t := (gap / (x.1 : Int) * x.2.1) % ((p / x.1 : Nat) : Int)
    some (r + m * t.toNat, m * (p / x.1))

/-- The shares of a calendar's entries on a port that are active at a place of its period. -/
def shareAt (c : Cal) (port place : Nat) : Nat :=
  sumBy c.entries fun e =>
    if fld e.toNat 24 10 = port ∧ calStart e ≤ place ∧ place < calStart e + calLength e then shareOf e else 0

/-- The places of a calendar's period in which an entry of its own on a port is active. -/
def sharePlaces (c : Cal) (port : Nat) : List Nat :=
  (c.entries.flatMap fun e => if fld e.toNat 24 10 = port then (List.range (calLength e)).map (calStart e + ·) else []).foldl addOnce []

/-- The greatest sum of a port's shares over calendars, in the slots that are `r` modulo `m`: a calendar adds nothing, or what it grants at one
of its places that those slots reach. -/
def shareMost (port : Nat) : List Cal → Nat → Nat → Nat
  | [], _, _ => 0
  | c :: rest, r, m =>
    (sharePlaces c port).foldl (fun best k =>
      match meetClass r m ((c.anchor + k) % c.period) c.period with
      | some x => max best (shareAt c port k + shareMost port rest x.1 x.2)
      | none => best) (shareMost port rest r m)

/-- R50: no port's granted shares, summed over all groups, exceed 256/256 in any slot (log entry 105). -/
def sharesOk (cals : List Cal) : Bool :=
  let ports := (cals.flatMap fun c => c.entries.map fun e => fld e.toNat 24 10).foldl addOnce []
  ports.all fun p =>
    let on := cals.filter fun c => c.period != 0 && c.entries.any fun e => fld e.toNat 24 10 == p
    shareMost p on 0 1 ≤ 256

/-- The ALMANAC section (R50, R60). -/
def almanacOk (sc : State) : Bool :=
  let a := (coat sc).almanac
  portsOk sc (a.roles.map PortRole.port) && sumBy a.cals (fun c => c.entries.length) ≤ 262144 && sharesOk a.cals &&
    a.cals.all fun c =>
      c.entries.length ≤ 4096 && c.entries.all (entryOk sc c) &&
        (c.entries.zip (c.entries.drop 1)).all (fun p => fld p.1.toNat 44 20 ≤ fld p.2.toNat 44 20) &&
        (List.range c.entries.length).all fun i =>
          (List.range i).all fun j => !entriesClash (c.entries.getD i 0) (c.entries.getD j 0)

/-- The SWITCH section (R60, R103, R104). A replication list names at most 512 ports of either twin (R103, R509). -/
def switchOk (sc : State) : Bool :=
  let w := (coat sc).switch
  let bucket := fun (m : MacEnt) => Config.macHash m.vlan m.mac.toNat % 65536
  let targets := w.macs.map MacEnt.target ++ w.routes.map Route.target ++ w.acls.filterMap fun a => a.act.redirect
  w.macs.length ≤ 524288 && countBy w.routes (fun r => !r.v6) ≤ 262144 && countBy w.routes Route.v6 ≤ 131072 &&
    w.acls.length + (coat sc).security.bindings.length ≤ 32768 && w.sets.length ≤ 4096 && w.repls.length ≤ 65536 &&
    w.sets.all (fun x => x.2.length ≤ 64) && w.repls.all (fun x => countBy x.2 (fun p => p.1 < 512) ≤ 512 && countBy x.2 (fun p => 512 ≤ p.1) ≤ 512) &&
    w.macs.all (fun m => countBy w.macs (fun k => bucket k == bucket m) ≤ 8) &&
    portsOk sc (w.dscpPorts ++ (w.vlans.flatMap Vlan.members) ++ w.pvids.map Prod.fst ++ targets.flatMap targetPorts ++
      (w.sets.flatMap fun x => x.2.map Prod.fst) ++ (w.repls.flatMap fun x => x.2.map Prod.fst) ++ w.acls.filterMap Acl.port ++
      w.acls.filterMap fun a => a.act.mirror)

/-- The SCHEDULE section (R60, R151). -/
def scheduleOk (sc : State) : Bool :=
  let x := (coat sc).schedule
  x.polPort.all (fun p => p.2.1 < 8) && portsOk sc (x.subs.map SubEnt.port ++ x.polPort.map fun p => p.1)

/-- The POOL section: at most 16 capacity trays (R10; log entry 223), 16 at each twin (R520); in twin mode the copies of a unit lie on trays of both twins (R515). -/
def poolOk (sc : State) : Bool :=
  let ts := (coat sc).pool.trays.map fun t => Config.trayTwin t.2
  (if (coat sc).twin.isSome then countBy ts (· == 0) ≤ 16 && countBy ts (· == 1) ≤ 16 else ts.length ≤ 16) && ((coat sc).twin.isNone || !capPair sc || ts.isEmpty || (ts.contains 0 && ts.contains 1))

/-- The DENSE section (R266). -/
def denseOk (sc : State) : Bool :=
  let n := (coat sc).dense.trays.length
  n == 0 || (12 ≤ n && n ≤ 48)

/-- The bytes of tile working memory that programs take (R400). -/
def progBytes (sc : State) : Nat :=
  sumBy (coat sc).tile.progs fun p => 16777216 + frConstBytes p.image + concOf p * frTempBytes p.image

/-- The TILE section (R392, R397, R400). -/
def tileOk (sc : State) : Bool :=
  let ps := (coat sc).tile.progs
  let rubs := (grpsIn (coat sc)).filter fun x => x.dest == 4
  distinct (ps.map ProgEnt.slot) &&
    (ps.all fun p =>
      p.slot ≤ 1023 && 1 ≤ p.count && p.first + p.count ≤ 80 && p.conc ≤ 64 && frescoOk p.image &&
        rubs.all fun x => p.first + p.count ≤ x.tileFirst || x.tileFirst + x.tileCount ≤ p.first) &&
    progBytes sc + ringBytes sc ≤ tileBytes sc

/-- The RESIDENT section (R453). -/
def residentOk (sc : State) : Bool :=
  let rs := (coat sc).resident.slots
  let others := [selfEp sc] ++ (coat sc).pool.trays.map (fun t => t.2) ++ (coat sc).dense.trays.map DenseEnt.ep ++
    (slotsIn (coat sc)).map Prod.snd
  distinct (rs.map ResEnt.slot) && distinct (rs.map ResEnt.ep) && sumBy rs ResEnt.cores ≤ countBy (List.range 24) (fun c => coreRole sc c == 3) &&
    (rs.all fun r =>
      r.slot ≤ 63 && 1 ≤ r.cores && r.cores ≤ 18 && 16 ≤ r.memMib && r.memMib ≤ 16384 && r.elfBytes ≤ 67108864 && !others.contains r.ep &&
        creditsOf sc r.ep != 0 && r.segs.all fun g => g.1 + g.2.1 ≤ 1048576 * r.memMib) &&
    progBytes sc + ringBytes sc + 1048576 * sumBy rs ResEnt.memMib ≤ tileBytes sc

/-- The SECURITY section (R488, and its tables' sizes). -/
def securityOk (sc : State) : Bool :=
  let x := (coat sc).security
  x.requesters.length ≤ 64 && x.sealed.length ≤ 1024 && x.mgmtList.length ≤ 16 && distinct (x.sealed.map Prod.fst) &&
    (x.sealed.all fun p => (wins sc).any fun w => w.id == p.1 && !w.coherent) &&
    portsOk sc (x.bindings.flatMap fun b => targetPorts b.place)

/-- The TWIN section (R523). -/
def twinOk (c : Coat) : Bool :=
  match c.twin with
  | none => true
  | some l => l.length == 2 && l.all (fun (t : TwinEnt) => t.role == 1 || t.role == 2) && distinct (l.map TwinEnt.role) && distinct (l.map TwinEnt.digest)

/-- A patch may not take a running resident program's core out of the resident set without stopping the program (R448). -/
def residentsKeep (s sc : State) : Bool :=
  s.cor.res.all fun p =>
    p.2.st != 2 || resEnt s p.1 != resEnt sc p.1 || p.2.cores.all fun c => coreRole sc c == 3

/-- The type of the first section that breaks a load rule, if one does. -/
def loadFault (s : State) (c : Coat) (patch : Bool) : Option Nat :=
  let sc := under s c
  let checks := [(0x02, registersOk sc && (!patch || residentsKeep s sc)), (0x03, almanacOk sc), (0x04, switchOk sc), (0x05, scheduleOk sc),
    (0x06, poolOk sc), (0x07, denseOk sc), (0x08, tablesOk sc), (0x09, tileOk sc), (0x0A, residentOk sc), (0x0B, securityOk sc), (0x0C, twinOk c)]
  (checks.find? fun x => !x.2).map Prod.fst

end Sys2Proof.Machine
end

