-- ==== Sys2Proof/Machine/CoatImg.lean ====
section
/-! DEFINITION. The coat image (spec/17 R530 to R533): header, section table and sections as bytes spell them, the composite of a patch,
the checks in the order of their reason codes, the flash's chains and their room (R527, R535). -/

namespace Sys2Proof.Machine

open Sys2Proof

/-! ### Bytes to sections (R530, R531) -/

/-- The greatest size of an image (R527). -/
def imageMax : Nat := 100663296

/-- An entry of the section table (R531). -/
structure Sect where
  typ : Nat
  flags : Nat
  off : Nat
  len : Nat
  rsv : Nat
  digest : Nat
deriving DecidableEq, Repr

/-- SECTIONS of the header. -/
def imgCount (b : List Byte) : Nat := beAt b 36 2

/-- The section table of an image. -/
def imgSects (b : List Byte) : List Sect :=
  (List.range (imgCount b)).map fun i =>
    let o := 512 + 64 * i
    { typ := beAt b o 2, flags := beAt b (o + 2) 2, off := beAt b (o + 4) 4, len := beAt b (o + 8) 4, rsv := beAt b (o + 12) 4,
      digest := beAt b (o + 16) 48 }

/-- The bytes of a section. -/
def Sect.bytes (x : Sect) (b : List Byte) : List Byte := slice b x.off x.len

/-- The types a full coat carries exactly once. -/
def coreTypes : List Nat := [1, 2, 3, 4, 5, 6, 7, 8, 9, 10, 11]

/-- Every type of R531. -/
def allTypes : List Nat := coreTypes ++ [12, 0x40, 0x41, 0x42]

/-- Bytes cut into records of `n`. -/
def records (n : Nat) (b : List Byte) : List (List Byte) := (List.range (b.length / n)).map fun i => slice b (n * i) n

/-- The REGISTERS section. -/
def decodeRegs (b : List Byte) : List RegRec :=
  (records 12 b).map fun r => { addr := beAt r 0 4, sel := beAt r 4 4, val := BitVec.ofNat 32 (beAt r 8 4) }

/-- The SCRUB section: addresses and lengths. -/
def decodeScrub (b : List Byte) : List (Nat × Nat) := (records 16 b).map fun r => (beAt r 0 8, beAt r 8 8)

/-- The SHEET section (R546). -/
def decodeSheet (b : List Byte) : List SheetRec :=
  (records 8 b).map fun r => { kind := beAt r 0 1, ret := beAt r 1 1 == 1, reason := beAt r 2 1, index := beAt r 4 2 }

/-- The bytes of an image's section of a type; none where it carries none. -/
def sectOf (b : List Byte) (typ : Nat) : Option (List Byte) := ((imgSects b).find? fun x => x.typ == typ).map fun x => x.bytes b

/-- The sections of an image laid over a coat: a section that the image does not carry stays. -/
def overlay (a : Coat) (b : List Byte) : Coat :=
  let f := fun (typ : Nat) => sectOf b typ
  let digests := ((imgSects b).filter fun x => x.typ ≤ 12).map fun x => (x.typ, x.digest)
  { a with
    serial := beAt b 16 4
    signer := beAt b 38 1
    pubkey := slice b 96 96
    headerDigest := Config.sha384 (b.take 192)
    fw := (digests.lookup 1).getD a.fw
    regs := ((f 2).map decodeRegs).getD a.regs
    almanac := ((f 3).map Config.decodeAlmanac).getD a.almanac
    switch := ((f 4).map Config.decodeSwitch).getD a.switch
    schedule := ((f 5).map Config.decodeSchedule).getD a.schedule
    pool := ((f 6).map Config.decodePool).getD a.pool
    dense := ((f 7).map Config.decodeDense).getD a.dense
    reduction := ((f 8).map Config.decodeReduction).getD a.reduction
    tile := ((f 9).map Config.decodeTile).getD a.tile
    resident := ((f 10).map Config.decodeResident).getD a.resident
    security := ((f 11).map Config.decodeSecurity).getD a.security
    twin := match f 12 with
      | some x => some (Config.decodeTwin x)
      | none => a.twin
    digests := digests.foldl (fun l x => alSet l x.1 x.2) a.digests }

/-- An image as it is read; a patch's `coat` is its composite with the active coat. -/
def readImage (active : Coat) (b : List Byte) : Image :=
  let patch := beAt b 5 1 == 1
  { patch, base := beAt b 20 4, applySlot := beAt b 24 8, domain := beAt b 40 4, types := (imgSects b).map Sect.typ,
    coat := overlay (if patch then active else {}) b, scrub := ((sectOf b 0x40).map decodeScrub).getD [],
    sheet := ((sectOf b 0x41).map decodeSheet).getD [], revoke := (sectOf b 0x42).map fun x => beAt x 0 1 }

/-! ### The checks (R530 to R533) -/

/-- Whether a byte range of an image is zero. -/
def zeroAt (b : List Byte) (off n : Nat) : Bool := allZero (slice b off n)

/-- Whether SIGNER names a key (R530); an image too short to hold a header names none. -/
def signerOk (b : List Byte) : Bool := 512 ≤ b.length && (beAt b 38 1 ≤ 3 || beAt b 38 1 == 0xFF)

/-- R532: the key is the one that SIGNER names, and the signature verifies. -/
def signatureOk (s : State) (b : List Byte) : Bool :=
  let pub := slice b 96 96
  let key :=
    if beAt b 38 1 = 0xFF then bringup s && Config.sha384 pub == Config.bringupKeyDigest
    else
      match s.nv.ownerKeys.lookup (beAt b 38 1) with
      | some k => !k.revoked && k.digest == some (Config.sha384 pub)
      | none => false
  key && Config.ecdsaVerify pub (Config.sha384 (b.take 192)) (slice b 192 96)

/-- Reason 2: the header, the table and the digests (R530, R531). -/
def layoutOk (b : List Byte) : Bool :=
  let l := imgSects b
  let types := l.map Sect.typ
  let full := beAt b 5 1 == 0
  beAt b 0 4 == 0x434F4154 && beAt b 4 1 == 1 && beAt b 5 1 ≤ 1 && zeroAt b 6 2 && b.length ≤ imageMax && beAt b 32 4 == b.length &&
    1 ≤ imgCount b && imgCount b ≤ 64 && 512 + 64 * imgCount b ≤ b.length && zeroAt b 39 1 && zeroAt b 44 4 && zeroAt b 288 224 &&
    beAt b 48 48 == Config.sha384 (slice b 512 (64 * imgCount b)) &&
    (l.all fun x => x.flags == 0 && x.rsv == 0 && x.off % 4096 == 0 && x.off + x.len ≤ b.length && x.digest == Config.sha384 (x.bytes b)) &&
    types.all allTypes.contains && distinct types &&
    (!full || (coreTypes.all types.contains && types.all (fun t => t ≤ 12) && zeroAt b 20 12))

/-- Reason 3: the device, its revision, the building. -/
def placeOk (b : List Byte) (domain : BitVec 32) : Bool :=
  beAt b 8 4 == 0x564E1024 && beAt b 12 4 == 0xB0 && beAt b 40 4 == domain.toNat

/-- The building an image must name: a full coat its own, a patch the active coat's. -/
def domainFor (active : Coat) (i : Image) : BitVec 32 := if i.patch then active.almanac.domain else i.coat.almanac.domain

/-- The SCRUB section's records (R531). -/
def scrubOk (b : List Byte) : Bool := b.length % 16 == 0 && (decodeScrub b).all fun x => x.1 % 128 == 0 && x.2 % 128 == 0

/-- The SHEET section's records by themselves (R546). -/
def sheetLayout (b : List Byte) : Bool :=
  b.length % 8 == 0 && (records 8 b).all fun r =>
    beAt r 0 1 ≤ 11 && beAt r 1 1 ≤ 1 && beAt r 2 1 ≤ 3 && zeroAt r 3 1 && zeroAt r 6 2 && okUnit (beAt r 0 1) (beAt r 4 2)

/-- What a sheeting record does to a unit, as far as the rules on the HBM cache see it. -/
def sheetState (s : State) (r : SheetRec) : State :=
  if r.ret then s else setUnit s r.kind r.index fun u => if u.st = 3 then u else { u with st := 1 }

/-- The SHEET section (R546, R547): its layout, at least 16 GiB of cache after every record, no firmware core, no capacity tray without a
second copy. -/
def sheetOk (sc : State) (b : List Byte) : Bool :=
  let l := decodeSheet b
  sheetLayout b && (l.all fun r => r.ret || (!(r.kind == 9 && coreRole sc r.index == 4) && !(r.kind == 7 && !capPair sc))) &&
    (List.range (l.length + 1)).all fun n => 16384 ≤ cacheMib ((l.take n).foldl sheetState sc)

/-- The TYPE of the section for which an image gives reason 7: a load rule of the coat that would be in force, then the actions. -/
def ruleFault (s : State) (i : Image) (b : List Byte) : Option Nat :=
  let bad := fun (typ : Nat) (ok : List Byte → Bool) => (sectOf b typ).any fun x => !ok x
  if bad 2 (fun x => x.length % 12 == 0) then some 2
  else
    match loadFault s i.coat i.patch with
    | some t => some t
    | none =>
      if bad 0x40 scrubOk then some 0x40
      else if bad 0x41 (sheetOk (under s i.coat)) then some 0x41
      else if bad 0x42 (fun x => x.length == 1 && beAt x 0 1 ≤ 3 && beAt x 0 1 != i.coat.signer) then some 0x42
      else none

/-- The checks that a boot makes of an image: reasons 1, 2, 3 and 7, with the TYPE; 0 where all pass. -/
def verifyImage (s : State) (active : Coat) (b : List Byte) : Nat × Nat :=
  if !signerOk b then (2, 0)
  else if !signatureOk s b then (1, 0)
  else if !layoutOk b then (2, 0)
  else
    let i := readImage active b
    if !placeOk b (domainFor active i) then (3, 0)
    else
      match ruleFault s i b with
      | some t => (7, t)
      | none => (0, 0)

/-! ### The flash (R527, R535) -/

/-- A length rounded up to 64 KiB. -/
def round64k (n : Nat) : Nat := ceilDiv n 65536 * 65536

/-- The start and end of a device's slot area. -/
def slotArea : Nat × Nat := (0x40000, 0x8000000)

/-- The device that a slot lies on: 0 primary, 1 recovery. -/
def slotDevice (slot : Nat) : Nat := slot / 2

/-- A slot's entry of the directory. -/
def dirSlot (d : Directory) (i : Nat) : DirSlot := d.slots.getD i {}

/-- A slot's entry changed. -/
def setDirSlot (d : Directory) (i : Nat) (f : DirSlot → DirSlot) : Directory :=
  { d with slots := (List.range 4).map fun k => if k = i then f (dirSlot d k) else dirSlot d k }

/-- The space that a slot takes, now or once its programming ends. -/
def slotExtent (s : State) (i : Nat) : Option (Nat × Nat) :=
  let due := s.cfg.writing.findSome? fun w =>
    match w with
    | .full slot off ext _ _ => if slot = i then some (off, ext) else none
    | .entry _ => none
  match due with
  | some x => some x
  | none =>
    let x := dirSlot s.cfg.dir i
    if x.st = .staged ∨ x.st = .valid then some (x.offset, x.extent) else none

/-- The other slot of a slot's device. -/
def otherSlot (i : Nat) : Nat := if i % 2 = 0 then i + 1 else i - 1

/-- Where an extent of `n` bytes may begin on a slot's device: at the start of the slot area, or behind the device's other slot. -/
def roomFor (s : State) (i n : Nat) : Option Nat :=
  match slotExtent s (otherSlot i) with
  | none => if slotArea.1 + n ≤ slotArea.2 then some slotArea.1 else none
  | some (off, ext) =>
    if slotArea.1 + n ≤ off then some slotArea.1
    else if off + ext + n ≤ slotArea.2 then some (off + ext) else none

/-- The slot that a full coat is programmed into: the EMPTY or BAD one with the lowest number that has room, and its offset (R539). -/
def freeSlot (s : State) (n : Nat) : Option (Nat × Nat) :=
  (List.range 4).findSome? fun i =>
    if (slotExtent s i).isSome then none else (roomFor s i (round64k n)).map fun off => (i, off)

/-- A slot's chain in flash. -/
def chainOf (s : State) (i : Nat) : Option Chain := s.nv.chains.lookup i

/-- The bytes that a chain takes: the full coat, and each entry from a 64 KiB boundary on with its 64-byte header. -/
def chainBytes (c : Chain) : Nat := round64k c.full.length + sumBy c.journal fun e => round64k (64 + e.bytes.length)

/-- Whether the running chain's journal has room for a patch of `n` bytes (reason 8). -/
def journalRoom (s : State) (n : Nat) : Bool :=
  match chainOf s s.cfg.slot with
  | none => false
  | some c =>
    let top := c.offset + chainBytes c + round64k (64 + n)
    top ≤ slotArea.2 &&
      match slotExtent s (otherSlot s.cfg.slot) with
      | some (off, _) => off < c.offset || top ≤ off
      | none => true

/-- A slot's chain changed. -/
def setChain (s : State) (i : Nat) (f : Chain → Chain) : State :=
  { s with nv := { s.nv with chains := s.nv.chains.map fun x => if x.1 = i then (i, f x.2) else x } }

/-- The slot whose chain holds the journal entry of a serial. -/
def entrySlot (s : State) (serial : Nat) : Option Nat :=
  (s.nv.chains.find? fun c => c.2.journal.any fun e => e.serial == serial).map Prod.fst

/-- A journal entry changes STATE; serials never come twice (R539). -/
def setEntry (s : State) (serial : Nat) (st : JourSt) : State :=
  match entrySlot s serial with
  | none => s
  | some slot => setChain s slot fun c => { c with journal := c.journal.map fun e => if e.serial = serial then { e with st } else e }

/-- Every digest of the twelve sections (R541). -/
def sameDigests (a b : Coat) : Bool := (coreTypes ++ [12]).all fun t => a.digests.lookup t == b.digests.lookup t

end Sys2Proof.Machine
end

