-- ==== Sys2Proof/Machine/CfgOps.lean ====
section
/-! DEFINITION. Coats in service (spec/17): the change from one coat to another, delivery and acceptance, application, cure, strip, boot. -/

namespace Sys2Proof.Machine

open Sys2Proof

/-- The configuration's fields changed. -/
def setCfg (s : State) (f : Cfg → Cfg) : State := { s with cfg := f s.cfg }

/-- Raises a bit of CFG_EVENT_STATUS. -/
def cfgEvent (s : State) (bitNo cls : Nat) (detail : List Byte) : State := raise s Reg.cfgEventStatus bitNo cls noUnit detail

/-! ### From one coat to another (R47, R51, R206, R339, R377, R542) -/

/-- A LNK register's COAT fields in a coat, in the space of a port. -/
def portReg (c : Coat) (base p : Nat) : Nat := coatRegIn c.regs (lnkPort base p) 0

/-- Whether two coats give a port another mode of its group, another kind, or another place in the rack. -/
def portChanged (old new : Coat) (p : Nat) : Bool :=
  fld (portReg old Reg.lnkGrpCfg (p / 8 * 8)) 0 2 != fld (portReg new Reg.lnkGrpCfg (p / 8 * 8)) 0 2 ||
    fld (portReg old Reg.lnkPortCfg p) 0 3 != fld (portReg new Reg.lnkPortCfg p) 0 3

/-- The ports of this device that the coat in force puts behind a number. -/
def ownPorts (s : State) : List Nat := ((List.range 512).map fun i => basePort s + i).filter (portExists s)

/-- Under the old coat: the ports that the new one changes go DOWN. -/
def portsLeave (s : State) (new : Coat) : State :=
  ((ownPorts s).filter (portChanged (coat s) new)).foldl portDown s

/-- A port leaves the spare lane that it uses: the lane is an idle spare again (R65, R77). -/
def freeSpare (s : State) (q : Port) : State :=
  (q.lanes.filter fun n => (laneOf s n).role == .spareInUse).foldl (fun s n => setLane s n fun l => { l with role := .idleSpare, logical := 0, port := none }) s

/-- A port that is new, or newly set, trains from the start, unless its cage holds it DOWN (R63, R84, R85). It keeps a spare lane that it uses
where it still owns it (R77). -/
def startPort (s : State) (p : Nat) : State :=
  let q := portOf s p
  let keep := q.spareInUse && ownsSpare s p
  let s := if q.spareInUse && !keep then freeSpare s q else s
  let s := { s with lnk := { s.lnk with ports := alErase s.lnk.ports p } }
  let s := if keep then setPort s p fun x => { x with lanes := q.lanes, spareInUse := true } else s
  let s := if outOfRack s p then s else { s with lnk := { s.lnk with macsec := alErase s.lnk.macsec p } }
  if cageMismatch s p then portEvent (setPort s p fun q => { q with st := .down }) p 5 4
  else if cageBlocks s p then setPort s p fun q => { q with st := .down }
  else retrain (setPort s p fun q => { q with st := .down }) p

/-- A lane that serves by its default again: a retired one stays so. -/
def laneDefaults (s : State) (x : Nat × Lane) : Nat × Lane :=
  let d := defaultLane s x.1
  if x.2.role = .retired then x else (x.1, { x.2 with role := d.role, logical := d.logical, port := d.port })

/-- The first port of the group that a lane belongs to (R58). -/
def laneGroupPort (n : Nat) : Nat :=
  if n < 512 then n / 8 * 8 else if n < 576 then 8 * (n - 512) else if n < 1088 then (n - 64) / 8 * 8 else 512 + 8 * (n - 1088)

/-- Under the new coat: the lanes of a group whose mode changed, its spare lane among them, serve by their default again but for retired
ones, and the ports that changed train. -/
def portsEnter (s : State) (old : Coat) : State :=
  let changed := ((List.range 512).map fun i => basePort s + i).filter (portChanged old (coat s))
  let moved := changed.filter fun p => fld (portReg old Reg.lnkGrpCfg (p / 8 * 8)) 0 2 != modeOf s p
  let lanes := s.lnk.lanes.map fun (l : Nat × Lane) => if moved.contains (laneGroupPort l.1) then laneDefaults s l else l
  let ports := s.lnk.ports.filter fun (p : Nat × Port) => !moved.contains p.1
  let s := { s with lnk := { s.lnk with lanes, ports } }
  if s.cfg.forwarding then (changed.filter (portExists s)).foldl startPort s else s

/-- The new coat's calendars wait for the next boundary of the old ones; where the slot of the application is one, and in a group without a
calendar, they take over at once (R51). -/
def switchCals (s : State) : State :=
  let target := fun (g : Nat) => (coat s).almanac.cals.find? fun (c : Cal) => c.group == g
  let groups := (s.fc.map Prod.fst ++ (coat s).almanac.cals.map Cal.group).foldl addOnce []
  groups.foldl (fun s g =>
    let x := alGetD s.fc g {}
    let put := fun (x : FcGrp) => { s with fc := alSet s.fc g x }
    if x.cal.period = 0 then
      match target g with
      | some c => put { x with cal := c, next := none, active := [], unsync := s.alm.st == .island }
      | none => s
    else if target g = some x.cal then put { x with next := none }
    else if atBoundary x.cal (slotNow s) then put { x with cal := (target g).getD {}, next := none, active := [], restart := false }
    else put { x with next := some (target g) }) s

/-- Dirty lines that no window of the new coat covers are written to their tier while the old one is in force. -/
def linesLeave (s : State) (new : Coat) : State :=
  let ws := winsIn new.regs
  let orphan := fun (c : Nat × CLine) => c.2.dirty && !ws.any fun w => w.base ≤ 128 * c.1 && 128 * c.1 < w.base + w.size
  (s.pool.cache.filter orphan).foldl (fun s c => if stuckDirty s c || lineInUse s c.1 then s else writeBack s c.1 0 false) s

/-- Endpoints whose slot the new coat removes are deregistered from the home's side (R206). -/
def slotsLeave (s : State) : State :=
  s.coh.slots.foldl (fun s x =>
    if slotLive x.2 ∧ listedSlot s x.2.ep ≠ some x.1 then
      bgTx (setSlot s x.1 fun y => { y with st := .deregistering }) { id := 0, work := .dereg x.1 }
    else s) s

/-- Trays that the new coat does not list are forgotten, with the copies they held; those it adds are asked to identify themselves (R191, R302). -/
def traysChange (s : State) (old : Coat) : State :=
  let same := fun (i : Nat) => old.pool.trays.lookup i == (coat s).pool.trays.lookup i
  let ep := fun (c : Coat) (i : Nat) => (c.dense.trays.find? fun (t : DenseEnt) => t.index == i).map DenseEnt.ep
  let s := { s with pool := { s.pool with capTrays := s.pool.capTrays.filter fun t => same t.1
                                          capUnits := s.pool.capUnits.map fun (u : Nat × CapUnit) =>
                                            (u.1, { u.2 with copies := u.2.copies.map fun (l : List Nat) => l.filter same }) } }
  let s : State := { s with dns := { s.dns with trays := s.dns.trays.filter fun t => ep old t.1 == ep (coat s) t.1 } }
  let s := identifyTrays s
  if old.dense = (coat s).dense then s else identifyDense (updateMissing s)

/-- Ports that are Almanac-enabled no longer show no beacons (R29). -/
def almRoles (s : State) : State :=
  let heard := s.alm.heard.filter fun x => (coat s).almanac.roles.any fun r => r.port == x.1 && r.almanac
  if heard = s.alm.heard then s else { s with alm := { s.alm with heard, upPort := bestHeard heard } }

/-- The dense reads under way end under the RETRY_STEPS they began with (R303). -/
def keepRetries (s : State) (old : Coat) : State :=
  let steps := fld (coatRegIn old.regs Reg.dnsCfg 0) 0 4
  let begun := s.dns.jobs.filterMap fun (p : Nat × Media) =>
    match p.2 with
    | .sector _ _ _ _ _ _ _ _ _ => if (alGet s.dns.oldRetries p.1).isNone then some (p.1, steps) else none
    | _ => none
  { s with dns := { s.dns with oldRetries := s.dns.oldRetries ++ begun } }

/-- A new coat comes into force (R542); `named`: the patch carries the resident section. -/
def switchCoat (s : State) (new : Coat) (named : Bool) : State :=
  let old := coat s
  let s := portsLeave (linesLeave s new) new
  let s := setCfg s fun x => { x with changed := some (tickNow s, x.active), active := some new }
  let s := { s with pool := { s.pool with before := some (s.pool.nextTx, old.regs) } }
  let s := keepRetries s old
  let s := almRoles s
  let s := if old.twin = new.twin then s else loadRole s new
  let s := switchCals (portsEnter s old)
  let s := ranksPatched (gaugesPatched s) old new
  traysChange (slotsLeave (residentsApplied s old new named)) old

/-! ### Delivery (R537, R538) -/

/-- The first `n` bytes of the staging buffer; a byte never written reads zero. -/
def stagedBytes (x : Staging) (n : Nat) : List Byte :=
  (List.range n).map fun i =>
    match x.chunks.reverse.find? fun c => c.1 ≤ i && i < c.1 + c.2.length with
    | some c => c.2.getD (i - c.1) 0
    | none => 0

/-- COAT_WRITE: its status, and the state after it. -/
def coatWrites (s : State) (path : Path) (m : Msg) : Nat × State :=
  let n := m.length.toNat
  let off := beAt m.body 0 4
  if n < 9 ∨ 4096 < n ∨ m.address ≠ 0 ∨ zeroAt m.body 4 4 = false ∨ imageMax < off + (n - 8) then (St.malformed, s)
  else
    let chunk := (off, m.body.drop 8)
    match s.cfg.staging with
    | none => (St.ok, setCfg s fun x => { x with staging := some { source := path, chunks := [chunk], tick := tickNow s } })
    | some x =>
      if x.source = path then (St.ok, setCfg s fun c => { c with staging := some { x with chunks := x.chunks ++ [chunk], tick := tickNow s } }) else (St.busy, s)

/-- The slot of an image's application is after the current one; an UNSET device takes any (R538, R589). -/
def slotAhead (s : State) (i : Image) : Bool := s.alm.st == .unset || slotNow s < i.applySlot

/-- Whether a patch may take the place of the pending one (R539). -/
def mayReplace (s : State) (i : Image) : Bool :=
  match s.cfg.pending with
  | none => true
  | some p => p.image.base == i.base && p.image.coat.serial < i.coat.serial

/-- REASON and TYPE of a submitted image, by the first check that fails (R533, R538). -/
def submitReason (s : State) (b : List Byte) (action : Nat) : Nat × Nat :=
  if !signerOk b then (2, 0)
  else if !signatureOk s b then (1, 0)
  else if !layoutOk b || action != (if beAt b 5 1 = 1 then 0 else if action = 2 then 2 else 1) then (2, 0)
  else
    let i := readImage (coat s) b
    if !placeOk b (domainFor (coat s) i) then (3, 0)
    else if i.coat.serial ≤ s.cfg.dir.highWater then (4, 0)
    else if i.patch && (s.cfg.active.isNone || i.base != (coat s).serial) then (5, 0)
    else if i.patch && !slotAhead s i then (6, 0)
    else
      match ruleFault s i b with
      | some t => (7, t)
      | none =>
        if (if i.patch then !journalRoom s b.length else (freeSlot s b.length).isNone) then (8, 0)
        else if i.patch && !mayReplace s i then (9, 0)
        else if action = 2 ∧ sameDigests i.coat (coat s) = false then (10, 0)
        else (0, 0)

/-- The status of a REASON (R538). -/
def reasonStatus (reason : Nat) : Nat :=
  match reason with
  | 0 => St.ok
  | 1 => St.accessDenied
  | 4 => St.accessDenied
  | 8 => St.busy
  | 9 => St.busy
  | _ => St.malformed

/-- An image is rejected: counted, COAT_REJECTED raised, the reason logged (R533). -/
def coatRejected (s : State) (reason : Nat) : State :=
  logEvent (cfgEvent (bump s Reg.cfgRejectedLo 1) 0 1 (det 1 reason)) 15 1 37 noUnit (det 1 reason)

/-- The pending patch is given up: its entry is DISCARDED, its programs are not wanted any more (R539, R540). -/
def dropPending (s : State) : State :=
  match s.cfg.pending with
  | none => s
  | some p =>
    let serial := p.image.coat.serial
    let s := progsDropped (setEntry s serial .discarded)
    setCfg s fun x => { x with pending := none, writing := x.writing.filter fun w => w != .entry serial }

/-- HIGH_WATER becomes the serial of an accepted image (R539). -/
def raiseWater (s : State) (serial : Nat) : State := writeDir s fun d => { d with highWater := serial }

/-- A patch is accepted: it is pending, its journal entry is being programmed, its programs are lowered; a twin passes it on (R508,
R539). -/
def acceptPatch (s : State) (i : Image) (b : List Byte) : State :=
  let s := if s.cfg.pending.isSome then cfgEvent (dropPending s) 5 1 [] else s
  let serial := i.coat.serial
  let s := setChain s s.cfg.slot fun c => { c with journal := c.journal ++ [{ serial, st := .blank, bytes := b }] }
  let ext := ((chainOf s s.cfg.slot).map chainBytes).getD 0
  let s := writeDir s fun d =>
    let d := { d with highWater := serial }
    if (dirSlot d s.cfg.slot).st = .empty then d else setDirSlot d s.cfg.slot fun x => { x with extent := ext }
  let s := setCfg s fun x => { x with pending := some { image := i, bytes := b }, writing := x.writing ++ [.entry serial] }
  let s := progsReceived s (coat s) i.coat
  if paired s then emit s (.bridge (.control .stagePatch)) else s

/-- A full coat is accepted: it is being programmed into a free slot (R539, R541). -/
def acceptFull (s : State) (i : Image) (b : List Byte) (adopt : Bool) : State :=
  match freeSlot s b.length with
  | none => s
  | some (slot, off) =>
    let w := Writing.full slot off (round64k b.length) b (if adopt then some (coat s).serial else none)
    raiseWater (setCfg s fun x => { x with writing := x.writing ++ [w] }) i.coat.serial

/-- COAT_SUBMIT: its status, its payload, and the state after it. It is checked against the coat in force when the tick began (R549). -/
def coatSubmits (s : State) (path : Path) (m : Msg) : Nat × List Byte × State :=
  let b := m.body
  if m.length ≠ 8 ∨ m.address ≠ 0 ∨ zeroAt b 5 3 = false then (St.malformed, [], s)
  else
    let total := beAt b 0 4
    let mine := s.cfg.staging.filter fun x => x.source == path
    let img := if imageMax < total then [] else (mine.map fun x => stagedBytes x total).getD []
    let r := submitReason (underOld s) img (beAt b 4 1)
    let s := if mine.isSome then setCfg s fun x => { x with staging := none } else s
    let i := readImage (coat (underOld s)) img
    let s := if r.1 ≠ 0 then coatRejected s r.1 else if i.patch then acceptPatch s i img else acceptFull s i img (beAt b 4 1 == 2)
    (reasonStatus r.1, beBytes 1 r.1 ++ [0] ++ beBytes 2 r.2 ++ [0, 0, 0, 0], s)

/-- Programming of the image accepted first ends (R539, R541). A staged full coat is ACTIVE from the next reset on, with the running chain to
fall back to; an adopted one at once, if the coat that it was compared with is still active. -/
def imageStaged (s : State) : State :=
  match s.cfg.writing with
  | [] => s
  | .entry serial :: rest =>
    let s := setCfg (setEntry s serial .staged) fun x => { x with writing := rest }
    setCfg s fun x => { x with pending := x.pending.map fun p => if p.image.coat.serial = serial then { p with staged := true } else p }
  | .full slot off ext bytes adopt :: rest =>
    let s := setCfg s fun x => { x with writing := rest }
    let s := { s with nv := { s.nv with chains := alSet s.nv.chains slot { offset := off, extent := ext, full := bytes, journal := [] } } }
    let serial := beAt bytes 16 4
    let put := fun (d : Directory) (st : SlotSt) => setDirSlot d slot fun _ => { st, offset := off, extent := ext, top := serial }
    match adopt with
    | none =>
      let run := if (dirSlot s.cfg.dir s.cfg.slot).st = .valid then some s.cfg.slot else none
      writeDir s fun d => { put d .staged with active := slot, previous := run, tries := 0 }
    | some old =>
      if (coat s).serial = old ∧ s.cfg.active.isSome then
        let s := writeDir s fun d => { put d .valid with active := slot, tries := 0 }
        setCfg s fun x => { x with slot, active := x.active.map fun c => { c with serial } }
      else writeDir s fun d => put d .valid

/-! ### Action sections (R237, R546 to R548) -/

/-- How far from an address on a set of ranges covers without a gap. -/
def coveredTo (fuel : Nat) (l : List (Nat × Nat)) (a : Nat) : Nat :=
  match fuel with
  | 0 => a
  | n + 1 =>
    match l.find? fun x => x.1 ≤ a && a < x.1 + x.2 with
    | some x => coveredTo n l (x.1 + x.2)
    | none => a

/-- A line that a home write changes leaves its Shared and Forwarder records STALE (R226). -/
def staleRecs (s : State) (line : Nat) : State :=
  (recsOf s line).foldl (fun s r =>
    if r.it.state = 1 ∨ r.it.state = 2 then putRec s r.slot r.set r.way (some { r.it with stale := true }) else s) s

/-- The lines of a range of lines in a window read as zeros: in HBM, in a capacity tier, in the dense tier by whole units, else as lines of
zeros in the cache. -/
def zeroLines (s : State) (w : Win) (g : Nat × Nat) : State :=
  let s := (((allRecs s).map fun r => r.it.line).filter (inRange g)).foldl staleRecs s
  let s := forgetRange s g
  let s := { s with mem := s.mem.filter fun c => !(128 * g.1 ≤ c.1 && c.1 < 128 * (g.1 + g.2)) }
  if w.policy = 0 then s
  else if w.policy = 1 then setZeros s g
  else
    let units := (List.range (ceilDiv (g.1 + g.2) 512 - g.1 / 512)).map fun i => g.1 / 512 + i
    units.foldl (fun s u =>
      let lo := max g.1 (512 * u)
      let hi := min (g.1 + g.2) (512 * u + 512)
      if hi - lo = 512 then discardDense s s.pool.nextTx u
      else (List.range (hi - lo)).foldl (fun s i => writeLine (makeRoom s (lo + i) 0) (lo + i) (List.replicate 128 0)) s) s

/-- The SCRUB action (R237): every line listed is zero and clean of poison; a window's mark goes where the ranges cover it whole. -/
def scrub (s : State) (l : List (Nat × Nat)) : State :=
  if l.isEmpty then s
  else
    let part := fun (w : Win) (x : Nat × Nat) =>
      let lo := max w.base x.1
      let hi := min (w.base + w.size) (x.1 + x.2)
      (lo / 128, (hi - lo) / 128)
    let s := (wins s).foldl (fun s w =>
      let s := l.foldl (fun s x => let g := part w x; if g.2 = 0 then s else zeroLines s w g) s
      if (winSt s w.id).poisoned ∧ w.base + w.size ≤ coveredTo l.length l w.base then setWin s w.id fun x => { x with poisoned := false } else s) s
    raise s Reg.cohEventStatus 4 4 noUnit []

/-- The next firmware core is sheeted for its update (R451). -/
def nextFirmware (s : State) : State :=
  match s.cfg.fwUpdate with
  | [] => s
  | c :: _ => if (unitOf s 9 c).st = 0 then setUnit s 9 c fun u => { u with st := 1, reason := 0 } else s

/-- A patch's actions, in the tick in which it applies. -/
def runActions (s : State) (i : Image) : State :=
  let s := i.sheet.foldl sheetRecord (scrub s i.scrub)
  if i.types.contains 1 then nextFirmware (setCfg s fun x => { x with fwUpdate := (List.range 4).filter fun c => (unitOf s 9 c).st = 0 }) else s

/-! ### Application and cure (R540 to R545) -/

/-- The length of a cure in ticks (R542, R551). -/
def cureTicks (s : State) : Nat := 500000000 * coatFld s Reg.cfgCfg 0 0 12

/-- CHECKS (R551). -/
def checksOf (s : State) : Nat := coatFld s Reg.cfgCfg 0 12 6

/-- Whether every program of the composite is READY (R543). -/
def allLowered (s : State) : Bool := (coat s).tile.progs.all fun (p : ProgEnt) => (progSt s p.slot).code == 2

/-- A cure begins (R542, R553). -/
def cureStarts (s : State) : State :=
  let up := (ownPorts s).filter fun p => (portOf s p).st == .up
  setCfg s fun x =>
    { x with st := .curing, passed := [0, 2, 3, 4], failed := [], stripDue := false, cureEndTick := tickNow s + cureTicks s,
             portsUp := up, lockedAt := s.alm.st == .locked }

/-- Whether APPLY_SLOT of a pending patch has come; a device in UNSET has not come to any (R540, R589). -/
def slotCome (s : State) (i : Image) : Bool := s.alm.st != .unset && decide (i.applySlot ≤ slotNow s)

/-- The pending patch meets its slot (R540, R542). -/
def patchApplies (s : State) : State :=
  match s.cfg.pending with
  | none => s
  | some p =>
    let i := p.image
    if !slotCome s i then s
    else if p.staged ∧ i.base = (coat s).serial ∧ s.cfg.st = .cured then
      let old := s.cfg.active
      let up := (ownPorts s).filter fun q => (portOf s q).st == .up
      let s := progsApplied (switchCoat s i.coat (i.types.contains 10)) i.coat
      let keeps := up.filter fun q => portExists s q
      let s := cureStarts (setEntry s i.coat.serial .curing)
      let s := setCfg s fun x => { x with pending := none, previous := old, cureSlot := none, cureImage := some i, portsUp := keeps }
      runActions (cfgEvent (bump s Reg.cfgAppliedLo 1) 1 4 []) i
    else
      let d := draw (dropPending s)
      cfgEvent d.2 4 4 (beBytes 1 (d.1 % 256))

/-- A check fails: the patch will be stripped (R543, R545). -/
def checkFailed (s : State) (k : Nat) : State :=
  setCfg s fun x => { x with passed := without x.passed k, failed := addOnce x.failed k, stripDue := true }

/-- Whether the condition of a check holds, as far as the state shows it (R543). -/
def checkMet (s : State) (k : Nat) : Bool :=
  match k with
  | 0 => s.cfg.portsUp.any fun p => (portOf s p).st != .up
  | 1 => !s.cfg.passed.contains 1
  | 4 => s.cfg.lockedAt && (s.alm.st == .holdover || s.alm.st == .island)
  | 5 => !allLowered s
  | _ => true

/-- The checks satisfied so far: during a cure LOWER while every program is READY (R553). -/
def checksPassed (s : State) : List Nat :=
  if s.cfg.st = .curing ∧ allLowered s then addOnce s.cfg.passed 5 else s.cfg.passed

/-- A health check's condition is met (R543). -/
def healthFails (s : State) (k : Nat) : State :=
  if s.cfg.st = .curing ∧ bit (checksOf s) k ∧ checkMet s k then checkFailed s k else s

/-- CURE: its status, and the state after it (R544). -/
def cureMessage (s : State) (m : Msg) : Nat × State :=
  let b := m.body
  let c := coat s
  if m.length ≠ 104 ∨ m.address ≠ 0 ∨ 1 < beAt b 4 1 ∨ zeroAt b 5 3 = false ∨ s.cfg.st ≠ .curing then (St.malformed, s)
  else if beAt b 0 4 ≠ c.serial ∨ Config.ecdsaVerify c.pubkey (Config.sha384 (b.take 8)) (slice b 8 96) = false then (St.accessDenied, s)
  else if beAt b 4 1 = 0 then (St.ok, checkFailed s 1)
  else (St.ok, setCfg s fun x => { x with passed := addOnce x.passed 1 })

/-- The owner key that a cured patch revokes (R532). -/
def revokeKey (s : State) (i : Image) : State :=
  match i.revoke with
  | none => s
  | some k =>
    let x := (s.nv.ownerKeys.lookup k).getD { digest := none }
    { s with nv := { s.nv with ownerKeys := alSet s.nv.ownerKeys k { x with revoked := true } } }

/-- The cure ended with no check failed (R536, R545). -/
def cured (s : State) : State :=
  let s :=
    match s.cfg.cureImage, s.cfg.cureSlot with
    | some i, _ =>
      let serial := i.coat.serial
      let s := revokeKey (setEntry s serial .cured) i
      match entrySlot s serial with
      | none => s
      | some slot =>
        if (dirSlot s.cfg.dir slot).st = .empty then s
        else writeDir s fun d => setDirSlot d slot fun x => { x with top := serial }
    | none, some slot =>
      writeDir s fun d =>
        let c := (chainOf s slot).map fun c => (c.offset, chainBytes c)
        { setDirSlot d slot fun x => { x with st := .valid, offset := (c.map Prod.fst).getD x.offset, extent := (c.map Prod.snd).getD x.extent, top := (coat s).serial }
          with active := slot, tries := 0 }
    | none, none => s
  cfgEvent (setCfg s fun x => { x with st := .cured, previous := none, cureImage := none, cureSlot := none }) 2 3 []

/-- The cure time ends (R543, R545). -/
def cureEnds (s : State) : State :=
  if s.cfg.st ≠ .curing ∨ s.cfg.stripDue = true then s
  else
    let s := if allLowered s then setCfg s fun x => { x with passed := addOnce x.passed 5 } else s
    let s := [1, 5].foldl (fun s k => if bit (checksOf s) k ∧ s.cfg.passed.contains k = false then checkFailed s k else s) s
    if s.cfg.stripDue then s else cured s

/-- The failed checks as FAILED shows them (R553). -/
def checkBits (l : List Nat) : Nat := sumBy (l.foldl addOnce []) fun k => 2 ^ k

/-- The strip applies (R545): the previous coat is restored in full, traffic drains. A coat that was booted without another one to go back
to stays in force. -/
def strips (s : State) : State :=
  if s.cfg.st ≠ .curing ∨ s.cfg.stripDue = false then s
  else
    match s.cfg.previous with
    | none => setCfg s fun x => { x with stripDue := false }
    | some old =>
      let serial := (s.cfg.cureImage.map fun i => i.coat.serial).getD (coat s).serial
      let s := progsRestored (switchCoat s old false) old
      let s :=
        match s.cfg.cureSlot with
        | none => setEntry s serial .discarded
        | some slot =>
          let back := s.cfg.dir.previous.getD slot
          let s := writeDir s fun d => { setDirSlot d slot fun x => { x with st := .bad } with active := back, previous := none, tries := 0 }
          setCfg s fun x => { x with slot := back }
      let s := setCfg s fun x => { x with st := .draining, stripDue := false, previous := none, cureImage := none, cureSlot := none }
      let s := { s with pool := { s.pool with drain := some (tickNow s) } }
      cfgEvent (bump s Reg.cfgStrippedLo 1) 3 4 (det 1 (checkBits s.cfg.failed))

/-- The entries that a drain waits for: those taken at or before its tick that are not only reserved (R263). -/
def drainLeft (s : State) (tick : Nat) : Bool :=
  s.pool.txs.any fun t => t.isReq && !isReserved t && t.tick ≤ tick

/-- The drain of a rollback ends (R263, R599): held requests go on under the restored coat. -/
def drainEnds (s : State) : State :=
  match s.pool.drain with
  | none => s
  | some tick =>
    if drainLeft s tick then s
    else
      let s := logEvent s 15 4 36 noUnit (det 4 (tickNow s - tick))
      let s := { s with pool := { s.pool with drain := none } }
      let s := setCfg s fun x => { x with st := .cured }
      s.pool.srcs.foldl (fun s x => releaseHeld x.2.held.length s x.1) s

/-- A firmware core has finished its update and serves again; the next one is sheeted (R451). -/
def firmwareUpdated (s : State) (core : Nat) : State :=
  match s.cfg.fwUpdate with
  | [] => s
  | c :: rest =>
    if c ≠ core then s
    else
      let s := if (unitOf s 9 core).st = 1 then setUnit s 9 core fun u => { u with st := 0, reason := 0 } else s
      nextFirmware (setCfg s fun x => { x with fwUpdate := rest.filter fun k => (unitOf s 9 k).st = 0 })

/-! ### Boot (R534 to R536) -/

/-- The coat of a chain: its full coat and its CURED entries in order, if every image verifies. -/
def chainCoat (s : State) (c : Chain) : Option Coat :=
  if (verifyImage s {} c.full).1 ≠ 0 ∨ beAt c.full 5 1 ≠ 0 then none
  else
    (c.journal.filter fun e => e.st == .cured).foldl (fun (a : Option Coat) e =>
      match a with
      | some a => if (verifyImage s a e.bytes).1 = 0 ∧ beAt e.bytes 5 1 = 1 then some (readImage a e.bytes).coat else none
      | none => none) (some (readImage {} c.full).coat)

/-- The coat of a slot's chain, if it verifies. -/
def slotCoat (s : State) (i : Nat) : Option Coat := (chainOf s i).bind (chainCoat s)

/-- The directory that boot takes: of the copies whose MAC verifies, the one with the highest SEQ (R528). -/
def bootDir (s : State) : Option Directory :=
  (s.nv.dirs.filter (dirValid s)).foldl (fun (b : Option Directory) d =>
    match b with
    | some x => if x.seq < d.seq then some d else some x
    | none => some d) none

/-- Entries still CURING, and those whose patch was pending, count for nothing: the former are marked DISCARDED and logged (R535). -/
def discardCuring (s : State) (slot : Nat) : State :=
  let l := ((chainOf s slot).map Chain.journal).getD []
  (l.filter fun e => e.st == .curing).foldl (fun s e =>
    logEvent (setChain s slot fun c => { c with journal := c.journal.map fun x => if x.serial = e.serial then { x with st := .discarded } else x })
      15 1 37 noUnit (det 4 e.serial)) s

/-- The unit of a SHEET_MAP bit: kind and index (R528, R547). -/
def bitUnit (n : Nat) : Option (Nat × Nat) :=
  ((List.range 12).flatMap fun k => [(k, unitCounts.getD k 0)]).findSome? fun x =>
    let lo := sheetBit x.1 (if x.1 = 9 then 4 else 0)
    if lo ≤ n ∧ n < lo + x.2 then some (x.1, n - lo + if x.1 = 9 then 4 else 0) else none

/-- What SHEET_MAP and the fuses say of the units: sheeted with REASON REPLACE, pseudo-channels retired, rows repaired (R535, R560). -/
def bootUnits (s : State) : State :=
  let s := s.cfg.dir.sheetMap.foldl (fun s n =>
    match bitUnit n with
    | some (k, i) => let s := setUnit s k i fun _ => { st := 1, reason := 2 }; sheetEffect s s k i
    | none => s) s
  let s := ((s.nv.repaired.map Prod.fst).foldl addOnce []).foldl (fun s pc =>
    setPc s pc fun p => { p with spare := 64 - countBy s.nv.repaired fun r => r.1 == pc }) s
  s.nv.retired.foldl (fun s r => if r.1 = .pseudoChannel then setPc s r.2 fun p => { p with st := 2 } else s) s

/-- CDI_0 (R470): from the fused secret, the ROM and MODE. -/
def cdi0 (s : State) : Nat := Config.hmac384 Config.uds (beBytes 48 Config.romDigest ++ [if bringup s then 1 else 0])

/-- A boot coat comes into force: its lanes and ports serve as it sets them (R98, R590), ports may come up, programs are lowered, resident programs load, trays are identified (R534, R649). -/
def bootCoat (s : State) (c : Coat) (slot : Nat) : State :=
  let s := setCfg s fun x => { x with active := some c, slot, forwarding := true, st := .cured }
  let s := { s with lnk := { s.lnk with ports := [], lanes := s.lnk.lanes.map (laneDefaults s) } }
  let s := setSec s fun x => { x with fwDigest := c.fw, cdi1 := Config.hmac384 (cdi0 s) (beBytes 48 c.fw), aliasKey := true }
  let s := loadRole (bootUnits s) c
  let s := residentsApplied (progsBooted s c) {} c true
  let s := { s with coh := { s.coh with poison := if c.pool.trays.isEmpty then [] else s.nv.poison } }
  let s := switchCals s
  let s := identifyTrays s
  if c.dense.trays.isEmpty then s else denseRecover s

/-- The coats that boot tries: coat, slot, and for an uncured one what a strip goes back to. -/
inductive BootPick where
  | cured (c : Coat) (slot : Nat)
  | trial (c : Coat) (slot : Nat) (prev : Option Coat)
  | fallback (c : Coat) (slot bad : Nat)
  | none
deriving DecidableEq, Repr

/-- The full coat at offset 0x04_0000 of the primary device, else of the recovery device (R534). -/
def rescueCoat (s : State) : Option (Coat × Nat) :=
  [0, 1, 2, 3].findSome? fun i =>
    match chainOf s i with
    | some c => if c.offset = 0x40000 then (chainCoat s { c with journal := [] }).map fun a => (a, i) else none
    | none => none

/-- The image of a chain that fails its checks first, with the reason; none where all verify (R533, R534). -/
def chainFault (s : State) (c : Chain) : Option Nat :=
  let r := if beAt c.full 5 1 = 0 then (verifyImage s {} c.full).1 else 2
  if r ≠ 0 then some r
  else
    let go := fun (a : Coat × Option Nat) (e : JEnt) =>
      if a.2.isSome then a
      else
        let r := if beAt e.bytes 5 1 = 1 then (verifyImage s a.1 e.bytes).1 else 2
        if r ≠ 0 then (a.1, some r) else ((readImage a.1 e.bytes).coat, none)
    ((c.journal.filter fun e => e.st == .cured).foldl go ((readImage {} c.full).coat, none)).2

/-- The chains that boot reads: ACTIVE, and PREVIOUS where ACTIVE has not cured or does not boot; without a directory the full coats at offset
0x04_0000 that fail before one verifies (R534). -/
def bootReads (s : State) : List Chain :=
  match bootDir s with
  | none =>
    let rescue := (([0, 1, 2, 3].filterMap fun i => chainOf s i).filter fun c => c.offset == 0x40000).map fun (c : Chain) => { c with journal := [] }
    rescue.takeWhile fun c => (chainFault s c).isSome
  | some d =>
    let active := (chainOf s d.active).toList
    let boots := (dirSlot d d.active).st == .valid && (slotCoat s d.active).any fun c => d.tries < fld (coatRegIn c.regs Reg.cfgCfg 0) 18 4
    if boots then active else active ++ (d.previous.bind fun p => chainOf s p).toList

/-- A chain that breaks a check is not used: COAT_REJECTED is raised, the reason logged (R533). -/
def rejectChains (s : State) : State :=
  (bootReads s).foldl (fun t c =>
    match chainFault s c with
    | some r => coatRejected t r
    | none => t) s

/-- What boots (R534). -/
def bootPick (s : State) : BootPick :=
  match bootDir s with
  | none =>
    match rescueCoat s with
    | some (c, i) => .trial c i none
    | none => .none
  | some d =>
    let prev := d.previous.bind fun p => (slotCoat s p).map fun c => (c, p)
    match slotCoat s d.active with
    | some c =>
      if d.tries < fld (coatRegIn c.regs Reg.cfgCfg 0) 18 4 then
        if (dirSlot d d.active).st = .staged then .trial c d.active (prev.map Prod.fst) else .cured c d.active
      else
        match prev with
        | some (p, i) => .fallback p i d.active
        | none => .none
    | none =>
      match prev with
      | some (p, i) => .fallback p i d.active
      | none => .none

/-- The boot (R534): a staged chain cures, with one more of TRIES; the previous one raises BOOT_FALLBACK and marks ACTIVE BAD. -/
def boots (s : State) : State :=
  if s.cfg.st ≠ .booting then s
  else
    let s := setCfg s fun x => { x with dir := (bootDir s).getD {} }
    let pick := bootPick s
    let s := rejectChains s
    match pick with
    | .none => setCfg s fun x => { x with st := .noCoat }
    | .cured c i => bootCoat (discardCuring s i) c i
    | .trial c i prev =>
      let s := if (bootDir s).isSome then writeDir s fun d => { d with tries := d.tries + 1 } else s
      let s := cureStarts (bootCoat (if (bootDir s).isSome then discardCuring s i else s) c i)
      setCfg s fun x => { x with previous := prev, cureSlot := some i }
    | .fallback c i bad =>
      let s := writeDir s fun d => { setDirSlot d bad fun x => { x with st := .bad } with active := i, previous := none, tries := 0 }
      bootCoat (cfgEvent (discardCuring s i) 6 1 []) c i

/-- POOL_READY (R619): every listed tray has identified itself, and the dense tier does not recover. -/
def poolMayServe (s : State) : State :=
  let ready := s.cfg.forwarding && !s.cfg.poolReady && s.dns.st != 1 &&
    ((coat s).pool.trays.all fun t => (capTrayOf s t.1).st ≠ 0 ∧ (capTrayOf s t.1).st ≠ 1) &&
    (coat s).dense.trays.all fun t => (dTrayOf s t.index).st ≠ 0
  if ready then setCfg s fun x => { x with poolReady := true } else s

end Sys2Proof.Machine
end

