-- ==== Sys2Proof/Machine/DenseCare.lean ====
section
/-! DEFINITION. Media care in the background (spec/09 R285 to R302): garbage collection, refresh, drizzle patrol, rebuild, checkpoints,
recovery; the migration and restoring of capacity units (spec/06 R171, R172). -/

namespace Sys2Proof.Machine

open Sys2Proof

/-! ### Garbage collection (R285, R286, R288) -/

/-- The units whose data lies in a stripe. -/
def stripeUnits (s : State) (x : Stripe) : List Nat :=
  (s.dns.map.filter fun (e : Nat × MapEnt) => e.2.st == .dense && x.members.contains (e.2.tray, e.2.eu)).map fun (e : Nat × MapEnt) => e.1

/-- Stripes that may be a victim: closed, and of no row under way. -/
def closedStripes (s : State) : List (Nat × Stripe) :=
  s.dns.stripes.filter fun (p : Nat × Stripe) => p.2.closed.isSome && !s.dns.active.any fun a => a.1 == p.1

/-- The closed stripe with the fewest valid strides; among equals the one closed earliest (R285). -/
def emptiest (s : State) : Option Nat :=
  ((closedStripes s).foldl (fun (b : Option (Nat × Nat × Nat)) (p : Nat × Stripe) =>
    let v := (stripeUnits s p.2).length
    let c := p.2.closed.getD 0
    match b with
    | none => some (p.1, v, c)
    | some x => if v < x.2.1 ∨ (v = x.2.1 ∧ c < x.2.2) then some (p.1, v, c) else some x) none).map fun x => x.1

/-- The erase unit of a tray with the lowest erase count, where the spread of the counts exceeds WEAR_SPREAD (R288). -/
def wornApart (s : State) (tray : Nat) : Option Nat :=
  let l := (dTrayOf s tray).eus.filter fun (e : Nat × EuSt) => 2 ≤ e.1 && e.2.st != 3
  match l with
  | [] => none
  | e :: r =>
    let low := r.foldl (fun (b : Nat × EuSt) (x : Nat × EuSt) => if x.2.count < b.2.count then x else b) e
    let high := (l.map fun (x : Nat × EuSt) => x.2.count).foldl max 0
    if coatFld s Reg.dnsGcCfg 0 10 12 < high - low.2.count then some low.1 else none

/-- The next victim: a closed stripe that holds the least worn erase unit of a tray that is worn unevenly; one that holds a retired
member; else, where garbage collection is due, the emptiest (R285, R288). -/
def pickVictim (s : State) : Option Nat :=
  let worn := (denseUp s).findSome? fun t =>
    (wornApart s t).bind fun e => ((closedStripes s).find? fun (p : Nat × Stripe) => p.2.members.contains (t, e)).map Prod.fst
  let hurt := ((closedStripes s).find? fun (p : Nat × Stripe) => p.2.members.any fun m => (euOf s m.1 m.2).st == 3).map Prod.fst
  match worn with
  | some i => some i
  | none => if hurt.isSome then hurt else if gcLow s then emptiest s else none

/-- The stream a relocated unit enters (R282). -/
def nextTemp (t : Nat) : Nat := if t = 0 then 1 else if t = 1 then 2 else 3

/-- The victim's members are erased once no valid unit is left in it; its retired ones are not used again (R285, R288). -/
def eraseStripe (s : State) (i : Nat) (x : Stripe) : State :=
  let s := { s with dns := { s.dns with stripes := alErase s.dns.stripes i, victim := none } }
  x.members.foldl (fun s m =>
    if (euOf s m.1 m.2).st = 3 then s
    else if inService s 8 m.1 ∧ (dTrayOf s m.1).st = 1 then eraseEu (setEu s m.1 m.2 fun u => { u with st := 0 }) m.1 m.2
    else setEu s m.1 m.2 fun u => { u with st := 0 }) s

/-- A step of garbage collection: a victim is chosen, its valid units are relocated, and it is erased when none is left (R285). It
stops below ten trays (R296). -/
def gcRun (s : State) : State :=
  if s.dns.st ≠ 2 ∨ (denseUp s).length < 10 then s
  else
    let s := if s.dns.victim.isNone then { s with dns := { s.dns with victim := pickVictim s } } else s
    match s.dns.victim.bind fun i => (stripeOf s i).map fun x => (i, x) with
    | none => { s with dns := { s.dns with victim := none } }
    | some (i, x) =>
      let units := stripeUnits s x
      if units.isEmpty then saveMedia (eraseStripe s i x)
      else
        (units.filter fun u => !unitMoving s u).foldl (fun s u =>
          let e := mapOf s u
          gatherUnit s u (nextTemp e.temp) 0 false (some e.serial) []) s

/-! ### Refresh (R292) -/

/-- A unit that is to be refreshed is rewritten whole to its stream, and counted. -/
def refreshUnit (s : State) (unit : Nat) : State :=
  if !s.dns.refreshDue.contains unit then s
  else
    let s := { s with dns := { s.dns with refreshDue := without s.dns.refreshDue unit } }
    let e := mapOf s unit
    if e.st ≠ .dense then s else gatherUnit (bump s Reg.dnsRefreshLo 1) unit e.temp 0 false (some e.serial) []

/-! ### Drizzle patrol (R293) -/

/-- A place that patrol reads. -/
inductive Spot where
  | stride (stripe stride member : Nat)
  | primer (tray eu : Nat)
deriving DecidableEq, Repr

/-- What a pass reads: every programmed stride of every member of every stripe, and the primer of every free erase unit. -/
def patrolSpots (s : State) : List Spot :=
  (s.dns.stripes.flatMap fun (p : Nat × Stripe) =>
    (List.range (p.2.rows - 1)).flatMap fun k => (List.range 10).map fun m => .stride p.1 (k + 1) m) ++
  (denseUp s).flatMap fun t =>
    ((dTrayOf s t).eus.filter fun (e : Nat × EuSt) => e.2.st == 1 && 2 ≤ e.1).map fun (e : Nat × EuSt) => .primer t e.1

/-- The ticks of a pass. -/
def patrolTicks (s : State) : Nat := coatFld s Reg.dnsCfg 0 4 5 * dayTicks

/-- How many places of `n` a pass should have read by now. -/
def patrolTarget (s : State) (n : Nat) : Nat := min n ((tickNow s - s.dns.patrolStart) * n / max (patrolTicks s) 1)

/-- A place is read; a member that is missing is passed over. -/
def patrolRead (s : State) : Spot → State
  | .stride i k m =>
    match (stripeOf s i).bind fun x => memberPlace s x m k with
    | some (t, e) =>
      if slotRetired s t e k then s
      else (List.range 16).foldl (fun s sec => newJob s (.sector t e k sec 0 0 0 [] .patrol)) s
    | none => s
  | .primer t e => newJob s (.sector t e 0 0 0 0 0 [] .patrol)

/-- A step of patrol: the reads that keep the pass in step with its period; at its end PATROL_PASS. -/
def patrolRun (s : State) : State :=
  let spots := patrolSpots s
  if s.dns.st ≠ 2 ∨ spots.isEmpty then s
  else
    let upto := patrolTarget s spots.length
    let s := (slice' spots s.dns.patrolPos (upto - s.dns.patrolPos)).foldl patrolRead s
    if spots.length ≤ upto then
      raise (bump { s with dns := { s.dns with patrolPos := 0, patrolStart := tickNow s } } Reg.dnsPatrolPass 1) Reg.dnsEventStatus 7 5 noUnit []
    else { s with dns := { s.dns with patrolPos := max s.dns.patrolPos upto } }
where
  /-- `n` places from place `k`. -/
  slice' (l : List Spot) (k n : Nat) : List Spot := (l.drop k).take n

/-- Patrol lags by more than 1 % of a pass. -/
def patrolBehind (s : State) : Bool :=
  let n := (patrolSpots s).length
  n < 100 * (patrolTarget s n - s.dns.patrolPos)

/-! ### Rebuild (R294) -/

/-- The stripe that is rebuilt next: one with two missing members before one with one, the lower index among equals. -/
def rebuildNext (s : State) : Option (Nat × Stripe) :=
  let l := s.dns.stripes.filter fun (p : Nat × Stripe) => !p.2.missing.isEmpty && !s.dns.active.any fun a => a.1 == p.1
  l.foldl (fun (b : Option (Nat × Stripe)) (p : Nat × Stripe) =>
    match b with
    | none => some p
    | some x =>
      if x.2.missing.length < p.2.missing.length ∨ (p.2.missing.length = x.2.missing.length ∧ p.1 < x.1) then some p else some x) none

/-- Whether a stripe's rebuild has a stride under way. -/
def rebuilding (s : State) (i : Nat) : Bool :=
  s.dns.jobs.any fun (p : Nat × Media) =>
    match p.2 with
    | .rebuild st _ _ _ _ => st == i
    | .program st _ _ t e _ _ _ _ _ => st == i && isRebuild s i t e
    | _ => false

/-- A step of a rebuild: a target is taken on a tray that no member lies on, its primer standing already; then the next stride is
rebuilt into it. A stripe without a target waits (R296). -/
def rebuildRun (s : State) : State :=
  match (if s.dns.st = 2 then rebuildNext s else none) with
  | none => s
  | some (i, x) =>
    if rebuilding s i then s
    else
      match x.rebuild with
      | none =>
        let trays := (denseUp s).filter fun t => !(dTrayOf s t).halted && !x.members.any fun m => m.1 == t
        match trays.findSome? fun t => (freeEu s t).map fun e => (t, e) with
        | some (t, e) =>
          let s := setStripe (setEu s t e fun u => { u with st := 2 }) i { x with rebuild := some (x.missing.headD 0, t, e, 1) }
          if x.rows ≤ 1 then rebuildMemberDone s i else s
        | none => denseConditions (trays.foldl prepareEu s)
      | some (m, _, _, done) =>
        if x.rows ≤ done then rebuildMemberDone s i
        else
          let j := s.dns.nextJob
          let s := newJob s (.rebuild i m done (List.range 16) [])
          (List.range 16).foldl (fun s k => readSector s i m done k (.part j)) s

/-! ### Checkpoints and recovery (R301, R302) -/

/-- Recovery ends: the map, the stripes and the erase units are as the media hold them, rows that were cut short with what was written of
them; parity still due of complete rows is written; half-erased units are erased again; dense-backed windows serve (R302; log entries 61,
67). -/
def recovered (s : State) : State :=
  if s.dns.st ≠ 1 then s
  else
    let m := s.nv.media
    let trays := s.dns.trays.map fun (t : Nat × DTray) =>
      let old := alGetD m.trays t.1 {}
      (t.1, { t.2 with eus := old.eus, dies := old.dies, roots := old.roots })
    let s := { s with dns := { m with st := 2, trays, patrolStart := tickNow s } }
    denseConditions (updateMissing (raise s Reg.dnsEventStatus 8 5 noUnit []))

/-! ### Capacity units (R171, R172) -/

/-- The ticks of COLD_S. -/
def coldTicks (s : State) : Nat := 500000000 * coatFld s Reg.poolTierCfg 0 0 17

/-- A landed unit that has not been written for COLD_S is migrated as background work; below ten dense trays migration stops (R171,
R296). -/
def migrateUnit (s : State) (unit : Nat) : State :=
  let busy := s.pool.txs.any fun t =>
    match t.work with
    | .migrate u => u == unit
    | _ => false
  let fresh := s.pool.cache.any fun (c : Nat × CLine) => unitOfLine c.1 == unit && c.2.dirty
  if (mapOf s unit).st = .landed ∧ ((winOfLine s (512 * unit)).any fun w => w.policy == 2) = true ∧ s.dns.st = 2 ∧
      10 ≤ (denseUp s).length ∧ coldTicks s ≤ tickNow s - (capUnitOf s unit).lastWrite ∧ busy = false ∧ fresh = false ∧
      unitMoving s unit = false ∧ bgRoom s = true then
    newTx s { id := 0, work := .migrate unit, writes := [(512 * unit, 512)] }
  else s

/-- A unit of a failed tray is copied from its good copy to the lowest tray in service that has none, as background work (R172). -/
def restoreUnit (s : State) (unit : Nat) : State :=
  let busy := s.pool.txs.any fun t =>
    match t.work with
    | .restore u _ => u == unit
    | _ => false
  let good := goodCopies s unit
  let spare := (capTraysUp s).find? fun i => !good.contains i
  match spare with
  | some i =>
    if capPair s ∧ good.length = 1 ∧ (unitPlace s unit).isSome ∧ busy = false ∧ bgRoom s = true then
      newTx s { id := 0, work := .restore unit i, writes := [(512 * unit, 512)] }
    else s
  | none => s

/-- The primary of a window in SINGLE sends its partner a PAIR_RESET, unless one is outstanding there (R189). When it does is not said: with
the background work on the window (DESIGN CHOICE, log entry 226). -/
def resyncAsks (s : State) (win : Nat) : State :=
  match (wins s).find? fun w => w.id == win with
  | none => s
  | some w =>
    if s.pool.outs.any fun o => o.target == w.partner && o.opcode == Op.pairReset then s
    else request s w.partner Op.pairReset (classFor s Cls.pmtCtrl) {} 0 0 [] (.pairReset win)

/-- A marked unit of a mirrored primary in RESYNC is copied to the partner as background work; with none left the window is PAIRED
again (R189). -/
def resyncStep (s : State) (win : Nat) : State :=
  let busy := s.pool.txs.any fun t =>
    match t.work with
    | .resync w _ => w == win
    | _ => false
  if (winSt s win).mirror = .single then resyncAsks s win
  else if (winSt s win).mirror ≠ .resync ∨ busy = true then s
  else
    match (winSt s win).marked with
    | [] => setWin s win fun x => { x with mirror := .paired }
    | unit :: _ => if bgRoom s then newTx s { id := 0, work := .resync win unit, reads := [(512 * unit, 512)] } else s

end Sys2Proof.Machine
end

