-- ==== Sys2Proof/Machine/RegsA.lean ====
section
/-! DEFINITION. What the registers of GLB, ALM, LNK, SWC, SCH, POOL and COH read (spec/02 R53 to R57, spec/03 R93 to R101, spec/04
R130 to R138, spec/05 R156 to R162, spec/06 R194 to R199, spec/07 R239 to R244, spec/14 R458 to R461, spec/21 R618 to R621): a word, or
the 64 bits behind a _LO address. `sel` is what the reading path's selection registers hold (R614). -/

namespace Sys2Proof.Machine

open Sys2Proof

/-- What an address reads: a word; the 64 bits of a _LO and _HI pair, at the _LO address (R593). -/
inductive Val where
  | word (n : Nat)
  | wide (n : Nat)
deriving DecidableEq, Repr

/-- A table of register values. -/
abbrev Vals := List (Nat × Val)

/-- A Bool as a bit at a place. -/
def flagAt (b : Bool) (i : Nat) : Nat := if b then 2 ^ i else 0

/-- The bits of a list of bit numbers. -/
def bitsOf (l : List Nat) : Nat := sumBy (l.foldl addOnce []) fun k => 2 ^ k

/-- Counters by their _LO addresses, at one selector. -/
def ctrVals (s : State) (l : List Nat) (sel : Nat) : Vals := l.map fun a => (a, .wide (ctrGet s a sel))

/-! ### GLB -/

/-- Which blocks have a pending event (R621). -/
def pendingBlocks (s : State) : Nat := bitsOf ((List.range 19).filter (blockPending s))

/-- The resident slot that a core runs. -/
def coreSlot (s : State) (c : Nat) : Option Nat := (s.cor.res.find? fun p => p.2.cores.contains c).map fun p => p.1

/-- Whether a core runs something: a host op, a resident program; of a firmware or lowering core the manual says nothing. -/
def coreRuns (s : State) (c : Nat) : Bool :=
  if coreRole s c ≤ 1 ∨ coreRole s c = 4 then Config.reading Reg.glbHostCore c (tickNow s) % 2 == 1
  else coreRunsOp s c || (coreSlot s c).isSome

/-- The world of what a core runs: firmware is secure. -/
def coreWorld (s : State) (c : Nat) : Bool :=
  if coreRole s c ≤ 1 ∨ coreRole s c = 4 then true
  else
    ((coreSlot s c).bind (resEnt s)).any (fun r => r.key.world) || s.til.invs.any fun v => v.core == some c && v.prog.key.world

/-- GLB_HOST_CORE of a core (R459). -/
def hostCoreWord (s : State) (c : Nat) : Nat :=
  if 24 ≤ c then 0
  else
    let u := unitOf s 9 c
    let st := if u.st = 3 then 3 else if u.st ≠ 0 then 2 else if coreRuns s c then 1 else 0
    let slot := coreSlot s c
    coreRole s c + 8 * st + flagAt (coreWorld s c) 5 + 64 * slot.getD 0 + flagAt slot.isSome 12

/-- GLB_HOST_RES of a slot (R460). -/
def hostResWord (s : State) (n : Nat) : Nat :=
  let r := resOf s n
  r.st + 8 * r.cores.length + 256 * (if r.st = 4 then r.cause % 64 else 0) + 2 ^ 14 * min r.mail.length 64 + 2 ^ 21 * min r.dropped 2047

/-- The counters of GLB. -/
def glbCtrs : List Nat := [Reg.glbIgnoredLo]

/-- GLB (R618). -/
def glbVals (s : State) (sel : Nat → Nat) : Vals :=
  [(Reg.glbDeviceId, .word 0x564E1024), (Reg.glbRevision, .word 0xB0),
   (Reg.glbStatus, .word (flagAt (bringup s) 0 + flagAt s.cfg.forwarding 1 + flagAt s.cfg.poolReady 2 + 8 * s.scr.role)),
   (Reg.glbEventSummary, .word (pendingBlocks s)), (Reg.glbScratch, .word s.pwr.scratch.toNat),
   (Reg.glbEui64Lo, .wide Config.eui64.toNat), (Reg.glbUptimeLo, .wide s.pwr.uptime),
   (Reg.glbHostCore, .word (hostCoreWord s (fld (sel Reg.glbHostSel) 0 5))),
   (Reg.glbHostRes, .word (hostResWord s (fld (sel Reg.glbHostSel) 5 6)))] ++ ctrVals s glbCtrs 0

/-! ### ALM -/

/-- The counters of ALM. -/
def almCtrs : List Nat :=
  [Reg.almBcnAcceptedLo, Reg.almBcnEarlyLo, Reg.almBcnLateLo, Reg.almBcnMissedLo, Reg.almBcnMalformedLo]

/-- ALM (R53 to R57). -/
def almVals (s : State) (sel : Nat → Nat) : Vals :=
  let g := fld (sel Reg.almFcSel) 0 14
  let f := alGetD s.fc g {}
  let has := f.cal.period ≠ 0
  let entry := if has then ((f.cal.entries[fld (sel Reg.almFcSel) 14 12]?).map BitVec.toNat).getD 0 else 0
  let up := if s.alm.gm || !s.alm.taken then none else s.alm.upPort
  let state := almCode s.alm.st + flagAt s.alm.gm 3 + flagAt s.alm.upHoldover 4 + flagAt s.alm.extValid 5 +
    65536 * (up.getD 0) + flagAt up.isSome 26
  [(Reg.almTimeLo, .wide s.alm.time), (Reg.almState, .word state), (Reg.almOffset, .word (unsigned 32 s.alm.offset16)),
   (Reg.almGmEuiLo, .wide s.alm.gmEui), (Reg.almGmInfo, .word (s.alm.gmPriority + 256 * s.alm.gmClass + 65536 * s.alm.gmSteps)),
   (Reg.almFcEntryLo, .wide entry), (Reg.almFcPeriod, .word (if has then f.cal.period else 0)),
   (Reg.almFcCount, .word ((if has then f.cal.entries.length else 0) + flagAt f.unsync 16)),
   (Reg.almFcAnchorLo, .wide (if has then f.cal.anchor else 0)), (Reg.almFcOffslotLo, .wide (ctrGet s Reg.almFcOffslotLo g)),
   (Reg.almFcUsed, .word (sumBy s.fc fun p => if p.2.cal.period = 0 then 0 else p.2.cal.entries.length))] ++ ctrVals s almCtrs 0

/-! ### LNK (R93) -/

/-- The port whose registers lie in a lane's space. -/
def lanePort (n : Nat) : Option Nat :=
  if isSpareLane n then none else some (if n < 576 then n else n - 64)

/-- Whether an address of the LNK span holds a register: lane registers below 0x800, those of a port that exists, those of a group; lanes
from 576 on are there in twin mode only (R93, R509). -/
def lnkThere (s : State) (a : Nat) : Bool :=
  let n := (a - 0x02000000) / 4096
  let off := a % 4096
  n < (if s.scr.role = 0 then 576 else 1152) &&
    (off < 0x800 ||
      match lanePort n with
      | some p => if off < 0xC00 then portExists s p else p % 8 == 0
      | none => false)

/-- LNK_LANE_STATUS (R98). -/
def laneWord (s : State) (n : Nat) : Nat :=
  let l := laneOf s n
  let role := match l.role with
    | .active => 0
    | .idleSpare => 1
    | .spareInUse => 2
    | .retired => 3
  let port := if l.role = .idleSpare ∨ l.role = .retired then none else l.port.filter (portExists s)
  flagAt l.signal 0 + flagAt l.lock 1 + 4 * role + 16 * (l.logical % 8) + 128 * port.getD 0 + flagAt port.isSome 17

/-- Codes of LNK_PORT_STATUS.STATE (R97). -/
def portCode : PortSt → Nat
  | .disabled => 0
  | .training => 1
  | .up => 2
  | .degraded => 3
  | .down => 4
  | .awaitingKey => 5
  | .sparing => 6

/-- LNK_PORT_STATUS (R97). -/
def portWord (s : State) (p : Nat) : Nat :=
  let q := portOf s p
  portCode q.st + 8 * Nat.log2 (max q.mask.length 1) + flagAt q.spareInUse 5 + flagAt (llrActive s p) 6 + 256 * bitsOf q.mask

/-- The counters of a port, at lane 0's addresses. -/
def lnkCtrs : List Nat :=
  [Reg.lnkRxBytesLo, Reg.lnkTxBytesLo, Reg.lnkRxErrLo, Reg.lnkFecUncorrLo, Reg.lnkLlrReplayLo, Reg.lnkLlrMalformedLo, Reg.lnkPortDropLo]

/-- LNK: what the space of lane `n` holds at lane 0's address `row`. A cage bus that the coat uses is empty until a module shows (R101). -/
def lnkVal (s : State) (n row : Nat) : Option Val :=
  let p := (lanePort n).getD 0
  let g := p % 512 / 8
  let addr := lnkAddr row n
  if row = Reg.lnkLaneStatus then some (.word (laneWord s n))
  else if row = Reg.lnkLaneLosCount then some (.word ((laneOf s n).losCount % two32))
  else if row = Reg.lnkPortStatus then some (.word (portWord s p))
  else if row = Reg.lnkPdelay then some (.word (meanDelay16 s p % two32))
  else if row = Reg.lnkCageStatus then
    let st := fun (b : Bool) => if !s.cfg.forwarding || !busUsed s g b then 0 else max (cage s g b).st 1
    let ms := fun (b : Bool) => if st b = 0 then 0 else (cage s g b).modState % 16
    some (.word (st false + 4 * st true + 16 * ms false + 256 * ms true))
  else if row = Reg.lnkLaneSymCorrLo ∨ lnkCtrs.contains row then some (.wide (ctrGet s addr 0))
  else none

/-! ### SWC -/

/-- The counters of SWC that no selection governs. -/
def swcCtrs : List Nat :=
  [Reg.swcPrivDropLo, Reg.swcHrDropLo, Reg.swcReseqResendLo, Reg.swcStompLo, Reg.swcLearnFailLo, Reg.swcRouteMissLo,
   Reg.swcBufEccCorrLo, Reg.swcSquallTxLo]

/-- Planes of the crossbar in service (R121, R137). -/
def planesUp (s : State) : List Nat := (List.range 4).filter (inService s 10)

/-- The queue that SWC_Q_SEL selects, if it exists (R132). -/
def queueSel (s : State) (sel : Nat → Nat) : Option (Nat × Nat) :=
  let p := fld (sel Reg.swcQSel) 0 10
  let c := fld (sel Reg.swcQSel) 10 4
  if c < 12 ∧ portExists s p = true then some (p, c) else none

/-- SWC (R130 to R138). -/
def swcVals (s : State) (sel : Nat → Nat) : Vals :=
  let q := queueSel s sel
  let p := fld (sel Reg.swcQSel) 0 10
  let pri := fun (f : Nat → Bool) => bitsOf ((List.range 8).filter f)
  let planes := planesUp s
  let onQueue := fun (a : Nat) => (q.map fun x => ctrGet s a (qSel x.1 x.2)).getD 0
  let sw := (coat s).switch
  [(Reg.swcPoolStatus, .word (sharedFree s)), (Reg.swcHrStatus, .word (headroomFree s)),
   (Reg.swcPlaneStatus, .word (bitsOf planes + 256 * (6 * planes.length))),
   (Reg.swcTblMac, .word (sw.macs.length + s.swc.learned.length)),
   (Reg.swcTblV4, .word (countBy sw.routes fun r => !r.v6)), (Reg.swcTblV6, .word (countBy sw.routes fun r => r.v6)),
   (Reg.swcTblAcl, .word (sw.acls.length + (coat s).security.bindings.length)),
   (Reg.swcQDepth, .word ((q.map fun x => (queueOf s x.1 x.2).depth).getD 0)),
   (Reg.swcQDropLo, .wide (onQueue Reg.swcQDropLo)), (Reg.swcQEcnMarkLo, .wide (onQueue Reg.swcQEcnMarkLo)),
   (Reg.swcPortPfcStatus, .word (pri (fun i => (accountOf s p i).paused) + 256 * pri (fun i => (pauseOf s p i).paused) +
     65536 * pri (fun i => (pauseOf s p i).storm)))] ++
  ctrVals s [Reg.swcPfcRxLo, Reg.swcPfcTxLo] p ++ ctrVals s swcCtrs 0

/-! ### SCH -/

/-- The node that SCH_SEL selects, if it exists (R157). -/
def nodeAt (s : State) (w : Nat) : Option NodeId :=
  let i := fld w 0 16
  let p := fld w 0 10
  match fld w 16 2 with
  | 0 => some (.leaf i)
  | 1 => if i < 8192 then some (.sub i) else none
  | 2 => if i < 1024 ∧ portExists s i = true then some (.port i) else none
  | _ => if bit w 15 = false ∧ fld w 10 5 < 18 ∧ portExists s p = true then some (.pnode p (fld w 10 5)) else none

/-- The port that SCH_SEL selects, by TYPE 2 or TYPE 3. -/
def schPortAt (s : State) (w : Nat) : Option Nat :=
  match nodeAt s w with
  | some (.port p) => some p
  | some (.pnode p _) => some p
  | _ => none

/-- Whether a node holds a frame, itself or below it (R159). -/
def holdsFrame (s : State) : NodeId → Bool
  | .leaf n => !(leafOf s (.leaf n)).isEmpty
  | .sub n => (subLeaves n).any fun l => !(leafOf s l.2).isEmpty
  | .pnode p 0 => (defLeaves p).any fun l => !(leafOf s l.2).isEmpty
  | .pnode p 12 => !(leafOf s (.pnode p 16)).isEmpty || !(leafOf s (.pnode p 17)).isEmpty
  | .pnode p k => !(leafOf s (.pnode p (if 9 ≤ k ∧ k ≤ 11 then k + 4 else k))).isEmpty
  | .port p => s.sch.leaves.any fun l =>
    !l.2.isEmpty && match l.1 with
      | .leaf n => fld (nodeCfg s (.sub (n / 8))) 10 10 == p
      | .pnode q _ => q == p
      | _ => false

/-- The class of a leaf of a port's own (R157). -/
def pnodeClass (k : Nat) : Nat := if k ≤ 8 then k - 1 else if k ≤ 15 then k - 5 else 11

/-- Whether a node is eligible (R146). -/
def nodeEligible (s : State) : NodeId → Bool
  | .leaf n => leafEligible s (fld (nodeCfg s (.sub (n / 8))) 10 10) (n % 8) (.leaf n)
  | .sub n => childEligible s (fld (nodeCfg s (.sub n)) 10 10) (.sub n)
  | .port p => !shaped s (.port p) && ((weightedChildren s p).any (childEligible s p) ||
      [13, 14, 15, 16, 17].any fun k => leafEligible s p (pnodeClass k) (.pnode p k))
  | .pnode p k => if k = 0 ∨ (9 ≤ k ∧ k ≤ 12) then childEligible s p (.pnode p k) else leafEligible s p (pnodeClass k) (.pnode p k)

/-- Whether a leaf's priority is paused. -/
def nodePaused (s : State) : NodeId → Bool
  | .leaf n => pausedFor s (fld (nodeCfg s (.sub (n / 8))) 10 10) (n % 8)
  | .pnode p k => 1 ≤ k && k ≤ 8 && pausedFor s p (k - 1)
  | _ => false

/-- SCH_NODE_START: zero for a port and for a node that no weighted level or subscriber orders (R157). -/
def nodeStart (s : State) : NodeId → Nat
  | .port _ => 0
  | .pnode p k => if k ≤ 12 then (nodeOf s (.pnode p k)).tag else 0
  | n => (nodeOf s n).tag

/-- SCH_NODE_VTIME (R156, R157). -/
def nodeVtime (s : State) : NodeId → Nat
  | .leaf _ => 0
  | .pnode p k => if k = 0 then (nodeOf s (.pnode p 0)).vtime else 0
  | n => (nodeOf s n).vtime

/-- SCH_NODE_CFG as it reads (R157, R158): a port shows no weight; a node of a port the weight its port gives it. -/
def nodeCfgWord (s : State) : NodeId → Nat
  | .port p => nodeCfg s (.port p) / 256 * 256
  | .pnode p k =>
    nodeCfg s (.pnode p k) / 256 * 256 +
      (if k = 0 ∨ (9 ≤ k ∧ k ≤ 12) then childWeight s p (.pnode p k) else if 1 ≤ k ∧ k ≤ 8 then leafWeight s p (.pnode p k) else 0)
  | n => nodeCfg s n

/-- SCH (R156 to R162). -/
def schVals (s : State) (sel : Nat → Nat) : Vals :=
  let n := nodeAt s (sel Reg.schSel)
  let get := fun (f : NodeId → Nat) => (n.map f).getD 0
  let status := fun (x : NodeId) =>
    flagAt (holdsFrame s x) 0 + flagAt (nodeEligible s x) 1 + flagAt (shaped s x) 2 + flagAt (nodePaused s x) 3
  let port := schPortAt s (sel Reg.schSel)
  [(Reg.schNodeCfg, .word (get (nodeCfgWord s))), (Reg.schNodeStatus, .word (get status)),
   (Reg.schNodeTokens, .word (get fun x => unsigned 32 (nodeOf s x).tokens)), (Reg.schNodeStart, .word (get (nodeStart s))),
   (Reg.schNodeVtime, .word (get (nodeVtime s))),
   (Reg.schNodeTxBytesLo, .wide (get fun x => ctrGet s Reg.schNodeTxBytesLo (nodeSel x))),
   (Reg.schPortRedOverLo, .wide ((port.map fun p => ctrGet s Reg.schPortRedOverLo (schPort p)).getD 0)),
   (Reg.schSubUsed, .word (subsUsed s))] ++
  ctrVals s [Reg.schPolGreenLo, Reg.schPolYellowLo, Reg.schPolRedLo] (fld (sel Reg.schPolSel) 0 14)

/-! ### POOL -/

/-- The counters of POOL. -/
def poolCtrs : List Nat :=
  [Reg.poolDropLo, Reg.poolMalformedLo, Reg.poolExcessLo, Reg.poolReseqDropLo, Reg.poolDupLo, Reg.poolCacheHitLo, Reg.poolCacheMissLo,
   Reg.poolCapSpillLo, Reg.poolBusyLo, Reg.poolHoldExpiredLo]

/-- The window that POOL_WIN_SEL selects. -/
def winSel (s : State) (sel : Nat → Nat) : Option Win := (wins s).find? fun w => w.id == fld (sel Reg.poolWinSel) 0 14

/-- The source that POOL_SRC_SEL selects, if the coat gives it credits. -/
def srcSel (s : State) (sel : Nat → Nat) : Option Nat :=
  let e := fld (sel Reg.poolSrcSel) 0 20
  if creditsOf s e = 0 then none else some e

/-- Codes of POOL_WIN_STATUS. -/
def mirCode : MirSt → Nat
  | .none => 0
  | .paired => 1
  | .single => 2
  | .resync => 3

/-- POOL (R194 to R199). -/
def poolVals (s : State) (sel : Nat → Nat) : Vals :=
  let w := winSel s sel
  let e := srcSel s sel
  [(Reg.poolHbmPinned, .word (pinnedMib s / 2)), (Reg.poolHbmCache, .word (cacheMib s)), (Reg.poolHbmRetired, .word (countBy s.ras.pcs fun p => p.2.st == 2)),
   (Reg.poolTrkUsed, .word (entriesUsed s)), (Reg.poolWinStatus, .word ((w.map fun x => mirCode (mirSt s x)).getD 0)),
   (Reg.poolWinResyncLo, .wide ((w.map fun x => (winSt s x.id).marked.length).getD 0)),
   (Reg.poolSrcStatus, .word ((e.map fun x => inFlight s x + 65536 * (srcOf s x).held.length).getD 0)),
   (Reg.poolSrcExpect, .word ((e.map fun x => (srcOf s x).expect).getD 0))] ++ ctrVals s poolCtrs 0

/-! ### COH -/

/-- The counters of COH. -/
def cohCtrs : List Nat :=
  [Reg.cohSnoopTxLo, Reg.cohRecallResendLo, Reg.cohRetryLo, Reg.cohPoisonReadLo, Reg.cohStaleWbLo, Reg.cohEvictIgnoredLo, Reg.cohAtomicLo,
   Reg.cohSfcHitLo, Reg.cohSfcMissLo, Reg.cohStaleInvLo]

/-- The slot that COH_EP_SEL selects: 0 to 1,023, in twin mode to 2,047. -/
def epSel (s : State) (sel : Nat → Nat) : Option Nat :=
  let i := fld (sel Reg.cohEpSel) 0 11
  if i < 1024 ∨ s.scr.role ≠ 0 then some i else none

/-- Codes of COH_EP_STATUS.STATE (R242). -/
def epCode : EpSt → Nat
  | .unregistered => 0
  | .registered => 1
  | .deregistering => 2
  | .failed => 3

/-- A snoop-filter record's word (R208): TAG, the line's number above its set; STALE; STATE. -/
def recWord (setsLog2 : Nat) (x : SfRec) : Nat := 32 * (x.line / 2 ^ setsLog2) + flagAt x.stale 4 + 4 * x.state

/-- COH (R239 to R244). -/
def cohVals (s : State) (sel : Nat → Nat) : Vals :=
  let slot := (epSel s sel).map (slotOf s)
  let status := fun (x : Slot) =>
    epCode x.st + (if x.st = .unregistered then 0 else 4 * x.setsLog2 + 64 * x.ways)
  let way := fld (sel Reg.cohSfSel) 12 4
  let set := fld (sel Reg.cohSfSel) 0 11
  let one := fun (x : Slot) => if set < 2 ^ x.setsLog2 ∧ way < x.ways then ((alGet x.recs (set, way)).map (recWord x.setsLog2)).getD 0 else 0
  [(Reg.cohStatus, .word (countBy s.coh.slots (fun p => p.2.st == .registered) + 4096 * countBy s.coh.slots fun p => p.2.st == .failed)),
   (Reg.cohPoisonUsed, .word (poisonUsed s)), (Reg.cohEpStatus, .word ((slot.map status).getD 0)),
   (Reg.cohEpLines, .word ((slot.map fun x => x.recs.length + 65536 * countBy x.recs fun r => r.2.state == 3).getD 0)),
   (Reg.cohSfRecLo, .wide ((slot.map one).getD 0))] ++ ctrVals s cohCtrs 0

end Sys2Proof.Machine
end

