-- ==== Sys2Proof/Machine/RegsB.lean ====
section
/-! DEFINITION. What the registers of DNS, TRW, GTH, SIV, TIL, HBMC and SEC read (spec/09 R304 to R310, spec/10 R347 to R352, spec/11
R380 to R385, spec/12 R417 to R424, spec/15 R497 to R502, spec/21 R622, R623). -/

namespace Sys2Proof.Machine

open Sys2Proof

/-! ### DNS -/

/-- The counters of DNS. -/
def dnsCtrs : List Nat :=
  [Reg.dnsHostWrLo, Reg.dnsMediaWrLo, Reg.dnsReadRetryLo, Reg.dnsSyncErrLo, Reg.dnsReconstructLo, Reg.dnsLostLo, Reg.dnsEraseStateLo,
   Reg.dnsRefreshLo, Reg.dnsMediaTimeoutLo, Reg.dnsMapMissLo]

/-- Stripes with a number of missing members. -/
def degraded (s : State) (n : Nat) : Nat := countBy s.dns.stripes fun p => p.2.missing.length == n

/-- DNS_STATUS (R307). -/
def dnsStatusWord (s : State) : Nat :=
  s.dns.st + flagAt (s.dns.stripes.any fun p => !p.2.missing.isEmpty) 2 + flagAt (!s.dns.trays.isEmpty && gcUrgent s) 3 +
    flagAt (gcLow s) 4 + flagAt (patrolBehind s) 5 + 64 * (denseUp s).length + 4096 * countBy s.dns.trays (fun t => t.2.st == 2) +
    flagAt s.dns.blocked 18 + flagAt s.dns.noStripes 19

/-- DNS_GEOM (R308): of the accepted geometry. -/
def dnsGeomWord (s : State) : Nat :=
  let g := denseGeom s
  if g.euCount = 0 then 0
  else flagAt g.pu64 0 + 2 * Nat.log2 (g.pages * if g.pu64 then 65536 else 16384) + 64 * Nat.log2 (stridesPerEu g)

/-- DNS (R304 to R310). -/
def dnsVals (s : State) (sel : Nat → Nat) : Vals :=
  let i := fld (sel Reg.dnsTraySel) 0 6
  let ep := denseTrayEp s i
  let t := dTrayOf s i
  let on := fun (n : Nat) => if ep.isSome then n else 0
  let counts := t.eus.map fun (e : Nat × EuSt) => e.2.count
  let retired := countBy t.eus fun e => e.2.st == 3
  let pos := (patrolSpots s).length
  [(Reg.dnsStatus, .word (dnsStatusWord s)), (Reg.dnsGeom, .word (dnsGeomWord s)), (Reg.dnsStripes, .word s.dns.stripes.length),
   (Reg.dnsFreeStripes, .word (freeStripes s)), (Reg.dnsDegraded1, .word (degraded s 1)), (Reg.dnsDegraded2, .word (degraded s 2)),
   (Reg.dnsPatrolPass, .word (ctrGet s Reg.dnsPatrolPass 0 % two32)), (Reg.dnsPatrolPos, .word (min 65535 (65536 * s.dns.patrolPos / max pos 1))),
   (Reg.dnsTrayStatus, .word (on (ep.getD 0 + 2 ^ 20 * t.st + flagAt t.blankCheck 23))), (Reg.dnsTrayEus, .word (on (t.euCount - retired))),
   (Reg.dnsTrayRetired, .word (on retired)), (Reg.dnsTrayWearMin, .word (on (counts.foldl min (counts.headD 0)))),
   (Reg.dnsTrayWearMax, .word (on (counts.foldl max 0))), (Reg.dnsTrayEndurance, .word (on t.endurance))] ++ ctrVals s dnsCtrs 0

/-! ### TRW -/

/-- The counters of TRW. -/
def trwCtrs : List Nat :=
  [Reg.trwContribLo, Reg.trwSpillLo, Reg.trwSpillWaitLo, Reg.trwLateLo, Reg.trwEpochRejectLo, Reg.trwStageBusyLo, Reg.trwGaugeExcessLo,
   Reg.trwRerunLo]

/-- Units of a kind in a service state. -/
def unitsIn (s : State) (kind st : Nat) : Nat := countBy (List.range (unitCounts.getD kind 0)) fun i => (unitOf s kind i).st == st

/-- TRW_GRP_STATUS (R350). -/
def grpStatusWord (s : State) (x : Grp) : Nat :=
  let g := grpSt s x.id
  g.e + 65536 * countBy g.epochs (fun e => !e.closed) + 2 ^ 18 * g.excluded.length + flagAt (grpUnsync s x.id) 30 +
    flagAt (inFrost s x.key.job) 31

/-- TRW (R347 to R352). -/
def trwVals (s : State) (sel : Nat → Nat) : Vals :=
  let g := grpIn (coat s) (fld (sel Reg.trwGrpSel) 0 14)
  let k := fld (sel Reg.trwGaugeSel) 0 14
  let u := if gaugeTarget s k = 0 then {} else gaugeOf s k
  [(Reg.trwUnits, .word (unitsIn s 3 0 + 128 * unitsIn s 3 2)), (Reg.trwStageUsed, .word (ceilDiv (stageUsed s) 1024)),
   (Reg.trwDescUsed, .word (descUsed s)), (Reg.trwGrpStatus, .word ((g.map (grpStatusWord s)).getD 0)),
   (Reg.trwGrpEpochs, .word ((g.map fun x => ctrGet s Reg.trwGrpEpochs x.id % two32).getD 0)), (Reg.trwGaugeValue, .word u.value),
   (Reg.trwGaugeNext, .word u.next), (Reg.trwGaugeState, .word u.epoch), (Reg.trwGaugeFired, .word (u.fired % two32))] ++ ctrVals s trwCtrs 0

/-! ### GTH and SIV -/

/-- The counters of GTH that no selection governs. -/
def gthCtrs : List Nat := [Reg.gthReqLo, Reg.gthLinesLo, Reg.gthRunsLo, Reg.gthOorLo, Reg.gthMissLo]

/-- GTH (R380 to R384). -/
def gthVals (s : State) (sel : Nat → Nat) : Vals :=
  let g := grpIn (coat s) (fld (sel Reg.gthRubSel) 0 14)
  let w := sel Reg.gthStragSel
  let h := (grpIn (coat s) (fld w 0 14)).filter fun x => fld w 14 12 < x.table.length
  let r := fld w 14 12
  let strag := fun (x : Grp) =>
    let st := grpSt s x.id
    min 255 (alGetD st.lateRun r 0) + flagAt (st.flagged.contains r) 8 + flagAt (st.excluded.contains r) 9
  let ctr := fun (a : Nat) => (g.map fun x => ctrGet s a x.id).getD 0
  [(Reg.gthUnits, .word (unitsIn s 4 0 + 32 * unitsIn s 4 2)),
   (Reg.gthRubStatus, .word ((g.map fun x => (grpSt s x.id).rubEpoch + 65536 * min 65535 (grpSt s x.id).ring.length).getD 0)),
   (Reg.gthRubNonfiniteLo, .wide (ctr Reg.gthRubNonfiniteLo)), (Reg.gthRubParamStaleLo, .wide (ctr Reg.gthRubParamStaleLo)),
   (Reg.gthStragState, .word ((h.map strag).getD 0)),
   (Reg.gthStragEp, .word ((h.map fun x => ((x.table[r]?).map ContribEnt.ep).getD 0).getD 0))] ++ ctrVals s gthCtrs 0

/-- The counters of SIV. -/
def sivCtrs : List Nat :=
  [Reg.sivReqLo, Reg.sivRecordsLo, Reg.sivPassedLo, Reg.sivTopkSlowLo, Reg.sivTwoPassLo, Reg.sivTruncLo, Reg.sivNanLo]

/-- SIV (R385). -/
def sivVals (s : State) : Vals := (Reg.sivUnits, .word (unitsIn s 5 0 + 32 * unitsIn s 5 2)) :: ctrVals s sivCtrs 0

/-! ### TIL -/

/-- The counters of TIL that no selection governs. -/
def tilCtrs : List Nat :=
  [Reg.tilInvokedLo, Reg.tilArrayCyclesLo, Reg.tilDma64bLo, Reg.tilRerunLo, Reg.tilSramEccCorrLo, Reg.tilHostOpsLo, Reg.tilBusyLo]

/-- The effective step: the lowest of its sources (R636). -/
def effStep (s : State) : Nat :=
  let b := if s.pwr.board then coatFld s Reg.pwrCfg 0 26 4 else 16
  let f := if s.pwr.forceStep = 0 then 16 else s.pwr.forceStep
  min (min s.pwr.powerStep s.pwr.thermalStep) (min b f)

/-- TIL_STATUS (R419). -/
def tilStatusWord (s : State) : Nat :=
  unitsIn s 2 0 + 128 * unitsIn s 2 1 + 2 ^ 14 * unitsIn s 2 2 + 2 ^ 21 * ((rubTiles (coat s)).foldl addOnce []).length +
    2 ^ 28 * (effStep s % 16)

/-- TIL_TILE_STATUS (R424). -/
def tileWord (s : State) (t : Nat) : Nat :=
  let u := (unitOf s 2 t).st
  if 80 ≤ t then 0
  else if u ≠ 0 then u + 2
  else if (rubTiles (coat s)).contains t then 2
  else
    match s.til.invs.find? fun v => v.on t with
    | some v => 1 + 8 * v.slot + 2 ^ 13
    | none => 0

/-- TIL_PROG_CFG (R422). -/
def progCfgWord (p : ProgEnt) : Nat := p.first + 128 * p.count + 2 ^ 14 * (p.conc % 64) + 2 ^ 20

/-- A key as its register lays it out. -/
def keyWord (k : Key) : Nat := k.tenant + 4096 * k.job + flagAt k.world 28

/-- TIL (R417 to R424). -/
def tilVals (s : State) (sel : Nat → Nat) : Vals :=
  let n := fld (sel Reg.tilProgSel) 0 10
  let st := progSt s n
  let p := st.serving
  let get := fun (f : ProgEnt → Nat) => (p.map f).getD 0
  let set := fun (f : ProgEnt → Nat) => (((coat s).tile.progs.find? fun e => e.slot == n).map f).getD 0
  let t := fld (sel Reg.tilTileSel) 0 7
  let status := fun (e : ProgEnt) => st.code + 8 * partsOf e + 2 ^ 10 * (leAt e.image 5 1) + 2 ^ 18 * (leAt e.image 4 1 % 16)
  let hostOp := fun (e : ProgEnt) => ((frHostOps e.image)[fld (sel Reg.tilProgSel) 10 16]?).getD 0x1FFFF
  let mem := fun (e : ProgEnt) => ceilDiv (16777216 + frConstBytes e.image + concOf e * frTempBytes e.image) 1048576
  [(Reg.tilVersion, .word 0x100), (Reg.tilStatus, .word (tilStatusWord s)),
   (Reg.tilLoad, .word (countBy s.til.invs (fun v => v.started.isSome) + 2 ^ 13 * countBy s.til.invs fun v => v.started.isNone)),
   (Reg.tilProgCfg, .word (set progCfgWord)), (Reg.tilProgKey, .word (set fun e => keyWord e.key)), (Reg.tilProgStatus, .word (get status)),
   (Reg.tilProgOps, .word (get fun e => frOps e.image)), (Reg.tilProgHost, .word (get fun e => (frHostOps e.image).length)),
   (Reg.tilProgHostop, .word (get hostOp)), (Reg.tilProgMem, .word (set mem)),
   (Reg.tilProgInvokedLo, .wide (get fun _ => ctrGet s Reg.tilProgInvokedLo n)), (Reg.tilTileStatus, .word (tileWord s t)),
   (Reg.tilTileBusyLo, .wide (if t < 80 then ctrGet s Reg.tilTileBusyLo t else 0))] ++ ctrVals s tilCtrs 0

/-! ### HBMC -/

/-- HBMC_STACK_STATUS (R623). -/
def stackWord (s : State) (k : Nat) : Nat :=
  let gone := countBy s.ras.pcs fun p => p.1 / 64 == k && p.2.st == 2
  let st := if (unitOf s 6 k).st ≠ 0 then 1 else if gone = 64 then 2 else 0
  st + 4 * gone + 512 * unsigned 8 (s.pwr.hbmTemps.getD k 0)

/-- HBMC (R622). How the bytes moved spread over the stacks is not given: the counters of a stack are readings (log entry 151). -/
def hbmcVals (s : State) (sel : Nat → Nat) : Vals :=
  let k := fld (sel Reg.hbmcSel) 0 3
  [(Reg.hbmcStackStatus, .word (stackWord s k)), (Reg.hbmcRdBytesLo, .wide (Config.reading Reg.hbmcRdBytesLo k s.pool.rdBytes % two64)),
   (Reg.hbmcWrBytesLo, .wide (Config.reading Reg.hbmcWrBytesLo k s.pool.wrBytes % two64))]

/-! ### SEC -/

/-- The counters of SEC. -/
def secCtrs : List Nat :=
  [Reg.secRngBytesLo, Reg.secRngHealthFailLo, Reg.secWorldViolLo, Reg.secKeyRefusedLo, Reg.secRekeyBytesLo]

/-- Codes of SEC_STATUS.RNG (R498). -/
def rngCode : Rng → Nat
  | .testing => 0
  | .ready => 1
  | .retesting => 2
  | .failed => 3

/-- Codes of SEC_KEY_STATUS.STATE (R501). -/
def keyCode : KeySt → Nat
  | .empty => 0
  | .pending => 1
  | .active => 2
  | .rotating => 3

/-- The twelve words of a 384-bit digest from a base address, bytes 0 to 3 first. -/
def digestVals (base d : Nat) : Vals := (List.range 12).map fun n => (base + 4 * n, .word (fld d (32 * (11 - n)) 32))

/-- SEC_BLOCK_WORLD (R500): bits 13 and 15 always read 1. -/
def blockWorld (s : State) : Nat := coatReg s Reg.secBlockWorld 0 ||| 0xA000

/-- SEC (R497 to R502). -/
def secVals (s : State) (sel : Nat → Nat) : Vals :=
  let k := keySlotOf s (fld (sel Reg.secKeySel) 0 12)
  let on := fun (n : Nat) => if k.st = .empty then 0 else n
  [(Reg.secStatus, .word (rngCode s.sec.rng + flagAt s.sec.debug 2 + flagAt (bringup s) 3 + flagAt s.sec.signDisabled 4 + 32 * s.sec.sessions.length)),
   (Reg.secBlockWorld, .word (blockWorld s)), (Reg.secSpdmVendor, .word Config.spdmVendor.toNat),
   (Reg.secKeyStatus, .word (on (keyCode k.st + flagAt (k.kind == 1) 2 + flagAt k.pair.isSome 3 + 16 * k.gen))),
   (Reg.secKeyOwner, .word (on (k.owner % 65536 + 65536 * k.members))), (Reg.secKeyApplyLo, .wide (on k.applySlot)),
   (Reg.secKeyCursorWin, .word (on k.curWin)), (Reg.secKeyCursorLo, .wide (on k.curOff))] ++
  digestVals Reg.secDevid0 (ownDigest s) ++ ctrVals s secCtrs 0

end Sys2Proof.Machine
end

