-- ==== Sys2Proof/Machine/RegsC.lean ====
section
/-! DEFINITION. What the registers of SCR, CFG, RAS, TEL and PWR read (spec/16 R522 to R526, spec/17 R550 to R555, spec/18 R576 to R583,
spec/20 R598, R600, R603 to R606, spec/22 R651 to R656). -/

namespace Sys2Proof.Machine

open Sys2Proof

/-! ### SCR -/

/-- The counters of SCR. -/
def scrCtrs : List Nat := [Reg.scrTxBytesLo, Reg.scrRxBytesLo, Reg.scrReplayLo, Reg.scrBackoffLo, Reg.scrShadowWaitLo]

/-- Codes of SCR_STATUS.STATE (R524). -/
def pairCode : PairSt → Nat
  | .solo => 0
  | .training => 1
  | .paired => 2
  | .alone => 3
  | .held => 4
  | .rejoining => 5

/-- SCR (R522 to R526). SCR_CFG.ROLE comes from the twin section. -/
def scrVals (s : State) : Vals :=
  [(Reg.scrCfg, .word (coatReg s Reg.scrCfg 0 / 4 * 4 + s.scr.role)),
   (Reg.scrStatus, .word (pairCode s.scr.st + flagAt s.scr.partnerAlive 3 + 16 * bitsOf s.scr.groups)),
   (Reg.scrShadowUsed, .word (ceilDiv s.scr.dirtyShadow.length 8192))] ++ digestVals Reg.scrPartnerDevid0 s.scr.partnerDevid ++
  ctrVals s scrCtrs 0

/-! ### CFG -/

/-- The counters of CFG. -/
def cfgCtrs : List Nat := [Reg.cfgAppliedLo, Reg.cfgStrippedLo, Reg.cfgRejectedLo]

/-- Codes of CFG_STATUS.STATE (R552). -/
def coatCode : CoatSt → Nat
  | .noCoat => 0
  | .booting => 1
  | .curing => 2
  | .cured => 3
  | .draining => 4

/-- CFG_STATUS (R552). -/
def cfgStatusWord (s : State) : Nat :=
  coatCode s.cfg.st + 8 * s.cfg.dir.active + flagAt s.cfg.pending.isSome 5 + flagAt (s.cfg.pending.any Patch.staged) 6 +
    flagAt (!s.cfg.writing.isEmpty) 7 + 256 * s.cfg.primary + 1024 * s.cfg.recovery +
    flagAt (s.cfg.active.any fun c => Config.sha384 c.pubkey == Config.bringupKeyDigest) 12

/-- CFG_SHEET_STATUS of a unit (R554). -/
def sheetWord (s : State) (kind index : Nat) : Nat :=
  if okUnit kind index then (unitOf s kind index).st + 4 * (unitOf s kind index).reason else 0

/-- CFG (R550 to R555). -/
def cfgVals (s : State) (sel : Nat → Nat) : Vals :=
  let w := sel Reg.cfgSheetSel
  let serialOf := fun (c : Option Coat) => (c.map Coat.serial).getD 0
  let keys := s.nv.ownerKeys
  [(Reg.cfgStatus, .word (cfgStatusWord s)), (Reg.cfgSerial, .word (serialOf s.cfg.active)),
   (Reg.cfgPrevSerial, .word (if s.cfg.st = .curing then serialOf s.cfg.previous else 0)), (Reg.cfgHighWater, .word s.cfg.dir.highWater),
   (Reg.cfgCureLeft, .word (if s.cfg.st = .curing then (s.cfg.cureEndTick - tickNow s) / 500000 else 0)),
   (Reg.cfgChecks, .word (bitsOf (checksPassed s) + 256 * bitsOf s.cfg.failed)),
   (Reg.cfgPending, .word ((s.cfg.pending.map fun p => p.image.coat.serial).getD 0)),
   (Reg.cfgPendingSlotLo, .wide ((s.cfg.pending.map fun p => p.image.applySlot).getD 0)),
   (Reg.cfgOwnerKeys, .word (bitsOf (keys.map Prod.fst) + 16 * bitsOf ((keys.filter fun k => k.2.revoked).map Prod.fst))),
   (Reg.cfgSheetStatus, .word (sheetWord s (fld w 0 4) (fld w 4 11)))] ++ ctrVals s cfgCtrs 0

/-! ### RAS -/

/-- The counters of RAS. -/
def rasCtrs : List Nat :=
  [Reg.rasTransientLo, Reg.rasPermanentLo, Reg.rasHbmCeLo, Reg.rasHbmUeLo, Reg.rasPoisonSetLo, Reg.rasPoisonClearLo, Reg.rasFrostLo,
   Reg.rasSelftestPassLo, Reg.rasSelftestFailLo, Reg.rasSelftestBusyLo]

/-- Whether a unit that is tested periodically was last tested more than PERIOD_H ago (R573). -/
def testBehind (s : State) : Bool :=
  let ticks := 1800000000000 * coatFld s Reg.rasSelftestCfg 0 0 8
  bit (coatReg s Reg.rasSelftestCfg 0) 8 && ticks < tickNow s &&
    testKinds.any fun k => (if k = 9 then hostOpCores s else List.range (unitCounts.getD k 0)).any fun i =>
      inService s k i && ticks < tickNow s - (unitOf s k i).tested

/-- Whether an idle spare lane's last full calibration is older than 24 h (R573). -/
def calibrationBehind (s : State) : Bool :=
  (List.range 64).any fun g =>
    let n := baseLane s + 512 + g
    (laneOf s n).role == .idleSpare && dayTicks < tickNow s - alGetD s.lnk.calibrated n 0

/-- RAS_BG_BEHIND (R573, R580). -/
def behindBits (s : State) : Nat :=
  let cold := 2 * coldTicks s
  let waits := s.dns.map.any fun (e : Nat × MapEnt) => e.2.st == .landed && cold < tickNow s - (capUnitOf s e.1).lastWrite
  let single := capPair s && s.pool.capUnits.any fun (u : Nat × CapUnit) => (goodCopies s u.1).length == 1
  let marked := s.pool.wins.any fun (w : Nat × WinSt) => !w.2.marked.isEmpty
  flagAt (patrolBehind s) 0 + flagAt (gcLow s) 1 + flagAt (s.dns.stripes.any fun (p : Nat × Stripe) => !p.2.missing.isEmpty) 2 + flagAt waits 3 +
    flagAt (single || marked) 4 + flagAt (s.sec.keys.any fun (k : Nat × KeySlot) => k.2.st == .rotating) 5 + flagAt (testBehind s) 6 +
    flagAt s.tel.snapDue 7 + flagAt (calibrationBehind s) 8

/-- RAS_JOB_STATUS (R582). -/
def jobWord (s : State) (job : Nat) : Nat :=
  let j := jobSt s job
  flagAt j.frost 0 + flagAt j.swept 1 + flagAt j.remote 2 + 8 * j.cause

/-- RAS_PC_STATUS (R583). -/
def pcWord (s : State) (pc : Nat) : Nat :=
  let p := pcOf s pc
  p.st + 4 * p.spare + 512 * min p.ceLast 4095 + 2 ^ 21 * min 63 (countBy p.ueRows fun r => withinDay s r.2)

/-- RAS (R576 to R583). -/
def rasVals (s : State) (sel : Nat → Nat) : Vals :=
  let job := fld (sel Reg.rasJobSel) 0 16
  let frozen := countBy s.ras.jobs fun j => j.2.frost
  [(Reg.rasStatus, .word (min frozen 65535 + 65536 * s.nv.retired.length + flagAt (2048 ≤ s.nv.retired.length) 28)), (Reg.rasBgBehind, .word (behindBits s)),
   (Reg.rasJobStatus, .word (jobWord s job)), (Reg.rasJobOrigin, .word (jobSt s job).origin), (Reg.rasJobSerial, .word (jobSt s job).serial),
   (Reg.rasPcStatus, .word (pcWord s (fld (sel Reg.rasPcSel) 0 9)))] ++ ctrVals s rasCtrs 0

/-! ### TEL -/

/-- The counters of TEL. -/
def telCtrs : List Nat := [Reg.telDevRxBytesLo, Reg.telDevTxBytesLo, Reg.telLogOverflowLo, Reg.telSnapSkippedLo]

/-- The 32 bytes of a log entry (R598); DETAIL right-aligned, zero where it is hidden (R600). -/
def entryBytes (e : LogEntry) (hide : Bool) : List Byte :=
  beBytes 8 e.time ++ beBytes 1 e.block ++ beBytes 1 e.cls ++ beBytes 2 e.code ++ beBytes 4 e.seq ++ beBytes 4 e.unit ++ beBytes 2 e.rept ++
    (if hide then List.replicate 10 0 else List.replicate (10 - e.detail.length) 0 ++ e.detail.take 10)

/-- The entry at a position of the log (R603). -/
def entryAt (s : State) (pos : Nat) : Option LogEntry := s.tel.log.find? fun e => e.seq % 65536 == pos

/-- Whether a block is secure (R464). -/
def blockSecure (s : State) (b : Nat) : Bool := bit (blockWorld s) b

/-- TEL (R603 to R606), read from a world. -/
def telVals (s : State) (secure : Bool) (sel : Nat → Nat) : Vals :=
  let bytes := match entryAt s (fld (sel Reg.telLogSel) 0 16) with
    | some e => entryBytes e (!secure && blockSecure s e.block)
    | none => []
  [(Reg.telStatus, .word (s.tel.log.length + flagAt s.tel.snap.isSome 17)), (Reg.telLogNext, .word s.tel.next), (Reg.telSnapSeq, .word s.tel.snapSeq)] ++
  ((List.range 8).map fun n => (Reg.telLogData0 + 4 * n, Val.word (beAt bytes (4 * n) 4))) ++ ctrVals s telCtrs 0

/-! ### PWR -/

/-- The hottest of a list and the first index it stands at. -/
def hottest (l : List Int) : Int × Nat :=
  match l with
  | [] => (0, 0)
  | t :: r => (r.foldl (fun (b : (Int × Nat) × Nat) x => (if b.1.1 < x then (x, b.2) else b.1, b.2 + 1)) ((t, 0), 1)).1

/-- PWR_STATUS (R653). -/
def pwrStatusWord (s : State) : Nat :=
  effStep s % 16 + 16 * (s.pwr.powerStep % 16) + 256 * (s.pwr.thermalStep % 16) + flagAt s.pwr.board 12 + flagAt s.pwr.hostHalf 13

/-- PWR (R651 to R656). The rails' measured voltage and current are readings (log entry 151). -/
def pwrVals (s : State) : Vals :=
  let hot := hottest s.pwr.temps
  let temp := fun (i : Nat) => unsigned 8 (s.pwr.temps.getD i 0)
  [(Reg.pwrStatus, .word (pwrStatusWord s)), (Reg.pwrResetCause, .word (bitsOf s.pwr.cause)),
   (Reg.pwrRailFault, .word (bitsOf s.pwr.under + 65536 * bitsOf s.pwr.ovr)), (Reg.pwrStraps, .word s.pwr.straps.toNat),
   (Reg.pwrPkgPower, .word (s.pwr.watts % 4096 + 65536 * (s.pwr.windows.foldl max 0 % 4096))),
   (Reg.pwrTempMax, .word (unsigned 8 hot.1 + 256 * hot.2 + 65536 * unsigned 8 (hottest s.pwr.hbmTemps).1)),
   (Reg.pwrPcieId, .word (Config.pcieVendor.toNat + 65536 * 0x1024)), (Reg.pwrThrottledUsLo, .wide s.pwr.throttledUs),
   (Reg.pwrFuseCtrl, .word s.pwr.fuseKey), (Reg.pwrFuseStatus, .word (flagAt s.pwr.fuseBusy 0 + 2 * s.pwr.fuseResult)),
   (Reg.pwrTest, .word s.pwr.forceStep)] ++
  ((List.range 8).map fun n => (Reg.pwrTemp0 + 4 * n, Val.word (sumBy (List.range 4) fun k => 2 ^ (8 * k) * temp (4 * n + k)))) ++
  ((List.range 14).map fun n => (Reg.pwrRail0 + 4 * n, Val.word (Config.reading Reg.pwrRail0 n (tickNow s) % 2 ^ 28))) ++
  (List.range 12).map fun n => (Reg.pwrFuseData0 + 4 * n, Val.word (alGetD s.pwr.fuseData n 0).toNat)

/-- The address that the device answers at on the sensor bus (R630, R646). -/
def sensorAddress (s : State) : Nat := if s.pwr.straps.getLsbD 3 then 0x4D else 0x4C

/-- The bytes of the sensor bus (R646), from byte 0: the hottest junction, the hottest HBM stack, the power, the effective step, the flags. No
command reads them (log entry 242). -/
def sensorBytes (s : State) : List Byte :=
  beBytes 1 (unsigned 8 (hottest s.pwr.temps).1) ++ beBytes 1 (unsigned 8 (hottest s.pwr.hbmTemps).1) ++ beBytes 2 (s.pwr.watts % 4096) ++
    beBytes 1 (effStep s) ++ beBytes 1 (flagAt s.pwr.stopped 0 + flagAt s.cfg.forwarding 1 + flagAt s.cfg.poolReady 2 +
      flagAt (evtBit s Reg.pwrEventStatus 4) 3)

end Sys2Proof.Machine
end

