-- ==== Sys2Proof/Machine/PwrOps.lean ====
section
/-! DEFINITION. Power, reset and fuses (spec/22 R626 to R638, R648): stopping, reset and its release, the throttle steps, the owner-key
fuses. -/

namespace Sys2Proof.Machine

open Sys2Proof

/-- The power fields changed. -/
def setPwr (s : State) (f : Pwr → Pwr) : State := { s with pwr := f s.pwr }

/-! ### Reset (R628, R629) -/

/-- Reset clears every register, counter, log and volatile key; the flash, the fuses and what the trays hold stay, and the registers of
the always-on domain. -/
def clearAll (s : State) : State :=
  let was := s.scr.wasReset || s.scr.st == .paired || s.scr.st == .alone || s.scr.st == .held || s.scr.st == .rejoining
  { nv := s.nv, out := s.out, swc := { handed := s.out.length }, freeCtr := s.freeCtr, pending := s.pending, scr := { wasReset := was },
    pwr := { stopped := s.pwr.stopped, resetLow := s.pwr.resetLow, cause := s.pwr.cause, under := s.pwr.under, ovr := s.pwr.ovr } }

/-- RESET_N falls (R628): a reset by RESET_N alone has cause RESET_PIN (R655); after a stop it arms the release. -/
def resetFalls (s : State) : State :=
  if s.pwr.inReset then setPwr s fun p => { p with resetLow := true }
  else clearAll (setPwr s fun p => { p with resetLow := true, cause := [1] })

/-- The device leaves reset (R628): the straps are sampled, GLB_UPTIME counts from here, layer 0 of DICE is done (R470). A device
that stopped stays in reset until RESET_N has been driven low (R626). -/
def released (s : State) (straps : BitVec 4) : State :=
  if s.pwr.inReset = false ∨ s.pwr.resetLow = false then s
  else
    let was := s.pwr.stopped
    let s := setPwr s fun p => { p with inReset := false, stopped := false, resetLow := false, straps }
    let s := if was then emits s [.pin .faultN true, .pin .thermtripN true] else s
    let s := { s with mgmt := { s.mgmt with pcieUp := straps.getLsbD 2 } }
    setSec s fun x => { x with deviceKey := Config.publicKeyOf (cdi0 s), nvmKey := Config.hmac384 (cdi0 s) [0x4E, 0x56, 0x4D] }

/-- The device stops at once (R626, R632, R638): transmitters squelched, FAULT_N low, work in flight lost, held in reset until RESET_N
has been driven low and released. A cause that comes while it is stopped is added (R650). -/
def stopDevice (s : State) (cause : Nat) (trip : Bool) : State :=
  if s.pwr.inReset ∧ s.pwr.stopped = false then s
  else if s.pwr.inReset then setPwr s fun p => { p with cause := addOnce p.cause cause }
  else
    let s := emits s ([.squelch, .pin .faultN false] ++ if trip then [.pin .thermtripN false] else [])
    clearAll (setPwr s fun p => { p with stopped := true, resetLow := false, cause := [cause] })

/-- A rail fault (R626): recorded in PWR_RAIL_FAULT. -/
def railFaults (s : State) (rail : Nat) (ovr : Bool) : State :=
  if s.pwr.inReset ∧ s.pwr.stopped = false then s
  else
    let first := !s.pwr.inReset || !s.pwr.cause.contains 2
    let s := setPwr s fun p =>
      { p with under := (if first then [] else p.under) ++ (if ovr then [] else [rail]),
               ovr := (if first then [] else p.ovr) ++ (if ovr then [rail] else []) }
    stopDevice s 2 false

/-- PERST_N resets the PCIe endpoint, with its mailbox, alone (R628). -/
def pcieResets (s : State) : State :=
  { s with mgmt := { s.mgmt with mbxBusy := false, mbxDone := false, mbxResponse := none } }

/-- A SerDes chiplet loses its reference: every lane of it loses lock (R632, R640), which R78 handles. -/
def chipletLost (s : State) (c : Nat) : State :=
  let lanes := ((List.range 64).map fun i => baseLane s + 64 * c + i) ++ (List.range 8).map fun i => baseLane s + 512 + 8 * c + i
  lanes.foldl (fun s n => if (laneOf s n).role = .retired then s else setLane s n fun l => { l with lock := false, losArmed := true }) s

/-! ### The step (R636, R637) -/

/-- An event of the PWR block, of class 4. -/
def pwrEvent (s : State) (bitNo : Nat) : State := raise s Reg.pwrEventStatus bitNo 4 noUnit []

/-- After a change of the steps: THROTTLED where the effective step falls below 16. -/
def stepChanged (before s : State) : State :=
  if effStep before = 16 ∧ effStep s < 16 then raise s Reg.tilEventStatus 4 4 noUnit [] else s

/-- The host cores return to 3.0 GHz in the tick after the step rises above 1 (R637). -/
def coresReturn (s : State) : State := if 1 < effStep s ∧ s.pwr.hostHalf then setPwr s fun p => { p with hostHalf := false } else s

/-- PWR_LIMIT_W. -/
def pwrLimit (s : State) : Nat := coatFld s Reg.pwrCfg 0 0 12

/-- A power window of 100 µs ends: POWER_STEP falls, rises after ten windows at or below the limit less 50 W, or halves where a
VDD_TILE rail exceeded 420 A. -/
def powerWindowEnds (s : State) (watts : Nat) (tileOver : Bool) : State :=
  let p := s.pwr
  let calm := if watts + 50 ≤ pwrLimit s then p.powerCalm + 1 else 0
  let down := if pwrLimit s < watts then max 1 (p.powerStep - 1) else p.powerStep
  let up := if calm = 10 then min 16 (down + 1) else down
  let step := if tileOver then max 1 (up / 2) else up
  let us := p.throttledUs + (if effStep s < 16 then 100 else 0)
  let t := setPwr s fun p =>
    { p with watts, windows := (p.windows ++ [watts]).drop (p.windows.length - 9999), powerStep := step,
             powerCalm := if calm = 10 then 0 else calm, throttledUs := us % two64 }
  stepChanged s (if p.powerStep = 16 ∧ step < 16 then pwrEvent t 0 else t)

/-- The temperatures are judged, every 100 µs: THERMAL_STEP falls, or rises after ten calm checks. -/
def thermalJudged (s : State) (tj hbm : List Int) : State :=
  let p := s.pwr
  let tl : Int := coatFld s Reg.pwrCfg 0 12 7
  let hl : Int := coatFld s Reg.pwrCfg 0 19 7
  let hot := tj.any (fun t => decide (tl ≤ t)) || hbm.any fun t => decide (hl ≤ t)
  let cool := tj.all (fun t => decide (t ≤ tl - 3)) && hbm.all fun t => decide (t ≤ hl - 3)
  let calm := if cool then p.thermalCalm + 1 else 0
  let down := if hot then max 1 (p.thermalStep - 1) else p.thermalStep
  let step := if calm = 10 then min 16 (down + 1) else down
  let t := setPwr s fun p =>
    { p with temps := tj, hbmTemps := hbm, thermalStep := step, thermalCalm := if calm = 10 then 0 else calm }
  stepChanged s (if p.thermalStep = 16 ∧ step < 16 then pwrEvent t 1 else t)

/-- THROTTLE_N changes: BOARD_STEP applies while it is low. -/
def boardThrottle (s : State) (low : Bool) : State :=
  let t := setPwr s fun p => { p with board := low }
  stepChanged s (if low ∧ s.pwr.board = false then pwrEvent t 2 else t)

/-- Whether the power or the thermal source still calls for a lower step: the last window above PWR_LIMIT_W, or a sensor at its limit (R636,
R637). -/
def callsLower (s : State) : Bool :=
  decide (pwrLimit s < s.pwr.watts) || s.pwr.temps.any (fun t => decide ((coatFld s Reg.pwrCfg 0 12 7 : Int) ≤ t)) ||
    s.pwr.hbmTemps.any fun t => decide ((coatFld s Reg.pwrCfg 0 19 7 : Int) ≤ t)

/-- The host cores run at 1.5 GHz where the effective step has been 1 for 1 ms and a source still calls for a lower one (R637). -/
def hostSlows (s : State) : State :=
  if effStep s = 1 ∧ callsLower s = true ∧ s.pwr.hostHalf = false then pwrEvent (setPwr s fun p => { p with hostHalf := true }) 3 else s

/-- Package power 10 ms after the host cores slowed (R637). -/
def powerRunsOn (s : State) (watts : Nat) : State :=
  if s.pwr.hostHalf ∧ pwrLimit s < watts then pwrEvent s 4 else s

/-! ### Owner-key fuses (R648, R656) -/

/-- The digest in PWR_FUSE_DATA_0 to _11. -/
def fuseWords (s : State) : Nat := sumBy (List.range 12) fun n => (alGetD s.pwr.fuseData n 0).toNat * 2 ^ (32 * (11 - n))

/-- A word written to PWR_FUSE_CTRL in bring-up mode: KEY is kept; GO starts programming, or finds the key programmed; while BUSY it is
ignored. -/
def fuseCtrl (s : State) (v : Nat) : State :=
  if s.pwr.fuseBusy ∧ bit v 31 then s
  else
    let key := v % 4
    let s := setPwr s fun p => { p with fuseKey := key }
    if !bit v 31 then s
    else if (alGet s.nv.ownerKeys key).isSome then setPwr s fun p => { p with fuseResult := 1 }
    else
      let d := fuseWords s
      setPwr s fun p => { p with fuseBusy := true, fuseDigest := d, fuseProg := key }

/-- Programming ends and the fuse is read back. -/
def fuseEnds (s : State) (matched : Bool) : State :=
  if s.pwr.fuseBusy then
    let k : OwnerKey := { digest := if matched then some s.pwr.fuseDigest else none }
    let s := { s with nv := { s.nv with ownerKeys := alSet s.nv.ownerKeys s.pwr.fuseProg k } }
    setPwr s fun p => { p with fuseBusy := false, fuseResult := if matched then 0 else 2 }
  else s

end Sys2Proof.Machine
end

