-- ==== Sys2Proof/Machine/Registers.lean ====
section
/-! DEFINITION. Register accesses (spec/21 R607 to R617): what an access path reads at an address, with its selections and its _HI latches
(R593, R614); writes and writes ignored (R7, R464, R607, R659); REG_READ and REG_WRITE (R611 to R613). -/

namespace Sys2Proof.Machine

open Sys2Proof

/-- The register at an address, if there is one (R607). -/
def regAccess (s : State) (a : Nat) : Option Access :=
  if 0x02000000 ≤ a ∧ a < 0x04000000 then (if lnkThere s a then accessOf a else none) else accessOf a

/-- What a path has selected (R614). -/
def selOf (s : State) (path : Path) (reg : Nat) : Nat := (alGetD s.mgmt.sels (path, reg) 0).toNat

/-- Whether a path's accesses are of the secure world (R608). -/
def pathSecure : Path → Bool
  | .session _ => true
  | .firmware => true
  | _ => false

/-- The _HI registers of pairs whose fields are COAT. -/
def coatHis : List Nat :=
  [Reg.almStartTimeHi, Reg.schPortDefWHi, Reg.poolWinBaseHi, Reg.poolWinSizeHi, Reg.poolWinMbaseHi, Reg.trwGrpElemsHi, Reg.trwGrpResultHi,
   Reg.gthRubWHi, Reg.gthRubMHi, Reg.gthRubVHi, Reg.gthRubParamHi]

/-- The selector of a COAT register under a path's selections; none where the selection names nothing. -/
def coatSel (s : State) (sel : Nat → Nat) (a : Nat) : Option Nat :=
  let within := fun (lo hi : Nat) => lo ≤ a && a ≤ hi
  if a = Reg.swcQCfg ∨ a = Reg.swcQEcn then (queueSel s sel).map fun q => qSel q.1 q.2
  else if a = Reg.swcPortPfc then some (fld (sel Reg.swcQSel) 0 10)
  else if within Reg.schNodeCfg Reg.schNodeKey then (nodeAt s (sel Reg.schSel)).map nodeSel
  else if within Reg.schPortCfg Reg.schPortDefWHi then (schPortAt s (sel Reg.schSel)).map schPort
  else if within Reg.schPolCfg Reg.schPolPbs then some (fld (sel Reg.schPolSel) 0 14)
  else if within Reg.poolWinBaseLo Reg.poolWinMbaseHi then (winSel s sel).map Win.id
  else if a = Reg.poolSrcCfg then srcSel s sel
  else if a = Reg.cohEpCfg then epSel s sel
  else if within Reg.trwGrpCfg Reg.trwGrpReserve then (grpIn (coat s) (fld (sel Reg.trwGrpSel) 0 14)).map Grp.id
  else if within Reg.trwGaugeCfg Reg.trwGaugeFwd then
    let k := fld (sel Reg.trwGaugeSel) 0 14
    if gaugeTarget s k = 0 then none else some k
  else if within Reg.gthRubCfg Reg.gthRubRing then (grpIn (coat s) (fld (sel Reg.gthRubSel) 0 14)).map Grp.id
  else some 0

/-- A COAT register as it reads: LOSSLESS is always 0 for a privileged class (R133). -/
def coatWord (s : State) (sel : Nat → Nat) (a : Nat) : Nat :=
  let w := ((coatSel s sel a).map (coatReg s a)).getD 0
  if a = Reg.swcQCfg ∧ 8 ≤ fld (sel Reg.swcQSel) 10 4 ∧ bit w 20 then w - 2 ^ 20 else w

/-- The table of the block that holds an address. -/
def blockVals (s : State) (secure : Bool) (sel : Nat → Nat) (a : Nat) : Vals :=
  match (blockOf a).getD 19 with
  | 0 => glbVals s sel
  | 1 => almVals s sel
  | 3 => swcVals s sel
  | 4 => schVals s sel
  | 5 => poolVals s sel
  | 6 => cohVals s sel
  | 7 => dnsVals s sel
  | 8 => trwVals s sel
  | 9 => gthVals s sel
  | 10 => sivVals s
  | 11 => tilVals s sel
  | 12 => hbmcVals s sel
  | 13 => secVals s sel
  | 14 => scrVals s
  | 15 => cfgVals s sel
  | 16 => rasVals s sel
  | 17 => telVals s secure sel
  | 18 => pwrVals s
  | _ => []

/-- What a register's own address reads, for a path; none at the _HI address of a pair. -/
def ownVal (s : State) (path : Path) (a : Nat) : Option Val :=
  let sel := selOf s path
  let stored :=
    if 0x02000000 ≤ a ∧ a < 0x04000000 then lnkVal s ((a - 0x02000000) / 4096) (lnkRow a)
    else alGet (blockVals s (pathSecure path) sel a) a
  match stored, regAccess s a with
  | some v, some _ => some v
  | none, some (.rw _) => some (.word (sel a))
  | none, some (.rw1c _) => some (.word (alGetD s.evt a 0).toNat)
  | none, some (.coat _ _) =>
    if coatHis.contains a then none
    else if coatHis.contains (a + 4) then some (.wide (coatWord s sel a + two32 * coatWord s sel (a + 4)))
    else some (.word (coatWord s sel a))
  | _, _ => none

/-- Whether the register at an address is in a secure block (R464). -/
def regSecure (s : State) (a : Nat) : Bool := ((blockOf a).map (blockSecure s)).getD false

/-! ### What a read sees (R592, R615) -/

/-- The state as the tick began. -/
def shotOf (s : State) : Shot :=
  { alm := s.alm, fc := s.fc, lnk := s.lnk, swc := s.swc, sch := s.sch, pool := s.pool, coh := s.coh, dns := s.dns, trw := s.trw, til := s.til,
    cor := s.cor, cfg := s.cfg, nv := s.nv, sec := s.sec, scr := s.scr, ras := s.ras, tel := s.tel, mgmt := s.mgmt, pwr := s.pwr, ctr := s.ctr,
    evt := s.evt }

/-- What a register read of this tick is taken from: the state as the tick began (R592), selections too (R615). In the tick of reset nothing
comes before, and reads see the state as it is (log entry 234). -/
def seen (s : State) : State :=
  match s.shot with
  | none => s
  | some x =>
    { s with alm := x.alm, fc := x.fc, lnk := x.lnk, swc := x.swc, sch := x.sch, pool := x.pool, coh := x.coh, dns := x.dns, trw := x.trw, til := x.til,
             cor := x.cor, cfg := x.cfg, nv := x.nv, sec := x.sec, scr := x.scr, ras := x.ras, tel := x.tel, mgmt := x.mgmt, pwr := x.pwr,
             ctr := x.ctr, evt := x.evt }

/-! ### Registers of the other twin (R510) -/

/-- Whether a port of the pair is the other twin's. -/
def farPort (s : State) (p : Nat) : Bool := decide (512 ≤ p) != (myTwin s == 1)

/-- Whether a path sees the other twin's register at an address. What the read returns is a free value: this twin does not hold it. The same
is read while the twins are not PAIRED, when no control transaction can fetch it (DESIGN CHOICE, log entry 187). A selection that names no
queue is nobody's, and reads zero (R132). -/
def farReg (s : State) (path : Path) (a : Nat) : Bool :=
  let sel := selOf s path
  let view := (fld (sel Reg.scrView) 0 1 == 1) != (myTwin s == 1)
  if s.scr.role = 0 then false
  else
    match regAccess s a with
    | none => false
    | some (.rw _) => false
    | some _ =>
      if 0x02000000 ≤ a ∧ a < 0x04000000 then decide (576 ≤ (a - 0x02000000) / 4096) != (myTwin s == 1)
      else if Reg.swcQCfg ≤ a ∧ a ≤ Reg.swcPfcTxLo + 4 then (queueSel s sel).isSome && farPort s (fld (sel Reg.swcQSel) 0 10)
      else if blockOf a = some 4 ∧ a < Reg.schPolSel then
        match schPortAt s (sel Reg.schSel) with
        | some p => farPort s p
        | none => view
      else if blockOf a = some 14 then false
      else view

/-- An access to the other twin's registers crosses the bridge while the twins are PAIRED (R510, R516). -/
def farAccess (s : State) : State := if paired s then emit s (.bridge (.control .regAccess)) else s

/-! ### Reads -/

/-- The code of a path in CODE 32's DETAIL (R659); `mbx` for the PCIe mailbox. -/
def pathCode (mbx : Bool) : Path → Nat
  | .pcie => if mbx then 1 else 0
  | .source _ => 2
  | .session _ => 3
  | .firmware => 4

/-- SOURCE in CODE 32's DETAIL. -/
def pathSource : Path → Nat
  | .source ep => ep
  | _ => 0

/-- An entry of CODE 32 (R659): KIND, WORLD, PATH, SOURCE. -/
def logAccess (s : State) (path : Path) (mbx : Bool) (kind unit block : Nat) : State :=
  logEvent s block 1 32 unit (det 1 kind ++ det 1 (if pathSecure path then 1 else 0) ++ det 1 (pathCode mbx path) ++ det 3 (pathSource path))

/-- GLB_EVENT_SUMMARY hides the secure blocks from the non-secure world (R621). -/
def hideSecure (s : State) (path : Path) (a n : Nat) : Nat :=
  if a = Reg.glbEventSummary ∧ pathSecure path = false then bitsOf ((List.range 19).filter fun b => bit n b && !blockSecure s b) else n

/-- A path reads a word (R464, R592, R593, R607) as it stood when the tick began: a _LO read latches the upper half for the path's read of the
_HI register. -/
def regRead (s : State) (path : Path) (mbx : Bool) (a : Nat) : Nat × State :=
  let v := seen s
  match regAccess v a with
  | none => (0, s)
  | some _ =>
    if regSecure v a ∧ pathSecure path = false then (0, logAccess s path mbx 1 a ((blockOf a).getD 0))
    else if farReg v path a then
      let d := draw (farAccess s)
      (d.1 % two32, d.2)
    else
      match ownVal v path a with
      | some (.word n) => (hideSecure v path a (n % two32), s)
      | some (.wide n) =>
        (n % two32, { s with mgmt := { s.mgmt with latches := alSet s.mgmt.latches (path, a) (BitVec.ofNat 32 (n / two32)) } })
      | none =>
        match alGet s.mgmt.latches (path, a - 4), ownVal v path (a - 4) with
        | some w, _ => (w.toNat, { s with mgmt := { s.mgmt with latches := alErase s.mgmt.latches (path, a - 4) } })
        | none, some (.wide n) => (n / two32 % two32, s)
        | none, _ => (0, s)

/-! ### Writes (R7, R616, R617) -/

/-- A write is ignored: counted and logged (R7, R464, R607). -/
def ignoreWrite (s : State) (path : Path) (mbx : Bool) (a : Nat) : State :=
  logAccess (bump s Reg.glbIgnoredLo 1) path mbx 0 a ((blockOf a).getD 0)

/-- RW1C: each one bit written clears its bit; the last PWR event cleared lets ALERT_N rise (R646). -/
def clearEvents (s : State) (a v : Nat) : State :=
  let was := blockPending s 18
  let s := { s with evt := alMod s.evt a 0 fun w => w &&& ~~~ BitVec.ofNat 32 v }
  if was ∧ blockPending s 18 = false then emit s (.pin .alertN true) else s

/-- The fields that only bring-up mode lets be written (R616). -/
def writeBringup (s : State) (a v : Nat) : State :=
  if a = Reg.glbScratch then setPwr s fun p => { p with scratch := BitVec.ofNat 32 v }
  else if a = Reg.pwrFuseCtrl then fuseCtrl s v
  else if a = Reg.pwrTest then
    let t := setPwr s fun p => { p with forceStep := v % 16 }
    stepChanged s t
  else setPwr s fun p => { p with fuseData := alSet p.fuseData ((a - Reg.pwrFuseData0) / 4) (BitVec.ofNat 32 v) }

/-- A path writes a word: whether it was ignored, and the state. It is judged under the coat in force when the tick began (R615). -/
def regWrite (s : State) (path : Path) (mbx : Bool) (a v : Nat) : Bool × State :=
  let refused := (true, ignoreWrite s path mbx a)
  let old := underOld s
  if regSecure old a ∧ pathSecure path = false then refused
  else
    match regAccess old a with
    | some (.rw m) => (false, { s with mgmt := { s.mgmt with sels := alSet s.mgmt.sels (path, a) (BitVec.ofNat 32 (v &&& m)) } })
    | some (.rw1c m) => if farReg s path a then (false, farAccess s) else (false, clearEvents s a (v &&& m))
    | some (.rwb _) => if !bringup s then refused else if farReg s path a then (false, farAccess s) else (false, writeBringup s a v)
    | _ => refused

/-! ### REG_READ and REG_WRITE (R611 to R613) -/

/-- The words that a register command names. -/
def regCount (op : Nat) (body : List Byte) : Nat := if op = Op.regRead then beAt body 0 2 else body.length / 4

/-- Format of a register command. -/
def regFormat (op address : Nat) (body : List Byte) : Bool :=
  let n := regCount op body
  address < two32 && address % 4 == 0 && 1 ≤ n && n ≤ 1024 && address + 4 * n ≤ two32 &&
    (if op = Op.regRead then body.length == 4 && beAt body 2 2 == 0 else body.length % 4 == 0)

/-- Step 7 of a register command in clear over PMT (R611). -/
def regDenied (s : State) (ep : Nat) : Bool := !bit (coatReg s Reg.glbMgmtCfg 0) 0 || !(coat s).security.mgmtList.contains ep

/-- A register command executes: its completion payload. -/
def regRun (s : State) (path : Path) (mbx : Bool) (op address : Nat) (body : List Byte) : List Byte × State :=
  let addrs := (List.range (regCount op body)).map fun i => address + 4 * i
  if op = Op.regRead then
    addrs.foldl (fun (p : List Byte × State) a =>
      let v := regRead p.2 path mbx a
      (p.1 ++ beBytes 4 v.1, v.2)) ([], s)
  else
    let r := addrs.zipIdx.foldl (fun (p : Nat × State) x =>
      let v := regWrite p.2 path mbx x.1 (beAt body (4 * x.2) 4)
      (p.1 + (if v.1 then 1 else 0), v.2)) (0, s)
    (beBytes 2 r.1 ++ [0, 0], r.2)

/-- Whether BAR0 is enabled (R609). -/
def barOn (s : State) : Bool := s.cfg.st == .noCoat || s.cfg.st == .booting || bit (coatReg s Reg.glbMgmtCfg 0) 1

/-- Whether a path reaches the registers now (R608, R609, R611, R613). -/
def pathOpen (s : State) : Path → Bool
  | .pcie => s.mgmt.pcieUp && barOn s
  | .source ep => !regDenied s ep
  | .session id => s.sec.sessions.lookup id == some .fm
  | .firmware => true

/-- REGISTER_WRITE: one word by a path (R617). -/
def wordWrite (s : State) (path : Path) (a v : Nat) : State := if pathOpen (underOld s) path then (regWrite s path false a v).2 else s

/-- LO_READ_LATCH: one word read by a path, with its latch (R593). -/
def wordRead (s : State) (path : Path) (a : Nat) : State :=
  if pathOpen (underOld s) path then
    let r := regRead s path false a
    emit r.2 (.regValue path a r.1)
  else if path = .pcie ∧ s.mgmt.pcieUp = true then emit s (.regValue path a 0)
  else s

end Sys2Proof.Machine
end

