-- ==== Sys2Proof/Machine/SpdmOps.lean ====
section
/-! DEFINITION. The SPDM responder (spec/15 R472 to R478, R481, R482; spec/21 R613): who may ask what, sessions, measurements, vendor
commands. DMTF's message layouts are outside the manual: a message comes decoded, and the bytes of a response are opaque. -/

namespace Sys2Proof.Machine

open Sys2Proof

/-- MAX_SESSIONS (R499). -/
def maxSessions (s : State) : Nat := coatFld s Reg.secCfg 0 1 5

/-- The requests that the ATTEST role permits (R474). -/
def attestMay : SpdmReq → Bool
  | .getVersion => true
  | .getCapabilities => true
  | .negotiateAlgorithms => true
  | .getDigests => true
  | .getCertificate _ => true
  | .challenge => true
  | .getMeasurements _ _ => true
  | _ => false

/-- Whether a request belongs to the making and keeping of a session, which any role may have (log entry 141). -/
def sessionReq : SpdmReq → Bool
  | .keyExchange => true
  | .finish _ => true
  | .endSession => true
  | .heartbeat => true
  | .keyUpdate => true
  | _ => false

/-- The non-empty key slots as measurement 7 lists them (R475). -/
def keyList (s : State) : List Byte :=
  ((List.range 4096).filter fun i => (keySlotOf s i).st != .empty).flatMap fun i =>
    let k := keySlotOf s i
    beBytes 2 i ++ beBytes 1 k.kind ++ beBytes 2 k.owner ++ beBytes 2 k.gen ++ beBytes 48 k.digest

/-- The digests of the loaded Fresco images, in slot order (R475). -/
def frescoList (s : State) : List Byte :=
  (List.range 1024).flatMap fun n =>
    match (progSt s n).serving with
    | some p => beBytes 48 (Config.sha384 p.image)
    | none => []

/-- The measurement blocks (R475). -/
def measurements (s : State) : List (Nat × List Byte) :=
  let c := coat s
  let prev := if s.cfg.st = .curing then (s.cfg.previous.map Coat.serial).getD 0 else 0
  [(1, beBytes 48 Config.romDigest), (2, beBytes 48 s.sec.fwDigest), (3, beBytes 48 c.fw),
   (4, beBytes 4 c.serial ++ beBytes 48 c.headerDigest ++ beBytes 4 prev),
   (5, [if s.cfg.st = .curing then 1 else 0, if s.sec.debug then 1 else 0, if bringup s then 1 else 0, BitVec.ofNat 8 (rngCode s.sec.rng)]),
   (6, beBytes 48 ((c.digests.lookup 11).getD 0)), (7, beBytes 48 (Config.sha384 (keyList s))), (8, beBytes 48 (Config.sha384 (frescoList s)))]

/-- The blocks that an index asks for: 255 all of them, 0 their number alone. -/
def measured (s : State) (index : Nat) : List (Nat × List Byte) :=
  if index = 255 then measurements s else (measurements s).filter fun b => b.1 == index

/-- A key or register command in a vendor-defined request (R481, R613): the payload of its response. -/
def vendorCommand (s : State) (session : Option Nat) (b : List Byte) : List Byte × State :=
  let role := (session.map (roleOf s)).getD .attest
  let head := fun (st : Nat) => beBytes 1 st ++ [0, 0, 0]
  let cmd := beAt b 0 1
  if cmd = 4 ∨ cmd = 5 then
    let op := if cmd = 4 then Op.regRead else Op.regWrite
    if zeroAt b 1 3 = false ∨ b.length < 8 ∨ regFormat op (beAt b 4 4) (b.drop 8) = false then (head St.malformed, s)
    else
      match session, role with
      | some id, .fm =>
        let r := regRun s (.session id) false op (beAt b 4 4) (b.drop 8)
        (head St.ok ++ r.1, r.2)
      | _, _ => (head St.accessDenied, s)
  else
    let r := keyCommand s role b
    (head r.1, r.2)

/-- The responder answers a message (R472 to R475). -/
def spdmAnswer (s : State) (x : SpdmMsg) : SpdmRsp × State :=
  let known := match x.session with
    | none => true
    | some id => (s.sec.sessions.lookup id).isSome
  let role := (x.session.map (roleOf s)).getD .attest
  if !known then (.error .invalidSession, s)
  else if role = .attest ∧ attestMay x.req = false ∧ sessionReq x.req = false ∧ (match x.req with | .vendor _ => false | _ => true) = true then
    (.error .unsupportedRequest, s)
  else
    match x.req with
    | .challenge => (if s.sec.signDisabled then .error .unspecified else .challengeAuth, s)
    | .getMeasurements index sign =>
      (if s.sec.signDisabled && sign then .error .unspecified else .measurements (measured s index) sign, s)
    | .keyExchange =>
      if maxSessions s ≤ s.sec.sessions.length then (.error .sessionLimitExceeded, secEvent s 8 1 noUnit)
      else
        let id := s.sec.nextSession
        (.keyExchange id, setSec s fun c => { c with sessions := c.sessions ++ [(id, .attest)], nextSession := id + 1 })
    | .finish key =>
      match x.session with
      | none => (.error .invalidSession, s)
      | some id =>
        let role := (key.bind fun k => (coat s).security.requesters.lookup k).getD .attest
        (.finish, setSec s fun c => { c with sessions := alSet c.sessions id role })
    | .endSession =>
      match x.session with
      | none => (.error .invalidSession, s)
      | some id => (.endSession, setSec s fun c => { c with sessions := alErase c.sessions id })
    | .getDigests => (.digests 1, s)
    | .getCertificate slot => (if slot = 0 then .certificate s.sec.aliasKey else .error .invalidRequest, s)
    | .vendor b =>
      let r := vendorCommand s x.session b
      (.vendor r.1, r.2)
    | .other _ => (.error .unsupportedRequest, s)
    | _ => (.plain, s)

/-- The format of SPDM_MSG (R473). -/
def spdmFormat (m : Msg) : Bool := 4 ≤ m.length.toNat && m.length.toNat ≤ 4096 && m.address == 0

/-- An SPDM_MSG executes: status, response bytes, state (R473, R478). -/
def spdmRun (s : State) (x : SpdmMsg) : Nat × List Byte × State :=
  if !rngServes s then (St.notReady, [], s)
  else
    let r := spdmAnswer s x
    let t := { r.2 with freeCtr := r.2.freeCtr + 1 }
    (St.ok, Config.spdmEncode x r.1 s.freeCtr, t)

/-! ### The PCIe mailbox (R610) -/

/-- A mailbox request of COAT_WRITE to REG_WRITE executes: status, payload, state. Its SOURCE is ignored. -/
def mailboxRun (s : State) (op : Nat) (m : Msg) (x : SpdmMsg) : Nat × List Byte × State :=
  let body := m.body
  if op = Op.coatWrite then
    let r := coatWrites s .pcie m
    (r.1, [], r.2)
  else if op = Op.coatSubmit then coatSubmits s .pcie m
  else if op = Op.cure then
    let r := cureMessage s m
    (r.1, [], r.2)
  else if op = Op.thaw then
    if !thawFormat m then (St.malformed, [], s)
    else
      let r := runThaw s m
      (r.1, [], r.2)
  else if op = Op.spdmMsg then (if spdmFormat m then spdmRun s x else (St.malformed, [], s))
  else if op = Op.regRead ∨ op = Op.regWrite then
    if m.epoch ≠ 0 ∨ regFormat op m.address.toNat body = false then (St.malformed, [], s)
    else if !bit (coatReg s Reg.glbMgmtCfg 0) 0 then (St.accessDenied, [], s)
    else
      let r := regRun s .pcie true op m.address.toNat body
      (St.ok, r.1, r.2)
  else (St.malformed, [], s)

/-- The header checks of step 4 that a mailbox request meets: version, flags, reserved bits, LENGTH within the request area. -/
def mailboxHeader (m : Msg) : Bool :=
  m.version == 1 && m.flags == 0 && m.wt.toNat / 4096 % 8 == 0 && m.epoch == 0 && m.length.toNat ≤ 4096 && m.length.toNat ≤ m.payload.length

/-- MBX_DOORBELL written (R610): any value but 1 is ignored; one written while BUSY is ignored and logged; 1 submits the request, whose
completion then stands in the response area. A request that names a world the path does not have keeps the path's (R608). -/
def doorbell (s : State) (v op : Nat) (m : Msg) (x : SpdmMsg) : State :=
  if s.mgmt.pcieUp = false ∨ v ≠ 1 then s
  else if s.mgmt.mbxBusy then logAccess s .pcie true 2 noUnit 0
  else
    let s := { s with mgmt := { s.mgmt with mbxDone := false } }
    let r := if mailboxHeader m then mailboxRun s op m x else (St.malformed, [], s)
    let c := { cplOf m r.1 false false r.2.1 with source := 0 }
    let s := emit (countStatus r.2.2 r.1) (.mailbox c)
    { s with mgmt := { s.mgmt with mbxDone := true, mbxResponse := some c } }

end Sys2Proof.Machine
end

