-- ==== Sys2Proof/Machine/TelOps.lean ====
section
/-! DEFINITION. Snapshots (spec/20 R601, R602): what one captures, and the TEL_SNAPSHOT frames that carry it. -/

namespace Sys2Proof.Machine

open Sys2Proof

/-- The _LO addresses of the 64-bit counters that no selection register governs (R601), but for GLB_UPTIME, PWR_THROTTLED_US and those
of the ports. -/
def plainCtrs : List Nat :=
  glbCtrs ++ almCtrs ++ swcCtrs ++ poolCtrs ++ cohCtrs ++ dnsCtrs ++ trwCtrs ++ gthCtrs ++ sivCtrs ++ tilCtrs ++ secCtrs ++ scrCtrs ++
    cfgCtrs ++ rasCtrs ++ telCtrs

/-- The ports of this device that are in service as units (R554, R584). -/
def portsInService (s : State) : List Nat := (ownPorts s).filter fun p => (unitOf s 1 p).st == 0

/-- The records of a snapshot: register address and value. -/
def snapRecords (s : State) : List (Nat × Nat) :=
  (Reg.glbUptimeLo, s.pwr.uptime) :: (Reg.pwrThrottledUsLo, s.pwr.throttledUs) :: plainCtrs.map (fun a => (a, ctrGet s a 0)) ++
    (portsInService s).flatMap fun p => lnkCtrs.map fun row => (lnkPort row p, ctrGet s (lnkPort row p) 0)

/-- Records in one frame. -/
def snapPer : Nat := 339

/-- Whether a snapshot falls due (R601): SNAP_EN is set and the slot's number is a multiple of SNAP_PERIOD. -/
def snapDueNow (s : State) : Bool := bit (coatReg s Reg.telCfg 0) 20 && slotNow s % coatFld s Reg.telCfg 0 0 20 == 0

/-- A snapshot falls due (R601): it is taken, or skipped while the last one is still being sent (R602). -/
def takeSnapshot (s : State) : State :=
  if !snapDueNow s then s
  else if s.tel.snap.isSome then
    let s := { s with tel := { s.tel with snapDue := true } }
    raise (bump s Reg.telSnapSkippedLo 1) Reg.telEventStatus 1 5 noUnit []
  else
    let snap := (now s, (coat s).serial, 0, snapRecords s)
    { s with tel := { s.tel with snap := some snap, snapSeq := (s.tel.snapSeq + 1) % two32 } }

/-- A frame's payload: the 24-byte header and up to 339 records. -/
def snapPayload (s : State) (time serial frame : Nat) (recs : List (Nat × Nat)) : List Byte :=
  beBytes 8 time ++ beBytes 4 serial ++ beBytes 4 s.tel.snapSeq ++ beBytes 2 frame ++ beBytes 2 (ceilDiv recs.length snapPer) ++ [0, 0, 0, 0] ++
    ((recs.drop (snapPer * frame)).take snapPer).flatMap fun r => beBytes 4 r.1 ++ beBytes 8 r.2

/-- The next TEL_SNAPSHOT frame goes to TEL_SNAP_DEST, numbered on its pair (R179, R602); after the last the snapshot is finished. -/
def sendSnapshot (s : State) : State :=
  match s.tel.snap with
  | none => s
  | some (time, serial, frame, recs) =>
    let dest := coatFld s Reg.telSnapDest 0 0 20
    let m : PmtOut := { opcode := Op.telSnapshot, cls := coatFld s Reg.telSnapDest 0 20 4, source := selfEp s, dest, tag := 0,
                        seq := nextSeqOf s dest, payload := snapPayload s time serial frame recs }
    let s := emit (takeSeq s dest) (.pmt m)
    let last := recs.length ≤ snapPer * (frame + 1)
    let snap := if last then none else some (time, serial, frame + 1, recs)
    { s with tel := { s.tel with snap, snapDue := s.tel.snapDue && !last } }

end Sys2Proof.Machine
end

