-- ==== Sys2Proof/Machine/Engine.lean ====
section
/-! DEFINITION. The engine: steps 4 to 10 of R177 for every opcode, what transactions do when their lines are to hand, what answers and
failures lead to, and the closing run of every command: everything that the command has set going and that waits for nothing outside
goes on until it rests (R47: all in the command's tick). -/

namespace Sys2Proof.Machine

open Sys2Proof

/-! ### Steps 4 to 9 -/

/-- Opcodes that carry an epoch (R175). -/
def epochOp (op : Nat) : Bool := op == Op.redContrib || op == Op.gaugeInc || op == Op.gaugeRead

/-- Opcodes on lines, with REGISTER and DEREGISTER. -/
def homeOp (op : Nat) : Bool := isLineOp op || op == Op.register || op == Op.deregister

/-- Format of the coat opcodes (R537, R538, R544). -/
def coatFormat (op : Nat) (m : Msg) : Bool :=
  let n := m.length.toNat
  m.address == 0 &&
    (if op = Op.coatWrite then 9 ≤ n && zeroAt m.body 4 4 && beAt m.body 0 4 + (n - 8) ≤ imageMax
     else if op = Op.coatSubmit then n == 8 && zeroAt m.body 5 3
     else n == 104 && beAt m.body 4 1 ≤ 1 && zeroAt m.body 5 3)

/-- Whether DESTINATION names another endpoint of this device that the opcode may go to: a resident program's (R455), this twin's security
endpoint (R510). -/
def otherDest (s : State) (op : Nat) (m : Msg) : Bool :=
  (op == Op.mbxPost && residentEp s m.dest.toNat) || (op == Op.spdmMsg && ((twinEnt s s.scr.role).any fun t => t.ep == m.dest.toNat))

/-- Whether a request is a dense tray's own: BR_DONE or BR_NOTIFY (R267, R269). -/
def fromBridge (s : State) (op : Nat) (m : Msg) : Bool := (op == Op.brDone || op == Op.brNotify) && (denseTrayAt s m.src).isSome

/-- Format of BR_DONE and BR_NOTIFY (R268, R269): tenant and job zero; the fields of ADDRESS in range, as far as the tray has declared its
geometry, the reserved bits zero. -/
def bridgeFormat (s : State) (op : Nat) (m : Msg) : Bool :=
  let b := m.body
  let a := m.address.toNat
  let t := dTrayOf s ((denseTrayAt s m.src).getD 0)
  (t.euCount == 0 || (fld a 34 22 < t.euCount && fld a 20 14 < t.pages && fld a 0 17 + m.length.toNat ≤ t.rawPu)) &&
  m.wt == 0 && m.job == 0 && m.address.toNat / 2 ^ 56 == 0 && fld m.address.toNat 17 3 == 0 &&
    (if op = Op.brDone then m.length == 8 && beAt b 1 1 ≤ 1 && zeroAt b 4 4 else m.length == 4 && beAt b 0 1 ≤ 1 && zeroAt b 2 2)

/-- Step 4: an opcode that no requester sends to a home is MALFORMED too (R178). -/
def opFormat (s : State) (op : Nat) (m : Msg) : Bool :=
  headerOk s op m (otherDest s op m) (epochOp op) &&
    (if homeOp op then lineFormat op m
     else if epochOp op then redFormat s op m
     else if op = Op.gather then gatherOk m
     else if op = Op.sieve then sieveOk m
     else if op = Op.tileInvoke then invokeFormat m
     else if op = Op.mbxPost then postFormat m
     else if fromBridge s op m then bridgeFormat s op m
     else if op = Op.frostNotice then noticeFormat m
     else if op = Op.thaw then thawFormat m
     else if op = Op.regRead ∨ op = Op.regWrite then regFormat op m.address.toNat m.body
     else if op = Op.coatWrite ∨ op = Op.coatSubmit ∨ op = Op.cure then coatFormat op m
     else op == Op.spdmMsg && spdmFormat m)

/-- Steps 6 to 8: the status that stops a request, if any. -/
def accessStatus (s : State) (op : Nat) (m : Msg) : Option Nat :=
  if homeOp op then lineAccess s op m
  else if op = Op.redContrib then contribStatus s m
  else if op = Op.gaugeInc ∨ op = Op.gaugeRead then gaugeStatus s op m
  else if op = Op.gather ∨ op = Op.sieve then gatherStatus s op m
  else if op = Op.tileInvoke then invokeStatus s m
  else if op = Op.mbxPost then postStatus s m
  else if op = Op.regRead ∨ op = Op.regWrite then (if regDenied s m.src then some St.accessDenied else none)
  else none

/-- Step 9: the request's job is in frost, and the opcode does not skip the step (R564, R566, R567, R611). -/
def frostStops (s : State) (op : Nat) (m : Msg) : Bool :=
  inFrost s m.job.toNat && !frostExempt op && !fromBridge s op m && op != Op.regRead && op != Op.regWrite

/-- A request that step 4 stops is MALFORMED and changes nothing: a reissue's reservation stays too (R177, R186). An invocation completes with
the payload of R408. -/
def refuseFormat (s : State) (op : Nat) (m : Msg) : State :=
  let s := unmark s op m
  if op = Op.tileInvoke then stopInvoke s m St.malformed else answer s m St.malformed

/-- A request that steps 5 to 9 stop completes with a status; an invocation with the payload of R408 too. -/
def stopReq (s : State) (op : Nat) (m : Msg) (status : Nat) : State :=
  let s := unmark s op m
  if op = Op.tileInvoke then stopInvoke s m status else stopAt s m status

/-! ### Step 10 -/

/-- A request takes its tracker entry and touches no line by itself. -/
def admitPlain (s : State) (op : Nat) (m : Msg) : State := newTx s { id := 0, source := m.src, tag := m.tag.toNat, work := .req op m }

/-- A DEREGISTER takes its entry: a registered slot is deregistering from here on (R206). -/
def admitDereg (s : State) (m : Msg) : State :=
  let s := admitPlain s Op.deregister m
  match slotOfEp s m.src with
  | some i => if (slotOf s i).st = .registered then setSlot s i fun x => { x with st := .deregistering } else s
  | none => s

/-- The management opcodes that the left twin serves for the pair (R510). -/
def leftServes (op : Nat) : Bool := Op.regRead ≤ op && op ≤ Op.regWrite && op != Op.spdmMsg && op != Op.mbxPost

/-- The twin at which the state lies that a request is about, where that is one twin's alone (R515): a group's and a gauge's by bit 0, a
program's and a mailbox's by its entry. -/
def stateTwin (s : State) (op : Nat) (m : Msg) : Option Nat :=
  if op = Op.redContrib ∨ op = Op.gaugeInc ∨ op = Op.gaugeRead then some (grpOfAddr m.address.toNat % 2)
  else if op = Op.tileInvoke then ((coat s).tile.progs.find? fun e => e.slot == invSlot m).map ProgEnt.twin
  else if op = Op.mbxPost then (resEnt s (beAt m.body 0 2)).map ResEnt.twin
  else none

/-- Whether that state lies at the other twin. -/
def elsewhere (s : State) (op : Nat) (m : Msg) : Bool := paired s && (stateTwin s op m).any (· != myTwin s)

/-- Step 10 at this twin. -/
def runHere (s : State) (op : Nat) (m : Msg) : State :=
  if isLineOp op then
    match (if isReissue s m then reservedFor s m else none) with
    | some t => admitReissue s t op m
    | none => admitLine s op m
  else if op = Op.tileInvoke then admitInvoke s m
  else if op = Op.deregister then admitDereg s m
  else admitPlain s op m

/-- A request that the other twin has sequenced executes here (R512); where its state lies here, steps 6 to 8 ask it first. -/
def executeHere (s : State) (op : Nat) (m : Msg) : State :=
  match (if (stateTwin s op m).isSome then accessStatus s op m else none) with
  | some st =>
    let t := admitPlain (unmark s op m) op m
    outcome t s.pool.nextTx st (if op = Op.tileInvoke then List.replicate 16 0 else [])
  | none => runHere s op m

/-- Step 10: in twin mode at the home twin of the line, at the left twin, or at the twin where the state lies (R510 to R512, R515). -/
def stepTen (s : State) (op : Nat) (m : Msg) : State :=
  if elsewhere s op m then passOn s op m
  else if paired s ∧ ((isLineOp op = true ∧ homeTwin (m.address.toNat / 128) ≠ myTwin s) ∨ (leftServes op = true ∧ myTwin s = 1)) then passOn s op m
  else runHere s op m

/-- A request in sequence goes through steps 4 to 10 (R177). What steps 6 to 8 ask of state that lies at the other twin is asked there
(DEDUCED, log entry 233). -/
def fromStepFour (s : State) (op : Nat) (m : Msg) : State :=
  let s := countExcess s m
  if !opFormat s op m then
    let refused := op == Op.register && headerOk s op m false false
    refuseFormat (if refused then regRefused s m else s) op m
  else if secondOnLine s op m then refuseFormat s op m
  else if creditsOf s m.src ≤ inFlight s m.src ∧ isReissue s m = false ∧ fromBridge s op m = false then stopReq s op m St.busy
  else
    match (if elsewhere s op m then none else accessStatus s op m) with
    | some st => stopReq (if op = Op.redContrib then countEpochReject s m else s) op m st
    | none => if frostStops s op m then stopReq s op m St.jobFenced else stepTen s op m

/-! ### Requests that touch no line by themselves execute -/

/-- The message that an SPDM_MSG's payload decodes to. -/
def inboxOf (s : State) (m : Msg) : SpdmMsg := alGetD s.sec.inbox (m.src, m.seq.toNat) { session := none, req := .other 0 }

/-- BR_DONE (R269, R270): the media command of its tray, opcode and tag ends; one that comes after
MEDIA_MS, while BR_HEALTH decides, ends nothing. -/
def bridgeDone (s : State) (m : Msg) : State :=
  let b := m.body
  match denseTrayAt s m.src with
  | some tray =>
    match mediaJob s tray (beAt b 0 1) (beAt b 2 2) with
    | some j => if (outWith s (.brHealth tray j.1)).isSome then s else mediaEnded s j.1 j.2 (beAt b 1 1 == 1)
    | none => s
  | none => s

/-- BR_NOTIFY (R274): before a power loss programs and erases stop until BR_IDENT completes again; a failed die's erase units are missing
members. -/
def bridgeNotify (s : State) (m : Msg) : State :=
  match denseTrayAt s m.src with
  | some tray =>
    if beAt m.body 0 1 = 0 then
      let s := setDTray s tray fun t => { t with halted := true }
      if (outWith s (.brIdent tray)).isSome then s else brRequest s tray Op.brIdent 0 0 0 [] (.brIdent tray)
    else
      let s := setDTray s tray fun t => { t with dies := addOnce t.dies (beAt m.body 1 1) }
      denseConditions (saveMedia (updateMissing s))
  | none => s

/-- A request whose turn has come executes: management, registration, mailbox. -/
def runManagement (s : State) (op : Nat) (m : Msg) : Nat × List Byte × State :=
  let plain := fun (r : Nat × State) => (r.1, ([] : List Byte), r.2)
  if op = Op.register then plain (runRegister s m)
  else if op = Op.deregister then
    plain (St.ok, match slotOfEp s m.src with
      | some i => if (slotOf s i).st = .deregistering then logSlot (clearSlot s i .unregistered) i else s
      | none => s)
  else if op = Op.mbxPost then plain (postMail s m)
  else if op = Op.brDone then plain (St.ok, bridgeDone s m)
  else if op = Op.brNotify then plain (St.ok, bridgeNotify s m)
  else if op = Op.frostNotice then plain (runNotice s m)
  else if op = Op.thaw then plain (runThaw s m)
  else if op = Op.coatWrite then plain (coatWrites s (.source m.src) m)
  else if op = Op.coatSubmit then coatSubmits s (.source m.src) m
  else if op = Op.cure then plain (cureMessage s m)
  else if op = Op.spdmMsg then spdmRun (setSec s fun x => { x with inbox := alErase x.inbox (m.src, m.seq.toNat) }) (inboxOf s m)
  else
    let r := regRun s (.source m.src) false op m.address.toNat m.body
    (St.ok, r.1, r.2)

/-- A request of a family of its own, or one of management, executes. -/
def runReq (s : State) (t : Tx) (op : Nat) (m : Msg) : State :=
  if op = Op.redContrib then runContrib s t m
  else if op = Op.gaugeInc ∨ op = Op.gaugeRead then runGauge s t op m
  else if op = Op.gather then runGather s t m
  else if op = Op.sieve then runSieve s t m
  else if op = Op.tileInvoke then runInvoke s t m
  else
    let r := runManagement s op m
    outcome r.2.2 t.id r.1 r.2.1

/-- A RUB chunk's lines are to hand: a world violation stops it (R466). -/
def rubReady (s : State) (t : Tx) (g e c : Nat) : State :=
  match (grpSt s g).epochs.find? fun x => x.num == e with
  | some x =>
    if worldBreak s x.grp.key.world (t.reads ++ t.writes) then outcome (worldViolated s x.grp.key.job) t.id St.jobFenced []
    else runRub s t g e c
  | none => runRub s t g e c

/-- A transaction's lines are to hand. -/
def txReady (s : State) (id : Nat) : State :=
  match txOf s id with
  | none => s
  | some t =>
    match t.work with
    | .req op m => runReq s t op m
    | .tileOp inv => tileOpReady s t inv
    | .rub g _ e c => rubReady s t g e c
    | .result _ _ _ a data => runResult s t a data
    | _ => workReady s t

/-- Work that no requester waits for has ended. -/
def txEnded (s : State) (w : Work) (status : Nat) : State :=
  match w with
  | .tileOp inv => tileOpEnded s inv status
  | .rub g _ e c => rubEnded s g e c status
  | .result g e _ _ _ => resultDone s g e
  | .rekey slot unit => rekeyEnded s slot unit status
  | w => workEnded s w status

/-- A request of the Volinar's own was answered. -/
def outAnswered (s : State) (o : OutReq) (status : Nat) (b : List Byte) : State :=
  match o.purpose with
  | .partialTo g e _ => partialAnswered s o g e status
  | .gaugeFwd k => if status = St.ok then s else fwdRejected s k 1
  | .coreCall slot core => coreAnswered s slot core status o.target o.tag b
  | _ => s

/-- The target of a request of the Volinar's own has failed (R187). What a resident program's call then returns the manual does not say: a
free value among R8's codes but ERASE_STATE (R9). -/
def outFailed (s : State) (o : OutReq) : State :=
  match o.purpose with
  | .partialTo g e _ => parentRejected s g e none
  | .gaugeFwd k => fwdRejected s k 2
  | .coreCall slot core =>
    let d := draw s
    coreAnswered d.2 slot core (d.1 % 11) o.target o.tag []
  | _ => s

/-- One thing that is to be done. -/
def runHook (s : State) (h : Hook) : State :=
  match h with
  | .arrive op m => fromStepFour s op m
  | .execute op m => executeHere s op m
  | .ready id => txReady s id
  | .ended w status => txEnded s w status
  | .frost job cause origin cls => enterFrost s job cause origin cls
  | .answered o status b => outAnswered s o status b
  | .failed o => outFailed s o
  | .epLost ep => endpointLost s ep
  | .coreDone c => coreDone s c
  | .coreGrant m => coreGranted s m

/-! ### The closing run -/

/-- Entry of a job into frost: it comes after everything else of the tick (R563). -/
def Hook.isFrost : Hook → Bool
  | .frost _ _ _ _ => true
  | _ => false

/-- The next hook: the oldest that is no frost, else the oldest frost. -/
def nextHook (l : List Hook) : Option Hook := (l.find? fun h => !h.isFrost).orElse fun _ => l.head?

/-- A list without the first occurrence of an element. -/
def takeOut {α : Type} [DecidableEq α] (x : α) : List α → List α
  | [] => []
  | y :: r => if y = x then r else y :: takeOut x r

/-- The units' own round: transactions, media jobs, staging, Gather and Sieve units, tiles, self-tests, the pool's readiness. -/
def unitsRound (s : State) : State :=
  poolMayServe (beginTests (tilesSettle (assignUnits (serveAll (densePump 65536 (pump 65536 s))))))

/-- Whether a round has set something going. -/
def moved (s t : State) : Bool :=
  decide (s.pool.txs ≠ t.pool.txs) || decide (s.til.invs ≠ t.til.invs) || decide (s.trw.groups ≠ t.trw.groups) ||
    decide (s.dns.jobs ≠ t.dns.jobs) || decide (s.cfg.units ≠ t.cfg.units)

/-- Hooks are carried out one by one, the units going on between them, until everything waits for something outside. -/
def settleFor (fuel : Nat) (s : State) : State :=
  match fuel with
  | 0 => s
  | n + 1 =>
    let t := unitsRound s
    match nextHook t.hooks with
    | some h => settleFor n (runHook { t with hooks := takeOut h t.hooks } h)
    | none => if moved s t then settleFor n t else t

/-- The closing run of a command (log entry 152 says how long it may be). -/
def settle (s : State) : State := settleFor 65536 s

/-- Whether PMT frames reach the home: not in NO_COAT and BOOTING, when every port is DOWN (R590). -/
def pmtServes (s : State) : Bool := s.cfg.st != .noCoat && s.cfg.st != .booting

/-- Steps 1 to 3 of R177; a dense tray of the coat is a source of its own messages without an allotment (R267; log entry 153). -/
def receiveAny (s : State) (op : Nat) (m : Msg) : State :=
  if fromBridge s op m then
    (if !wellReceived op m then bump s Reg.poolDropLo 1 else if homeServes s then sequence s op m else s)
  else
    let mine := op == Op.redContrib && wellReceived op m && homeServes s && !(paired s && seqTwin m.src != myTwin s)
    receiveReq (if mine then markArrival s m else s) op m

/-- A PMT request arrives, and everything that follows from it. -/
def receivePmt (s : State) (op : Nat) (m : Msg) : State := if pmtServes s then settle (receiveAny s op m) else s

end Sys2Proof.Machine
end

