-- ==== Sys2Proof/Machine/Access.lean ====
section
/-! DEFINITION. The commands of telemetry (spec/20) and of register access (spec/21). -/

namespace Sys2Proof.Machine

open Sys2Proof

/-- SNAPSHOT (R601). -/
def execSnapshot (s : State) : Host.Outcome State Fault Refusal :=
  live Instr.snapshot.wf s fun s => takeSnapshot s

/-- SNAPSHOT_SEND (R602). -/
def execSnapshotSend (s : State) : Host.Outcome State Fault Refusal :=
  live Instr.snapshotSend.wf s fun s => sendSnapshot s

/-- REG_READ (R611). -/
def execRegRead (m : Msg) (s : State) : Host.Outcome State Fault Refusal :=
  live (Instr.regRead m).wf s fun s => receivePmt s Op.regRead m

/-- REG_WRITE (R611). -/
def execRegWrite (m : Msg) (s : State) : Host.Outcome State Fault Refusal :=
  live (Instr.regWrite m).wf s fun s => receivePmt s Op.regWrite m

/-- REGISTER_WRITE (R617). -/
def execRegisterWrite (path : Path) (address value : BitVec 32) (s : State) : Host.Outcome State Fault Refusal :=
  live (Instr.registerWrite path address value).wf s fun s => wordWrite s path address.toNat value.toNat

/-- MBX_DOORBELL (R610). -/
def execMbxDoorbell (value : BitVec 32) (opcode : BitVec 8) (m : Msg) (p : SpdmMsg) (s : State) : Host.Outcome State Fault Refusal :=
  live (Instr.mbxDoorbell value opcode m p).wf s fun s => settle (doorbell s value.toNat opcode.toNat m p)

/-- LO_READ_LATCH (R593). -/
def execLoReadLatch (path : Path) (address : BitVec 32) (s : State) : Host.Outcome State Fault Refusal :=
  live (Instr.loReadLatch path address).wf s fun s => wordRead s path address.toNat

end Sys2Proof.Machine
end

