-- ==== Sys2Proof/Machine/Coherence.lean ====
section
/-! DEFINITION. The commands of the coherence protocol (spec/07) and of the rollback drain (spec/08). -/

namespace Sys2Proof.Machine

open Sys2Proof

/-- The transaction and snoop that a snoop response answers: by endpoint, tag and sequence, resends included (R232). -/
def snoopFor? (s : State) (m : Msg) : Option (Tx × Snoop) :=
  s.pool.txs.findSome? fun t =>
    (t.snoops.find? fun x => x.ep == m.src && x.tag == m.tag.toNat && x.seq == m.seq.toNat).map fun x => (t, x)

/-- Whether a response keeps R214: status OK, a state that R220 allows, DATA as LENGTH says. -/
def snoopReplyOk (s : State) (x : Snoop) (m : Msg) : Bool :=
  let b := m.body
  let data := bit (beAt b 1 1) 0
  m.length.toNat == b.length && b.length == (if data then 136 else 8) && beAt b 0 1 ≤ 4 &&
    responseOk (((snoopRec s x).map SfRec.state).getD 0) x.opcode (beAt b 0 1) data

/-- A snoop response (R214, R216, R218): one with another status than OK, or that breaks R214, is as none, the latter counted. -/
def snoopReply (s : State) (m : Msg) : State :=
  if !wellReceived Op.completion m then bump s Reg.poolDropLo 1
  else
    match snoopFor? s m with
    | none => s
    | some (t, x) =>
      if statusOf m.flags.toNat ≠ St.ok then s
      else if !snoopReplyOk s x m then bump s Reg.poolDropLo 1
      else if bit (beAt m.body 1 1) 0 then
        let s := snoopAnswered (makeRoom s x.line (txCls t)) t.id x (some (m.body.drop 8))
        mirrorLine s t.id (txCls t) x.line
      else snoopAnswered s t.id x none

/-- The timer of a snoop expires: it is sent again, or after the last resend its endpoint has failed (R232, R233). -/
def recallExpires (s : State) (ep line : Nat) : State :=
  match s.pool.txs.findSome? fun t => (t.snoops.find? fun x => x.ep == ep && x.line == line).map fun x => (t, x) with
  | none => s
  | some (t, x) =>
    if x.resends < coatFld s Reg.cohCfg 0 10 3 then
      let f := fun (y : Snoop) => if y = x then { y with resends := y.resends + 1 } else y
      let s := setTx s t.id fun t => { t with snoops := t.snoops.map f }
      bump (emit s (.pmt (snoopFrame s x))) Reg.cohRecallResendLo 1
    else epFailed (permanentFault s) x.slot

/-- The poison table's changed entries reach their copy in the capacity tier, where the coat lists a tray (R570). -/
def copyPoison (s : State) : State :=
  if (coat s).pool.trays.isEmpty then s else { s with nv := { s.nv with poison := s.coh.poison } }

/-- A snoop response reaches the home. -/
def snoopIn (s : State) (m : Msg) : State := if pmtServes s then settle (snoopReply s m) else s

/-- RD_SHARED (R216). -/
def execRdShared (m : Msg) (s : State) : Host.Outcome State Fault Refusal :=
  live (Instr.rdShared m).wf s fun s => receivePmt s Op.rdShared m

/-- RD_ANY (R216). -/
def execRdAny (m : Msg) (s : State) : Host.Outcome State Fault Refusal :=
  live (Instr.rdAny m).wf s fun s => receivePmt s Op.rdAny m

/-- RD_OWN (R216). -/
def execRdOwn (m : Msg) (s : State) : Host.Outcome State Fault Refusal :=
  live (Instr.rdOwn m).wf s fun s => receivePmt s Op.rdOwn m

/-- UPGRADE (R216, R219). -/
def execUpgrade (m : Msg) (s : State) : Host.Outcome State Fault Refusal :=
  live (Instr.upgrade m).wf s fun s => receivePmt s Op.upgrade m

/-- WB_DIRTY (R219). -/
def execWbDirty (m : Msg) (s : State) : Host.Outcome State Fault Refusal :=
  live (Instr.wbDirty m).wf s fun s => receivePmt s Op.wbDirty m

/-- EVICT_CLEAN (R213). -/
def execEvictClean (m : Msg) (s : State) : Host.Outcome State Fault Refusal :=
  live (Instr.evictClean m).wf s fun s => receivePmt s Op.evictClean m

/-- REGISTER (R204). -/
def execRegister (m : Msg) (s : State) : Host.Outcome State Fault Refusal :=
  live (Instr.register m).wf s fun s => receivePmt s Op.register m

/-- DEREGISTER (R206). -/
def execDeregister (m : Msg) (s : State) : Host.Outcome State Fault Refusal :=
  live (Instr.deregister m).wf s fun s => receivePmt s Op.deregister m

/-- SNOOP_RESPONSE (R217, R220). -/
def execSnoopResponse (m : Msg) (s : State) : Host.Outcome State Fault Refusal :=
  live (Instr.snoopResponse m).wf s fun s => snoopIn s m

/-- RECALL_TIMEOUT (R232). -/
def execRecallTimeout (ep line : Nat) (s : State) : Host.Outcome State Fault Refusal :=
  live (Instr.recallTimeout ep line).wf s fun s => settle (recallExpires s ep line)

/-- LINE_FREE_GRANT (R224): the oldest requester that was answered RETRY is granted the free line. -/
def execLineFreeGrant (line : Nat) (s : State) : Host.Outcome State Fault Refusal :=
  live (Instr.lineFreeGrant line).wf s fun s => settle (grantNext s line)

/-- POISON_TABLE_COPY (R570). -/
def execPoisonTableCopy (s : State) : Host.Outcome State Fault Refusal :=
  live Instr.poisonTableCopy.wf s fun s => copyPoison s

/-- ROLLBACK_DRAIN_END (R263). -/
def execRollbackDrainEnd (s : State) : Host.Outcome State Fault Refusal :=
  live Instr.rollbackDrainEnd.wf s fun s => settle (drainEnds s)

end Sys2Proof.Machine
end

