-- ==== Sys2Proof/Machine/Pool.lean ====
section
/-! DEFINITION. The commands of the pool home (spec/06, spec/08): requests, completions, timers, background work on its units. -/

namespace Sys2Proof.Machine

open Sys2Proof

/-- A request's kept entry by source and tag. -/
def entryOf (s : State) (source tag : Nat) : Option Tx :=
  s.pool.txs.find? fun t => t.isReq && t.source == source && t.tag == tag

/-- A granted reservation lapses after HOLD_US (R186). -/
def holdLapses (s : State) (source tag : Nat) : State :=
  match s.pool.txs.find? fun t => t.isReq && t.source == source && t.tag == tag && t.stage == .reserved true with
  | some t => releaseReservation (bump s Reg.poolHoldExpiredLo 1) t true
  | none => s

/-- A write that R173 has held for SHORT_WAIT completes BUSY and changes nothing. -/
def shortWaitEnds (s : State) (source tag : Nat) : State :=
  match entryOf s source tag with
  | some t => if t.stage = .waiting ∧ heldDirty s t = true then outcome s t.id St.busy [] else s
  | none => s

/-- A request refused by a dense tray goes out again; after 1 ms of refusals R187 decides (R267). -/
def bridgeRetry (s : State) (tray tag : Nat) : State :=
  match denseTrayEp s tray with
  | none => s
  | some ep =>
    match outOf s ep tag with
    | none => s
    | some o =>
      if o.busyWait = false then s
      else if o.busySince.any fun t => decide (500000 ≤ tickNow s - t) then setOut s ep tag fun o => { o with busyWait := false }
      else sendAgain s o

/-- A completion arrives for a request of the Volinar's own. -/
def completionIn (s : State) (m : Msg) : State := if pmtServes s then settle (completionRx s m) else s

/-- A PAIR_RESET arrives. -/
def resetIn (s : State) (m : Msg) : State := if pmtServes s then settle (receiveReset s m) else s

/-- READ (R178). -/
def execRead (m : Msg) (s : State) : Host.Outcome State Fault Refusal :=
  live (Instr.read m).wf s fun s => receivePmt s Op.read m

/-- WRITE (R178). -/
def execWrite (m : Msg) (s : State) : Host.Outcome State Fault Refusal :=
  live (Instr.write m).wf s fun s => receivePmt s Op.write m

/-- WRITE_MASKED (R178). -/
def execWriteMasked (m : Msg) (s : State) : Host.Outcome State Fault Refusal :=
  live (Instr.writeMasked m).wf s fun s => receivePmt s Op.writeMasked m

/-- FLUSH (R178). -/
def execFlush (m : Msg) (s : State) : Host.Outcome State Fault Refusal :=
  live (Instr.flush m).wf s fun s => receivePmt s Op.flush m

/-- DISCARD (R178). -/
def execDiscard (m : Msg) (s : State) : Host.Outcome State Fault Refusal :=
  live (Instr.discard m).wf s fun s => receivePmt s Op.discard m

/-- ATOMIC (R229, R230). -/
def execAtomic (m : Msg) (s : State) : Host.Outcome State Fault Refusal :=
  live (Instr.atomic m).wf s fun s => receivePmt s Op.atomic m

/-- MIRROR_WRITE (R188). -/
def execMirrorWrite (m : Msg) (s : State) : Host.Outcome State Fault Refusal :=
  live (Instr.mirrorWrite m).wf s fun s => receivePmt s Op.mirrorWrite m

/-- MIRROR_MASKED (R188). -/
def execMirrorMasked (m : Msg) (s : State) : Host.Outcome State Fault Refusal :=
  live (Instr.mirrorMasked m).wf s fun s => receivePmt s Op.mirrorMasked m

/-- MIRROR_DISCARD (R188). -/
def execMirrorDiscard (m : Msg) (s : State) : Host.Outcome State Fault Refusal :=
  live (Instr.mirrorDiscard m).wf s fun s => receivePmt s Op.mirrorDiscard m

/-- MIRROR_FLUSH (R188). -/
def execMirrorFlush (m : Msg) (s : State) : Host.Outcome State Fault Refusal :=
  live (Instr.mirrorFlush m).wf s fun s => receivePmt s Op.mirrorFlush m

/-- MIRROR_READ (R190). -/
def execMirrorRead (m : Msg) (s : State) : Host.Outcome State Fault Refusal :=
  live (Instr.mirrorRead m).wf s fun s => receivePmt s Op.mirrorRead m

/-- PAIR_RESET (R182). -/
def execPairReset (m : Msg) (s : State) : Host.Outcome State Fault Refusal :=
  live (Instr.pairReset m).wf s fun s => resetIn s m

/-- COMPLETION of a request of the Volinar's own (R187). -/
def execCompletion (m : Msg) (s : State) : Host.Outcome State Fault Refusal :=
  live (Instr.completion m).wf s fun s => completionIn s m

/-- POOL_TIMEOUT (R187): the request goes again, or its target has failed. -/
def execPoolTimeout (target tag : Nat) (s : State) : Host.Outcome State Fault Refusal :=
  live (Instr.poolTimeout target tag).wf s fun s => settle (outTimeout s target tag)

/-- TRAY_BUSY_RETRY (R191). -/
def execTrayBusyRetry (target tag : Nat) (s : State) : Host.Outcome State Fault Refusal :=
  live (Instr.trayBusyRetry target tag).wf s fun s => settle (retryOut s target tag)

/-- HOLD_EXPIRY (R186). -/
def execHoldExpiry (source tag : Nat) (s : State) : Host.Outcome State Fault Refusal :=
  live (Instr.holdExpiry source tag).wf s fun s => settle (holdLapses s source tag)

/-- SHORT_WAIT_EXPIRY (R173). -/
def execShortWaitExpiry (source tag : Nat) (s : State) : Host.Outcome State Fault Refusal :=
  live (Instr.shortWaitExpiry source tag).wf s fun s => settle (shortWaitEnds s source tag)

/-- UNIT_MIGRATE (R171). -/
def execUnitMigrate (unit : Nat) (s : State) : Host.Outcome State Fault Refusal :=
  live (Instr.unitMigrate unit).wf s fun s => settle (migrateUnit s unit)

/-- PAIR_RESTORE (R172). -/
def execPairRestore (unit : Nat) (s : State) : Host.Outcome State Fault Refusal :=
  live (Instr.pairRestore unit).wf s fun s => settle (restoreUnit s unit)

/-- MIRROR_RESYNC_STEP (R189). -/
def execMirrorResyncStep (window : Nat) (s : State) : Host.Outcome State Fault Refusal :=
  live (Instr.mirrorResyncStep window).wf s fun s => settle (resyncStep s window)

end Sys2Proof.Machine
end

