-- ==== Sys2Proof/Machine/Security.lean ====
section
/-! DEFINITION. The commands of security (spec/15): SPDM, keys and re-keying, randomness, MKA, debug unlock. -/

namespace Sys2Proof.Machine

open Sys2Proof

/-- An SPDM_MSG arrives, its payload decoded to a message (R473). -/
def spdmIn (s : State) (m : Msg) (p : SpdmMsg) : State :=
  receivePmt (setSec s fun x => { x with inbox := alSet x.inbox (m.src, m.seq.toNat) p }) Op.spdmMsg m

/-- SPDM_MSG (R473). -/
def execSpdmMsg (m : Msg) (p : SpdmMsg) (s : State) : Host.Outcome State Fault Refusal :=
  live (Instr.spdmMsg m p).wf s fun s => spdmIn s m p

/-- KEY_LOAD (R483). -/
def execKeyLoad (session : Nat) (payload : List Byte) (s : State) : Host.Outcome State Fault Refusal :=
  live (Instr.keyLoad session payload).wf s fun s => settle (sessionKey s session payload)

/-- KEY_ERASE (R483). -/
def execKeyErase (session : Nat) (payload : List Byte) (s : State) : Host.Outcome State Fault Refusal :=
  live (Instr.keyErase session payload).wf s fun s => settle (sessionKey s session payload)

/-- LINK_CAK (R491). -/
def execLinkCak (session : Nat) (payload : List Byte) (s : State) : Host.Outcome State Fault Refusal :=
  live (Instr.linkCak session payload).wf s fun s => settle (sessionKey s session payload)

/-- KEY_APPLIED (R484). -/
def execKeyApplied (slot : Nat) (s : State) : Host.Outcome State Fault Refusal :=
  live (Instr.keyApplied slot).wf s fun s => settle (keyApplies s slot)

/-- REKEY_STEP (R487). -/
def execRekeyStep (slot : Nat) (s : State) : Host.Outcome State Fault Refusal :=
  live (Instr.rekeyStep slot).wf s fun s => settle (rekeyStarts s slot)

/-- RNG_STARTUP_TEST (R478, R479). -/
def execRngStartupTest (pass : Bool) (s : State) : Host.Outcome State Fault Refusal :=
  live (Instr.rngStartupTest pass).wf s fun s => rngTested s pass

/-- RNG_RETEST (R479). -/
def execRngRetest (s : State) : Host.Outcome State Fault Refusal :=
  live Instr.rngRetest.wf s fun s => rngFails s

/-- DRBG_RESEED (R477, R479). -/
def execDrbgReseed (s : State) : Host.Outcome State Fault Refusal :=
  live Instr.drbgReseed.wf s fun s => reseedDue s

/-- DEBUG_NONCE_READ (R493). -/
def execDebugNonceRead (s : State) : Host.Outcome State Fault Refusal :=
  live Instr.debugNonceRead.wf s fun s => nonceRead s

/-- DEBUG_UNLOCKED (R494). -/
def execDebugUnlocked (signature : List Byte) (inTime : Bool) (s : State) : Host.Outcome State Fault Refusal :=
  live (Instr.debugUnlocked signature inTime).wf s fun s => settle (debugTry s signature inTime)

/-- MKA_FRAME_RX (R491). -/
def execMkaFrameRx (port : Nat) (f : Mka) (s : State) : Host.Outcome State Fault Refusal :=
  live (Instr.mkaFrameRx port f).wf s fun s => mkaRx s port f

end Sys2Proof.Machine
end

