-- ==== Sys2Proof/Machine/Arrival.lean ====
section
/-! DEFINITION. Frames that arrive (spec/03 R68, R123; spec/04 R102), and the PMT messages among them. -/

namespace Sys2Proof.Machine

open Sys2Proof

/-- A PMT message in a frame for the device itself reaches its block (R108): one too short for a header is discarded (R175); a completion
answers a snoop or a request of the Volinar's own; a credit grant and a RESULT_DATA echo no request that waits for one (R180, R231). -/
def deliverPmt (s : State) (p : Nat) (f : Frame) : State :=
  match f.pmt with
  | none => bump s Reg.poolDropLo 1
  | some x =>
    let op := x.opcode.toNat
    let m := { x.msg with port := p }
    if op = Op.pairReset then resetIn s m
    else if op = Op.completion then (if (snoopFor? s m).isSome then snoopIn s m else completionIn s m)
    else if op = Op.creditGrant ∨ op = Op.resultData then (if wellReceived op m then s else bump s Reg.poolDropLo 1)
    else if op = Op.spdmMsg then spdmIn s m (Config.spdmDecode m.body)
    else receivePmt s op m

/-- An Almanac frame by its bytes, stamped as it arrives (R28, R89): one too short for its 46 bytes fails the check of its fields. -/
def deliverAlmanac (s : State) (p : Nat) (f : Frame) : State :=
  takeBeacon s p (16 * now s) (if f.body.length < 46 then { beaconOf f.body with version := 0 } else beaconOf f.body)

/-- What a frame brings the device itself: a beacon or claim, or a PMT message. -/
def deliverOwn (s : State) (p : Nat) (f : Frame) : State := if isAlmanacFrame s f then deliverAlmanac s p f else deliverPmt s p f

/-- A frame of a replay port (R68, R123): what it carries is delivered in sequence order only. A frame that R62 discards is counted wherever
it stands in the sequence; the next frame in order that turned bad ends the frame that was being cut through (R122). -/
def replayFrame (s : State) (p : Nat) (h : LlrHdr) (f : Frame) : State :=
  let next := llrActive s p && h.seq.toNat == (portOf s p).llr.rxExpect
  let r := llrReceive s p h f.fcs f.len
  if r.1 || (next && frameBad f) then receive deliverOwn r.2 p f
  else
    let s := bump (bumpPort r.2 Reg.lnkRxBytesLo p f.len) Reg.telDevRxBytesLo f.len
    if frameBad f then bumpPort s Reg.lnkRxErrLo p 1 else s

/-- FRAME_ARRIVAL (R102): on a port without link-level replay; at a port of the other twin, the frame that its twin received and passes over
the bridge (R124). -/
def execFrameArrival (port : Nat) (f : Frame) (s : State) : Host.Outcome State Fault Refusal :=
  live (Instr.frameArrival port f).wf s fun s =>
    if !portHere s port then bridged s port f
    else if hasLlr s port then s else receive deliverOwn s port f

/-- LLR_DATA_RX (R68, R123). -/
def execLlrDataRx (port : Nat) (h : LlrHdr) (f : Frame) (s : State) : Host.Outcome State Fault Refusal :=
  live (Instr.llrDataRx port h f).wf s fun s => replayFrame s port h f

end Sys2Proof.Machine
end

