-- ==== Sys2Proof/Machine/Coats.lean ====
section
/-! DEFINITION. The commands of coats (spec/17): delivery, staging, application, cure, strip, units that return, boot. -/

namespace Sys2Proof.Machine

open Sys2Proof

/-- An assembly that has had no COAT_WRITE or COAT_SUBMIT for 10 s is discarded (R537); one written in this very tick has not. -/
def assemblyEnds (s : State) : State :=
  if s.cfg.staging.any fun x => x.tick == tickNow s then s else setCfg s fun x => { x with staging := none }

/-- COAT_WRITE (R537). -/
def execCoatWrite (m : Msg) (s : State) : Host.Outcome State Fault Refusal :=
  live (Instr.coatWrite m).wf s fun s => receivePmt s Op.coatWrite m

/-- COAT_SUBMIT (R538). -/
def execCoatSubmit (m : Msg) (s : State) : Host.Outcome State Fault Refusal :=
  live (Instr.coatSubmit m).wf s fun s => receivePmt s Op.coatSubmit m

/-- COAT_ASSEMBLY_TIMEOUT (R537). -/
def execCoatAssemblyTimeout (s : State) : Host.Outcome State Fault Refusal :=
  live Instr.coatAssemblyTimeout.wf s fun s => assemblyEnds s

/-- JOURNAL_STAGED (R539, R541). -/
def execJournalStaged (s : State) : Host.Outcome State Fault Refusal :=
  live Instr.journalStaged.wf s fun s => settle (imageStaged s)

/-- PATCH_APPLY (R542). -/
def execPatchApply (s : State) : Host.Outcome State Fault Refusal :=
  live Instr.patchApply.wf s fun s => settle (patchApplies s)

/-- CURE (R544). -/
def execCure (m : Msg) (s : State) : Host.Outcome State Fault Refusal :=
  live (Instr.cure m).wf s fun s => receivePmt s Op.cure m

/-- HEALTH_CHECK_FAIL (R543). -/
def execHealthCheckFail (check : Nat) (s : State) : Host.Outcome State Fault Refusal :=
  live (Instr.healthCheckFail check).wf s fun s => settle (healthFails s check)

/-- CURE_END (R545). -/
def execCureEnd (s : State) : Host.Outcome State Fault Refusal :=
  live Instr.cureEnd.wf s fun s => settle (cureEnds s)

/-- STRIP (R545). -/
def execStrip (s : State) : Host.Outcome State Fault Refusal :=
  live Instr.strip.wf s fun s => settle (strips s)

/-- UNIT_RETURN (R548). -/
def execUnitReturn (kind index : Nat) (s : State) : Host.Outcome State Fault Refusal :=
  live (Instr.unitReturn kind index).wf s fun s => settle (unitReady s kind index)

/-- BOOT (R534). -/
def execBoot (s : State) : Host.Outcome State Fault Refusal :=
  live Instr.boot.wf s fun s => settle (boots s)

end Sys2Proof.Machine
end

