-- ==== Sys2Proof/Machine/Cores.lean ====
section
/-! DEFINITION. The commands of the host cores (spec/14): resident programs and their calls, mailboxes, cores that fail or are updated. -/

namespace Sys2Proof.Machine

open Sys2Proof

/-- The state of a call by the program on a core, where one runs on it and waits for nothing. -/
def withCall (s : State) (core : Nat) (f : ResEnt → State) : State :=
  match callSlot s core with
  | some e => settle (f e)
  | none => s

/-- EXIT (R454): the core stops; with its last core the program is STOPPED. -/
def coreExits (s : State) (core : Nat) (e : ResEnt) : State :=
  let left := without (resOf s e.slot).cores core
  let s := setRes s e.slot fun r => { r with cores := left }
  if left.isEmpty then resStop s e.slot 3 0 else s

/-- Flags of a READ with ACQ or VOL. -/
def readFlags (acq vol : Bool) : Nat := (if acq then 2 ^ flagAcq else 0) + if vol then 2 ^ flagVol else 0

/-- TILE_INVOKE by a program: of a program slot of this home with the same key only (R454). -/
def coreInvokes (s : State) (core slot : Nat) (bases : List (BitVec 64)) (e : ResEnt) : State :=
  if (progSt s slot).serving.any fun p => p.key == e.key then
    let payload := beBytes 2 slot ++ beBytes 1 bases.length ++ List.replicate 5 0 ++ bases.flatMap fun b => beBytes 8 b.toNat
    coreCall s core e (selfEp s) Op.tileInvoke 0 0 payload
  else coreReturn s core St.accessDenied []

/-- MBX_RECV (R454). -/
def coreReceives (s : State) (core : Nat) (wait : Bool) (e : ResEnt) : State :=
  if !(resOf s e.slot).mail.isEmpty then mailTo s e.slot core
  else if wait then coreWaits s core (.message e.slot)
  else coreReturn s core St.notReady []

/-- RANDOM (R454, R478). -/
def coreRandom (s : State) (core n : Nat) : State :=
  if rngServes s then
    let r := randomBytes s (min n 64)
    coreReturn r.2 core St.ok r.1
  else coreReturn s core St.notReady []

/-- A resident program faults (R456, R461). -/
def programFaults (s : State) (core cause pc : Nat) : State :=
  match s.cor.res.find? fun p => p.2.cores.contains core with
  | some p => raise (resStop s p.1 4 cause) Reg.glbHostEvent 1 2 p.1 (det 1 p.1 ++ det 1 cause ++ det 8 pc)
  | none => s

/-- RESIDENT_START (R453). -/
def execResidentStart (slot : Nat) (s : State) : Host.Outcome State Fault Refusal :=
  live (Instr.residentStart slot).wf s fun s => settle (resStart s slot)

/-- EXIT (R454, a7 = 0). -/
def execExit (core : Nat) (s : State) : Host.Outcome State Fault Refusal :=
  live (Instr.exit core).wf s fun s => withCall s core (coreExits s core)

/-- POOL_READ (R454, a7 = 1). -/
def execPoolRead (core home : Nat) (address : BitVec 64) (size : Nat) (acq vol : Bool) (s : State) : Host.Outcome State Fault Refusal :=
  live (Instr.poolRead core home address size acq vol).wf s fun s =>
    withCall s core fun e =>
      coreCall s core e home Op.read (readFlags acq vol) address.toNat (beBytes 2 size ++ [0, 0])

/-- POOL_WRITE (R454, a7 = 2). -/
def execPoolWrite (core home : Nat) (address : BitVec 64) (data : List Byte) (rel : Bool) (s : State) : Host.Outcome State Fault Refusal :=
  live (Instr.poolWrite core home address data rel).wf s fun s =>
    withCall s core fun e => coreCall s core e home Op.write (if rel then 2 ^ flagRel else 0) address.toNat data

/-- POOL_ATOMIC (R231, R454, a7 = 3). -/
def execPoolAtomic (core home : Nat) (address : BitVec 64) (payload : List Byte) (s : State) : Host.Outcome State Fault Refusal :=
  live (Instr.poolAtomic core home address payload).wf s fun s =>
    withCall s core fun e =>
      if home = selfEp s then coreCall s core e home Op.atomic 0 address.toNat payload else coreReturn s core St.unsupported []

/-- POOL_FLUSH (R454, a7 = 4). -/
def execPoolFlush (core home : Nat) (address : BitVec 64) (bytes : BitVec 64) (s : State) : Host.Outcome State Fault Refusal :=
  live (Instr.poolFlush core home address bytes).wf s fun s =>
    withCall s core fun e => coreCall s core e home Op.flush 0 address.toNat (beBytes 8 bytes.toNat)

/-- TILE_INVOKE by a resident program (R454, a7 = 5). -/
def execEcallTileInvoke (core slot : Nat) (bases : List (BitVec 64)) (s : State) : Host.Outcome State Fault Refusal :=
  live (Instr.ecallTileInvoke core slot bases).wf s fun s => withCall s core (coreInvokes s core slot bases)

/-- MBX_RECV (R454, a7 = 6). -/
def execMbxRecv (core : Nat) (wait : Bool) (s : State) : Host.Outcome State Fault Refusal :=
  live (Instr.mbxRecv core wait).wf s fun s => withCall s core (coreReceives s core wait)

/-- MBX_SEND (R454, R455, a7 = 7): to another endpoint, or to a program of this device. -/
def execMbxSend (core dest mailbox : Nat) (cookie : BitVec 32) (message : List Byte) (s : State) : Host.Outcome State Fault Refusal :=
  live (Instr.mbxSend core dest mailbox cookie message).wf s fun s =>
    withCall s core fun e =>
      coreCall s core e (if residentEp s dest then selfEp s else dest) Op.mbxPost 0 0 (beBytes 2 mailbox ++ [0, 0] ++ beBytes 4 cookie.toNat ++ message)

/-- TIME (R454, a7 = 8). -/
def execTime (core : Nat) (s : State) : Host.Outcome State Fault Refusal :=
  live (Instr.time core).wf s fun s => withCall s core fun _ => coreReturn s core St.ok (beBytes 8 (now s) ++ beBytes 1 (almCode s.alm.st))

/-- RANDOM (R454, R478, a7 = 9). -/
def execRandom (core n : Nat) (s : State) : Host.Outcome State Fault Refusal :=
  live (Instr.random core n).wf s fun s => withCall s core fun _ => coreRandom s core n

/-- Any other a7 (R454). -/
def execEcallUnknown (core a7 : Nat) (s : State) : Host.Outcome State Fault Refusal :=
  live (Instr.ecallUnknown core a7).wf s fun s => withCall s core fun _ => coreReturn s core St.malformed []

/-- MBX_POST (R455). -/
def execMbxPost (m : Msg) (s : State) : Host.Outcome State Fault Refusal :=
  live (Instr.mbxPost m).wf s fun s => receivePmt s Op.mbxPost m

/-- RES_FAULTED (R456). -/
def execResFaulted (core cause : Nat) (pc : BitVec 64) (s : State) : Host.Outcome State Fault Refusal :=
  live (Instr.resFaulted core cause pc).wf s fun s => settle (programFaults s core cause pc.toNat)

/-- FIRMWARE_CORE_RETIRED (R452). -/
def execFirmwareCoreRetired (core : Nat) (s : State) : Host.Outcome State Fault Refusal :=
  live (Instr.firmwareCoreRetired core).wf s fun s => settle (firmwareRetired s core)

/-- HOST_CORE_FAULT (R452, R558). -/
def execHostCoreFault (core : Nat) (s : State) : Host.Outcome State Fault Refusal :=
  live (Instr.hostCoreFault core).wf s fun s => settle (unitFault s 9 core)

/-- FIRMWARE_CORE_UPDATE_DONE (R451). -/
def execFirmwareCoreUpdateDone (core : Nat) (s : State) : Host.Outcome State Fault Refusal :=
  live (Instr.firmwareCoreUpdateDone core).wf s fun s => settle (firmwareUpdated s core)

end Sys2Proof.Machine
end

