-- ==== Sys2Proof/Machine/Dense.lean ====
section
/-! DEFINITION. The commands of the dense tier (spec/09): what its trays send, its timers, media care, recovery. -/

namespace Sys2Proof.Machine

open Sys2Proof

/-- The media command of a tray and tag, whatever its kind. -/
def mediaWaits (s : State) (tray tag : Nat) : Option (Nat × Media) :=
  ([Op.brSense, Op.brProgram, Op.brErase]).findSome? fun op => mediaJob s tray op tag

/-- MEDIA_MS of a media command runs out: BR_HEALTH asks whether the tray still answers (R270). -/
def mediaExpires (s : State) (tray tag : Nat) : State :=
  match mediaWaits s tray tag with
  | some (j, _) => if (outWith s (.brHealth tray j)).isSome then s else brRequest s tray Op.brHealth 0 0 0 [] (.brHealth tray j)
  | none => s

/-- Recovery begins where the coat lists dense trays (R302). -/
def recoveryBegins (s : State) : State := if (coat s).dense.trays.isEmpty then s else denseRecover s

/-- BR_DONE (R269, R270). -/
def execBrDone (m : Msg) (s : State) : Host.Outcome State Fault Refusal :=
  live (Instr.brDone m).wf s fun s => receivePmt s Op.brDone m

/-- BR_NOTIFY (R274). -/
def execBrNotify (m : Msg) (s : State) : Host.Outcome State Fault Refusal :=
  live (Instr.brNotify m).wf s fun s => receivePmt s Op.brNotify m

/-- MEDIA_TIMEOUT (R270). -/
def execMediaTimeout (tray tag : Nat) (s : State) : Host.Outcome State Fault Refusal :=
  live (Instr.mediaTimeout tray tag).wf s fun s => settle (mediaExpires s tray tag)

/-- BRIDGE_BUSY_RETRY (R267). -/
def execBridgeBusyRetry (tray tag : Nat) (s : State) : Host.Outcome State Fault Refusal :=
  live (Instr.bridgeBusyRetry tray tag).wf s fun s => settle (bridgeRetry s tray tag)

/-- GC_STEP (R285). -/
def execGcStep (s : State) : Host.Outcome State Fault Refusal :=
  live Instr.gcStep.wf s fun s => settle (gcRun s)

/-- REFRESH (R292). -/
def execRefresh (unit : Nat) (s : State) : Host.Outcome State Fault Refusal :=
  live (Instr.refresh unit).wf s fun s => settle (refreshUnit s unit)

/-- PATROL_STEP (R293). -/
def execPatrolStep (s : State) : Host.Outcome State Fault Refusal :=
  live Instr.patrolStep.wf s fun s => settle (patrolRun s)

/-- REBUILD_STEP (R294). -/
def execRebuildStep (s : State) : Host.Outcome State Fault Refusal :=
  live Instr.rebuildStep.wf s fun s => settle (rebuildRun s)

/-- MAP_CHECKPOINT (R301). -/
def execMapCheckpoint (s : State) : Host.Outcome State Fault Refusal :=
  live Instr.mapCheckpoint.wf s fun s => settle (checkpoint s)

/-- DENSE_RECOVERY (R302). -/
def execDenseRecovery (s : State) : Host.Outcome State Fault Refusal :=
  live Instr.denseRecovery.wf s fun s => settle (recoveryBegins s)

/-- RECOVERY_DONE (R302). -/
def execRecoveryDone (s : State) : Host.Outcome State Fault Refusal :=
  live Instr.recoveryDone.wf s fun s => settle (recovered s)

end Sys2Proof.Machine
end

