-- ==== Sys2Proof/Machine/Gather.lean ====
section
/-! DEFINITION. The commands of Gather, Sieve and the reduce-update-broadcast pipeline (spec/11). -/

namespace Sys2Proof.Machine

open Sys2Proof

/-- GATHER (R355). -/
def execGather (m : Msg) (s : State) : Host.Outcome State Fault Refusal :=
  live (Instr.gather m).wf s fun s => receivePmt s Op.gather m

/-- SIEVE (R362). -/
def execSieve (m : Msg) (s : State) : Host.Outcome State Fault Refusal :=
  live (Instr.sieve m).wf s fun s => receivePmt s Op.sieve m

/-- GATHER_UNIT_RETIRED (R360). -/
def execGatherUnitRetired (isSieve : Bool) (unit : Nat) (s : State) : Host.Outcome State Fault Refusal :=
  live (Instr.gatherUnitRetired isSieve unit).wf s fun s => settle (gatherRetired s (if isSieve then 5 else 4) unit)

/-- RUB_UPDATE (R371). -/
def execRubUpdate (group tile : Nat) (s : State) : Host.Outcome State Fault Refusal :=
  live (Instr.rubUpdate group tile).wf s fun s => settle (rubStart s group tile)

end Sys2Proof.Machine
end

