-- ==== Sys2Proof/Machine/Link.lean ====
section
/-! DEFINITION. The commands of ports, lanes and links (spec/03): training, link-level replay, lane faults and sparing, error
windows, cages. -/

namespace Sys2Proof.Machine

open Sys2Proof

/-- PORT_TRAIN_DONE (R63, R67): success aligns the port, and after a failed attempt is a transient; the third failure in a row is a permanent
port fault (R78). -/
def execPortTrainDone (port : Nat) (ok : Bool) (s : State) : Host.Outcome State Fault Refusal :=
  live (Instr.portTrainDone port ok).wf s fun s =>
    let q := portOf s port
    if !mayTrain s port || !(q.st == .training || q.st == .down) || q.llr.initSent then s
    else
      let s := if q.st == .down then setPort s port fun q => { q with st := .training, mask := trainMask s port } else s
      if ok then aligned (if q.attempts = 0 then s else transientFault s) port
      else if q.attempts + 1 < 3 then setPort s port fun q => { q with attempts := q.attempts + 1 }
      else portFault (setPort s port fun q => { q with attempts := 0 }) port

/-- DEGRADE_TIMEOUT (R81): the partner has not come up at the degraded speed within 2 s. In the tick of a fault of the port only the fault is
reported (R46). -/
def execDegradeTimeout (port : Nat) (s : State) : Host.Outcome State Fault Refusal :=
  live (Instr.degradeTimeout port).wf s fun s =>
    let q := portOf s port
    if (q.st == .training || q.st == .down) && q.degrading && q.faultTick != some (tickNow s) then
      portEvent (setPort (portDown s port) port fun q => { q with held := true }) port 4 3
    else s

/-- LLR_INIT_RX (R67): once INIT has been sent and received, the port may send DATA from SEQ 0. -/
def execLlrInitRx (port : Nat) (h : LlrHdr) (s : State) : Host.Outcome State Fault Refusal :=
  live (Instr.llrInitRx port h).wf s fun s =>
    if !hasLlr s port then s
    else if !llrHdrOk s port 3 h then llrMalformed s port
    else if (portOf s port).st == .training && (portOf s port).llr.initSent then
      comeUp (setPort s port fun q => { q with llr := { q.llr with initRcvd := true } }) port
    else s

/-- LLR_INIT_TIMEOUT (R67): no INIT within 1 ms of alignment. -/
def execLlrInitTimeout (port : Nat) (s : State) : Host.Outcome State Fault Refusal :=
  live (Instr.llrInitTimeout port).wf s fun s =>
    let q := portOf s port
    if q.st == .training && q.llr.initSent && !q.llr.initRcvd then
      portEvent (setPort s port fun q => { q with st := .down, llr := {} }) port 0 3
    else s

/-- LLR_ACK_TIMER (R68). -/
def execLlrAckTimer (port : Nat) (s : State) : Host.Outcome State Fault Refusal :=
  live (Instr.llrAckTimer port).wf s fun s =>
    if llrActive s port && (portOf s port).llr.ackDue != 0 then ackSent (sendCtl s port 1 0 false) port else s

/-- LLR_ACK_RX (R69). -/
def execLlrAckRx (port : Nat) (h : LlrHdr) (s : State) : Host.Outcome State Fault Refusal :=
  live (Instr.llrAckRx port h).wf s fun s =>
    llrTakes s port 1 h fun s => ackCarried s port h

/-- LLR_NAK_RX (R69): every frame from the one named onwards is sent again. -/
def execLlrNakRx (port : Nat) (h : LlrHdr) (s : State) : Host.Outcome State Fault Refusal :=
  live (Instr.llrNakRx port h).wf s fun s =>
    llrTakes s port 2 h fun s =>
    if (portOf s port).llr.unacked.isEmpty || (acked (portOf s port).llr.unacked h.ackSeq.toNat).isNone then
      ackAdvance s port h.ackSeq.toNat
    else replay (ackAdvance s port h.ackSeq.toNat) port

/-- LLR_REPLAY_TIMEOUT (R69); while a lane is being spared the replay waits for SPARE_DONE (R73); an acknowledgement of the same tick has
cancelled the timer (R71). -/
def execLlrReplayTimeout (port : Nat) (s : State) : Host.Outcome State Fault Refusal :=
  live (Instr.llrReplayTimeout port).wf s fun s =>
    if llrActive s port && (portOf s port).sparing.isNone && (portOf s port).llr.ackTick != some (tickNow s) then replay s port else s

/-- LOSS_OF_SIGNAL (R78): LOS_HOLD is armed and delivery on the lane's port stops. -/
def execLossOfSignal (lane : Nat) (s : State) : Host.Outcome State Fault Refusal :=
  live (Instr.lossOfSignal lane).wf s fun s =>
    if (laneOf s lane).role == .retired then s
    else setLane s lane fun l => { l with signal := false, lock := false, losArmed := true }

/-- LANE_LOCK_REGAINED (R78): a loss that ended within LOS_HOLD is a transient, counted. -/
def execLaneLockRegained (lane : Nat) (s : State) : Host.Outcome State Fault Refusal :=
  live (Instr.laneLockRegained lane).wf s fun s =>
    let l := laneOf s lane
    if l.role == .retired then s
    else
      let s := setLane s lane fun l => { l with signal := true, lock := true, losArmed := false }
      if l.losArmed then transientFault (setLane s lane fun l => { l with losCount := (l.losCount + 1) % two32 }) else s

/-- LOS_HOLD_EXPIRY (R78): a loss that lasted LOS_HOLD is a permanent lane fault. -/
def execLosHoldExpiry (lane : Nat) (s : State) : Host.Outcome State Fault Refusal :=
  live (Instr.losHoldExpiry lane).wf s fun s =>
    if (laneOf s lane).losArmed then laneFault (setLane s lane fun l => { l with losArmed := false }) lane else s

/-- One lane's 1 ms window (R78): corrected symbols counted, the symbol error ratio judged over three windows in a row. -/
def laneWindow (s : State) (p : Nat) (w : LaneWin) : State :=
  let e := coatFld s (lnkPort Reg.lnkFaultCfg (p / 8 * 8)) 0 4 5
  let high := w.symbols < w.errors * 2 ^ e
  let run := (laneOf s w.lane).serRun
  let s := bump s (lnkAddr Reg.lnkLaneSymCorrLo w.lane) w.corrected
  let s := setLane s w.lane fun l => { l with winCorr := w.corrected, serRun := if high then l.serRun + 1 else 0 }
  if !high && run != 0 then transientFault s else s

/-- UNCORR_LIMIT, where 0 means 4,096 (R78). -/
def uncorrLimit (s : State) (p : Nat) : Nat :=
  let n := coatFld s (lnkPort Reg.lnkFaultCfg (p / 8 * 8)) 0 9 12
  if n = 0 then 4096 else n

/-- LINK_ERROR_WINDOW (R78, R79): lane conditions first, then the port's uncorrectable codewords, then, where a 1 s window ends,
its replay episodes. -/
def execLinkErrorWindow (port : Nat) (lanes : List LaneWin) (uncorr : Nat) (second : Bool) (s : State) :
    Host.Outcome State Fault Refusal :=
  live (Instr.linkErrorWindow port lanes uncorr second).wf s fun s =>
    let s := bumpPort s Reg.lnkFecUncorrLo port uncorr
    let s := lanes.foldl (fun s w => laneWindow s port w) s
    let s := lanes.foldl (fun s w => if 3 ≤ (laneOf s w.lane).serRun then laneFault s w.lane else s) s
    let s := if uncorrLimit s port < uncorr then portFault s port else if uncorr = 0 then s else transientFault s
    if second then
      let n := (portOf s port).llr.episodes
      let s := setPort s port fun q => { q with llr := { q.llr with episodes := 0 } }
      if coatFld s (lnkPort Reg.lnkFaultCfg (port / 8 * 8)) 0 21 8 < n then portFault s port
      else if n = 0 then s else transientFault s
    else s

/-- POOL_ENDPOINT: this device's endpoint ID. -/
def ownEp (s : State) : Nat := coatFld s Reg.poolEndpoint 0 0 20

/-- The receiving end's part of sparing: new DATA held, SPARE_ACK, the logical lane moved, the failed lane retired (R73). -/
def answerSpareReq (s : State) (p logical : Nat) : State :=
  let failed := (portOf s p).lanes.getD logical 0
  let s := setPort s p fun q =>
    { q with st := .sparing, sparing := some { logical := logical, failedLane := failed, detector := false } }
  let s := moveToSpare (sendCtl s p 5 logical true) p logical
  let s := setLane s failed fun l => { l with role := .retired, port := none, losArmed := false }
  laneEvent (retireUnit (permanentFault s) 0 failed) failed 1

/-- SPARE_REQ_RX (R73, R74). -/
def execSpareReqRx (port : Nat) (h : LlrHdr) (partner : Nat) (s : State) : Host.Outcome State Fault Refusal :=
  live (Instr.spareReqRx port h partner).wf s fun s =>
    if !hasLlr s port then s
    else if !llrHdrOk s port 4 h then llrMalformed s port
    else
      let s := if llrActive s port then ackCarried s port h else s
      match (portOf s port).sparing with
      | none =>
        if spareIdle s port && (portTakes s port || (portOf s port).st == .training) then answerSpareReq s port h.lane.toNat else s
      | some x =>
        if x.moved then s
        else if x.logical = h.lane.toNat then moveToSpare s port x.logical
        else if partner < ownEp s then degradePort (answerSpareReq s port h.lane.toNat) port
        else
          let other := (portOf s port).lanes.getD h.lane.toNat 0
          laneFault (moveToSpare s port x.logical) other

/-- SPARE_ACK_RX (R73). -/
def execSpareAckRx (port : Nat) (h : LlrHdr) (s : State) : Host.Outcome State Fault Refusal :=
  live (Instr.spareAckRx port h).wf s fun s =>
    if !hasLlr s port then s
    else if !llrHdrOk s port 5 h then llrMalformed s port
    else
      let s := if llrActive s port then ackCarried s port h else s
      match (portOf s port).sparing with
      | some x => if x.detector && !x.moved && x.logical == h.lane.toNat then moveToSpare s port x.logical else s
      | none => s

/-- SPARE_ALIGN_LOCK (R73): lock on the new lane set; SPARE_DONE names the last DATA received in order. -/
def execSpareAlignLock (port : Nat) (s : State) : Host.Outcome State Fault Refusal :=
  live (Instr.spareAlignLock port).wf s fun s =>
    match (portOf s port).sparing with
    | some x =>
      if x.moved && !x.locked then
        let s := setPort (lanesLocked s port) port fun q => { q with sparing := some { x with locked := true } }
        sendCtl s port 6 0 false
      else s
    | none => s

/-- SPARE_DONE_RX (R73): frames after the ACK_SEQ received are sent again, and new DATA resumes. -/
def execSpareDoneRx (port : Nat) (h : LlrHdr) (s : State) : Host.Outcome State Fault Refusal :=
  live (Instr.spareDoneRx port h).wf s fun s =>
    if !hasLlr s port then s
    else if !llrHdrOk s port 6 h then llrMalformed s port
    else match (portOf s port).sparing with
      | some x =>
        if !x.locked then s
        else if llrActive s port then replay (sparingDone (ackAdvance s port h.ackSeq.toNat) port) port
        else sparingDone s port
      | none => s

/-- SPARE_LOST (R72): the idle spare of a group fails. -/
def execSpareLost (group : Nat) (s : State) : Host.Outcome State Fault Refusal :=
  live (Instr.spareLost group).wf s fun s =>
    let n := groupSpare s (basePort s + 8 * group)
    if (laneOf s n).role == .idleSpare then laneFault s n else s

/-- CAGE_RETRY_EXPIRY (R84): acknowledged, the transaction is complete; the third retry that fails marks the cage ABSENT. -/
def execCageRetryExpiry (group : Nat) (busB acked : Bool) (s : State) : Host.Outcome State Fault Refusal :=
  live (Instr.cageRetryExpiry group busB acked).wf s fun s =>
    let c := cage s group busB
    if !c.retrying then s
    else if acked then setCage s group busB fun c => { c with st := 2, retrying := false, tries := 0 }
    else if c.tries + 1 < 3 then setCage s group busB fun c => { c with tries := c.tries + 1 }
    else
      let s := setCage s group busB fun c => { c with st := 3, retrying := false, tries := 0 }
      let s := (cagePorts s group busB).foldl (fun s p => if portTakes s p || (portOf s p).st == .training then portDown s p else s) s
      logEvent s 2 3 33 noUnit []

/-- CAGE_PRESENCE_CHANGE (R84). -/
def execCagePresenceChange (group : Nat) (busB present : Bool) (answer : CageAnswer) (s : State) :
    Host.Outcome State Fault Refusal :=
  live (Instr.cagePresenceChange group busB present answer).wf s fun s =>
    if !busUsed s group busB then s
    else if present then cageAnswer (setCage s group busB fun c => { c with st := if c.st = 3 then 3 else 2 }) group busB answer
    else setCage s group busB fun _ => { st := 1 }

/-- CAGE_PROBE (R84): an ABSENT cage is probed again. -/
def execCageProbe (group : Nat) (busB : Bool) (answer : CageAnswer) (s : State) : Host.Outcome State Fault Refusal :=
  live (Instr.cageProbe group busB answer).wf s fun s =>
    if (cage s group busB).st = 3 && busUsed s group busB then cageAnswer s group busB answer else s

end Sys2Proof.Machine
end

