-- ==== Sys2Proof/Machine/Power.lean ====
section
/-! DEFINITION. The commands of power, reset and fuses (spec/22). -/

namespace Sys2Proof.Machine

open Sys2Proof

/-- RESET_RELEASE (R628, R630). -/
def execResetRelease (straps : BitVec 4) (s : State) : Host.Outcome State Fault Refusal :=
  always (Instr.resetRelease straps).wf s fun s => released s straps

/-- RESET_N_ASSERTED (R628). -/
def execResetNAsserted (s : State) : Host.Outcome State Fault Refusal :=
  always Instr.resetNAsserted.wf s fun s => resetFalls s

/-- PCIE_RESET (R628): PERST_N resets the PCIe endpoint alone. -/
def execPcieReset (s : State) : Host.Outcome State Fault Refusal :=
  always Instr.pcieReset.wf s fun s => pcieResets s

/-- TAP_RESET (R628): TRST_N resets the test access port alone, which holds no state that the manual gives. -/
def execTapReset (s : State) : Host.Outcome State Fault Refusal :=
  always Instr.tapReset.wf s fun s => s

/-- RAIL_FAULT (R626). -/
def execRailFault (rail : Nat) (ovr : Bool) (s : State) : Host.Outcome State Fault Refusal :=
  always (Instr.railFault rail ovr).wf s fun s => railFaults s rail ovr

/-- CLOCK_LOST (R632). -/
def execClockLost (s : State) : Host.Outcome State Fault Refusal :=
  always Instr.clockLost.wf s fun s => stopDevice s 3 false

/-- THERMTRIP (R638). -/
def execThermtrip (s : State) : Host.Outcome State Fault Refusal :=
  always Instr.thermtrip.wf s fun s => stopDevice s 4 true

/-- REFCLK_SDS_FAIL (R632). -/
def execRefclkSdsFail (chiplet : Nat) (s : State) : Host.Outcome State Fault Refusal :=
  live (Instr.refclkSdsFail chiplet).wf s fun s => chipletLost s chiplet

/-- FUSE_PROGRAM (R648): the word written to PWR_FUSE_CTRL. -/
def execFuseProgram (value : BitVec 32) (s : State) : Host.Outcome State Fault Refusal :=
  live (Instr.fuseProgram value).wf s fun s => (regWrite s .firmware false Reg.pwrFuseCtrl value.toNat).2

/-- FUSE_PROGRAM_DONE (R648). -/
def execFuseProgramDone (matched : Bool) (s : State) : Host.Outcome State Fault Refusal :=
  live (Instr.fuseProgramDone matched).wf s fun s => fuseEnds s matched

/-- POWER_WINDOW (R636). -/
def execPowerWindow (watts : Nat) (tileOver : Bool) (s : State) : Host.Outcome State Fault Refusal :=
  live (Instr.powerWindow watts tileOver).wf s fun s => powerWindowEnds s watts tileOver

/-- THERMAL_CHECK (R636). -/
def execThermalCheck (tj hbm : List Int) (s : State) : Host.Outcome State Fault Refusal :=
  live (Instr.thermalCheck tj hbm).wf s fun s => thermalJudged s tj hbm

/-- THROTTLE_N_CHANGE (R636). -/
def execThrottleNChange (low : Bool) (s : State) : Host.Outcome State Fault Refusal :=
  live (Instr.throttleNChange low).wf s fun s => boardThrottle s low

/-- HOST_SLOWED (R637). -/
def execHostSlowed (s : State) : Host.Outcome State Fault Refusal :=
  live Instr.hostSlowed.wf s fun s => hostSlows s

/-- POWER_UNCONTROLLED (R637). -/
def execPowerUncontrolled (watts : Nat) (s : State) : Host.Outcome State Fault Refusal :=
  live (Instr.powerUncontrolled watts).wf s fun s => powerRunsOn s watts

end Sys2Proof.Machine
end

