-- ==== Sys2Proof/Machine/Recovery.lean ====
section
/-! DEFINITION. The commands of faults and recovery (spec/18): units, HBM errors, frost and thaw, self-tests. -/

namespace Sys2Proof.Machine

open Sys2Proof

/-- A lane's full calibration has run (R573). -/
def laneCalibrated (s : State) (lane : Nat) : State :=
  { s with lnk := { s.lnk with calibrated := alSet s.lnk.calibrated lane (tickNow s) } }

/-- SELFTEST_START (R571). -/
def execSelftestStart (kind index : Nat) (s : State) : Host.Outcome State Fault Refusal :=
  live (Instr.selftestStart kind index).wf s fun s => settle (testStart s kind index)

/-- SELFTEST_END (R572). -/
def execSelftestEnd (kind index : Nat) (pass : Bool) (s : State) : Host.Outcome State Fault Refusal :=
  live (Instr.selftestEnd kind index pass).wf s fun s => settle (testEnd s kind index pass)

/-- SELFTEST_WAIT_EXPIRY (R572). -/
def execSelftestWaitExpiry (source tag : Nat) (s : State) : Host.Outcome State Fault Refusal :=
  live (Instr.selftestWaitExpiry source tag).wf s fun s => settle (testWaitBusy s source tag)

/-- UNIT_FAULT (R558). -/
def execUnitFault (kind index : Nat) (s : State) : Host.Outcome State Fault Refusal :=
  live (Instr.unitFault kind index).wf s fun s => settle (unitFault s kind index)

/-- HBM_UE (R559). -/
def execHbmUe (pc row : Nat) (unreadable : List Nat) (s : State) : Host.Outcome State Fault Refusal :=
  live (Instr.hbmUe pc row unreadable).wf s fun s => settle (hbmUncorr s pc row unreadable)

/-- HBM_CE_WINDOW (R559). -/
def execHbmCeWindow (pc count row : Nat) (unreadable : List Nat) (s : State) : Host.Outcome State Fault Refusal :=
  live (Instr.hbmCeWindow pc count row unreadable).wf s fun s => settle (hbmCorrected s pc count row unreadable)

/-- HBM_ROW_REPAIRED (R559). -/
def execHbmRowRepaired (pc row : Nat) (s : State) : Host.Outcome State Fault Refusal :=
  live (Instr.hbmRowRepaired pc row).wf s fun s => settle (rowRepaired s pc row)

/-- PC_MOVE_DONE (R562). -/
def execPcMoveDone (pc : Nat) (s : State) : Host.Outcome State Fault Refusal :=
  live (Instr.pcMoveDone pc).wf s fun s => settle (pcMoved s pc)

/-- FROST_NOTICE (R566). -/
def execFrostNotice (m : Msg) (s : State) : Host.Outcome State Fault Refusal :=
  live (Instr.frostNotice m).wf s fun s => receivePmt s Op.frostNotice m

/-- THAW (R567). -/
def execThaw (m : Msg) (s : State) : Host.Outcome State Fault Refusal :=
  live (Instr.thaw m).wf s fun s => receivePmt s Op.thaw m

/-- THAW_APPLY (R567, R568). -/
def execThawApply (job : Nat) (s : State) : Host.Outcome State Fault Refusal :=
  live (Instr.thawApply job).wf s fun s => settle (thawApplied s job)

/-- CALIBRATION (R573). -/
def execCalibration (lane : Nat) (s : State) : Host.Outcome State Fault Refusal :=
  live (Instr.calibration lane).wf s fun s => laneCalibrated s lane

end Sys2Proof.Machine
end

