-- ==== Sys2Proof/Machine/Reduction.lean ====
section
/-! DEFINITION. The commands of in-network reduction (spec/10): contributions, gauges, timers and faults of staging. -/

namespace Sys2Proof.Machine

open Sys2Proof

/-- RED_CONTRIB (R330). -/
def execRedContrib (m : Msg) (s : State) : Host.Outcome State Fault Refusal :=
  live (Instr.redContrib m).wf s fun s => receivePmt s Op.redContrib m

/-- SPILL_READBACK (R334). -/
def execSpillReadback (group epoch chunk : Nat) (s : State) : Host.Outcome State Fault Refusal :=
  live (Instr.spillReadback group epoch chunk).wf s fun s => settle (readbackDone s group epoch chunk)

/-- STAGE_WAIT_EXPIRY (R332). -/
def execStageWaitExpiry (source tag : Nat) (s : State) : Host.Outcome State Fault Refusal :=
  live (Instr.stageWaitExpiry source tag).wf s fun s => settle (stageBusy s source tag)

/-- LATE_EXPIRY (R341). -/
def execLateExpiry (group epoch chunk : Nat) (s : State) : Host.Outcome State Fault Refusal :=
  live (Instr.lateExpiry group epoch chunk).wf s fun s => settle (lateChunk s group epoch chunk)

/-- FAIL_EXPIRY (R342). -/
def execFailExpiry (group epoch chunk : Nat) (s : State) : Host.Outcome State Fault Refusal :=
  live (Instr.failExpiry group epoch chunk).wf s fun s => settle (failChunk s group epoch chunk)

/-- GAUGE_INC (R338). -/
def execGaugeInc (m : Msg) (s : State) : Host.Outcome State Fault Refusal :=
  live (Instr.gaugeInc m).wf s fun s => receivePmt s Op.gaugeInc m

/-- GAUGE_READ (R340). -/
def execGaugeRead (m : Msg) (s : State) : Host.Outcome State Fault Refusal :=
  live (Instr.gaugeRead m).wf s fun s => receivePmt s Op.gaugeRead m

/-- UNIT_RETIRED (R344). -/
def execUnitRetired (unit : Nat) (s : State) : Host.Outcome State Fault Refusal :=
  live (Instr.unitRetired unit).wf s fun s => settle (trowelRetired s unit)

/-- STAGE_UNCORR (R345). -/
def execStageUncorr (group epoch chunk : Nat) (s : State) : Host.Outcome State Fault Refusal :=
  live (Instr.stageUncorr group epoch chunk).wf s fun s => settle (stageUncorr s group epoch chunk)

end Sys2Proof.Machine
end

