-- ==== Sys2Proof/Machine/Scrim.lean ====
section
/-! DEFINITION. The commands of Scrim twin mode (spec/16). -/

namespace Sys2Proof.Machine

open Sys2Proof

/-- No partner has paired within the time (R507). -/
def pairExpires (s : State) : State := if s.scr.st = .training then pairMismatch s 3 else s

/-- BRIDGE_TRAIN_DONE (R507). -/
def execBridgeTrainDone (groups : BitVec 8) (s : State) : Host.Outcome State Fault Refusal :=
  live (Instr.bridgeTrainDone groups).wf s fun s => settle (bridgeTrained s groups)

/-- HELLO (R507). -/
def execHello (role : BitVec 2) (devid : Nat) (serial : BitVec 32) (digest : Nat) (s : State) : Host.Outcome State Fault Refusal :=
  live (Instr.hello role devid serial digest).wf s fun s => settle (helloRx s role.toNat devid serial.toNat digest)

/-- PAIR_TIMEOUT (R507). -/
def execPairTimeout (s : State) : Host.Outcome State Fault Refusal :=
  live Instr.pairTimeout.wf s fun s => settle (pairExpires s)

/-- GROUP_RETIRED (R504). -/
def execGroupRetired (group : Nat) (s : State) : Host.Outcome State Fault Refusal :=
  live (Instr.groupRetired group).wf s fun s => settle (bridgeGroupLost s group)

/-- HEARTBEAT (R517). -/
def execHeartbeat (s : State) : Host.Outcome State Fault Refusal :=
  live Instr.heartbeat.wf s fun s => heartbeat s

/-- PARTNER_SILENCE (R517). -/
def execPartnerSilence (alive : Bool) (s : State) : Host.Outcome State Fault Refusal :=
  live (Instr.partnerSilence alive).wf s fun s => settle (partnerSilent s alive)

/-- TAKEOVER (R518). -/
def execTakeover (s : State) : Host.Outcome State Fault Refusal :=
  live Instr.takeover.wf s fun s => settle (takeOver s)

/-- COMMIT_RECORD (R513). -/
def execCommitRecord (c : Commit) (s : State) : Host.Outcome State Fault Refusal :=
  live (Instr.commitRecord c).wf s fun s => settle (commitRx s c)

/-- COMMIT_ACK (R513). -/
def execCommitAck (id : Nat) (s : State) : Host.Outcome State Fault Refusal :=
  live (Instr.commitAck id).wf s fun s => settle (commitAcked s id)

/-- SHADOW_WAIT_EXPIRY (R514). -/
def execShadowWaitExpiry (source tag : Nat) (s : State) : Host.Outcome State Fault Refusal :=
  live (Instr.shadowWaitExpiry source tag).wf s fun s => settle (shadowWaitBusy s source tag)

/-- CONTROL_TRANSACTION (R516). -/
def execControlTransaction (kind : CtlKind) (mine partnerToo : Bool) (s : State) : Host.Outcome State Fault Refusal :=
  live (Instr.controlTransaction kind mine partnerToo).wf s fun s => settle (controlStarts s kind mine partnerToo)

/-- SHADOW_STREAM (R519). -/
def execShadowStream (count : Nat) (s : State) : Host.Outcome State Fault Refusal :=
  live (Instr.shadowStream count).wf s fun s => settle (streamShadow s count)

/-- HANDBACK (R519). -/
def execHandback (s : State) : Host.Outcome State Fault Refusal :=
  live Instr.handback.wf s fun s => settle (handBack s)

end Sys2Proof.Machine
end

