-- ==== Sys2Proof/Machine/Switch.lean ====
section
/-! DEFINITION. The commands of the switch core (spec/04) and of the schedulers, shapers and policers (spec/05), but for the
arrival of frames. -/

namespace Sys2Proof.Machine

open Sys2Proof

/-! ### Tables, pauses, planes, cells -/

/-- MAC_AGE_OUT (R104). -/
def execMacAgeOut (vlan : Nat) (mac : BitVec 48) (s : State) : Host.Outcome State Fault Refusal :=
  live (Instr.macAgeOut vlan mac).wf s fun s =>
    { s with swc := { s.swc with learned := s.swc.learned.filter fun e => !(e.vlan == vlan && e.mac == mac) } }

/-- A received pause of one priority, ignored for one that the coat maps to privileged classes only (R115); in a storm it is ignored and
noted (R118, R119). -/
def pauseOne (s : State) (p q quanta : Nat) : State :=
  if !pfcEnabled s p q || privilegedOnly s q then s
  else if (pauseOf s p q).storm then (if quanta = 0 then s else setPause s p q fun x => { x with rxTick := some (tickNow s) })
  else setPaused s p q (quanta != 0)

/-- PFC_RX (R115, R118). -/
def execPfcRx (port : Nat) (enable : BitVec 8) (quanta : List Nat) (s : State) : Host.Outcome State Fault Refusal :=
  live (Instr.pfcRx port enable quanta).wf s fun s =>
    let s := bumpSel (look s port) Reg.swcPfcRxLo port 1
    (List.range 8).foldl (fun s q => if enable.getLsbD q then pauseOne s port q (quanta.getD q 0) else s) s

/-- PFC_REFRESH (R116): the PFC frame is repeated while the account stays at or above XON. -/
def execPfcRefresh (port prio : Nat) (s : State) : Host.Outcome State Fault Refusal :=
  live (Instr.pfcRefresh port prio).wf s fun s =>
    let a := accountOf s port prio
    if a.paused && xoff64 s port ≤ (a.cells + 72) * 64 then sendPfc s port prio 0xFFFF else s

/-- PFC_QUANTA_EXPIRY (R118). -/
def execPfcQuantaExpiry (port prio : Nat) (s : State) : Host.Outcome State Fault Refusal :=
  live (Instr.pfcQuantaExpiry port prio).wf s fun s =>
    if (pauseOf s port prio).paused then setPaused (look s port) port prio false else s

/-- PFC_WD_MS in ticks (R131). -/
def pfcWdTicks (s : State) : Nat := 500000 * coatFld s Reg.swcCfg 0 13 10

/-- PFC_WD_EXPIRY (R119): a storm is declared, or ends once PFC_WD_MS has passed with no pause received. -/
def execPfcWdExpiry (port prio : Nat) (s : State) : Host.Outcome State Fault Refusal :=
  live (Instr.pfcWdExpiry port prio).wf s fun s =>
    let x := pauseOf s port prio
    if x.storm then
      if x.rxTick.all fun t => t + pfcWdTicks s ≤ tickNow s then setPause s port prio fun x => { x with storm := false, rxTick := none } else s
    else if x.paused then
      let s := setPause (setPaused (look s port) port prio false) port prio fun x => { x with storm := true, rxTick := none }
      let s := raise s Reg.swcEventStatus 2 3 port []
      let t := takeQueued s fun e => e.port == port && e.cls == prio
      dropCopies (bumpSel t.2 Reg.swcQDropLo (qSel port prio) t.1.length) t.1
    else s

/-- Milliseconds of the device's count. -/
def msNow (s : State) : Nat := s.pwr.uptime / 500000

/-- The stored frame that a missing cell of a pair belongs to: the cell is among the 1,024 last sent (R120), and its frame is still in the
buffer, whole (R121, R129). -/
def missingCell (s : State) (x : XPair) (seq : Nat) : Option BufFrame :=
  match (xKept x).find? fun r => (seq + 4096 - r.first) % 4096 < r.cells with
  | some r => (bufFrame s r.frame).filter fun b => !b.stomped
  | none => none

/-- The next plane in service after a plane (R121). -/
def nextPlane (s : State) (plane : Nat) : Option Nat := ((List.range 4).map fun i => (plane + 1 + i) % 4).find? (inService s 10)

/-- The missing cell is read from the buffer and sent again over the next plane in service (R121). -/
def resendCell (s : State) (inPort outPort plane : Nat) : State :=
  { s with swc := { s.swc with xpairs := alMod s.swc.xpairs (inPort, outPort) {} fun x => { x with resent := nextPlane s plane } } }

/-- RESEQ_TIMEOUT (R121): the missing cell is sent again over the next plane; a plane that loses more than PLANE_LIMIT cells in
1 ms is retired, and the resend goes over a plane still in service. A gap whose cell's frame has gone, or lost a cell, is no gap (R129). -/
def execReseqTimeout (inPort outPort seq plane : Nat) (s : State) : Host.Outcome State Fault Refusal :=
  live (Instr.reseqTimeout inPort outPort seq plane).wf s fun s =>
    match alGet s.swc.xpairs (inPort, outPort) with
    | none => s
    | some x =>
      if (missingCell s x seq).isNone then s
      else
        let s := bump s Reg.swcReseqResendLo 1
        let s := if s.swc.planeWindow = msNow s then s else { s with swc := { s.swc with planeWindow := msNow s, planeLost := [] } }
        let s := { s with swc := { s.swc with planeLost := alMod s.swc.planeLost plane 0 (· + 1) } }
        if inService s 10 plane && coatFld s Reg.swcCfg 0 5 8 < alGetD s.swc.planeLost plane 0 then
          resendCell (raise (retireUnit (permanentFault s) 10 plane) Reg.swcEventStatus 0 2 plane []) inPort outPort plane
        else resendCell (transientFault s) inPort outPort plane

/-- A stomp of a stored frame is counted, once (R122, R130). -/
def countStomp (s : State) (id : Nat) : State :=
  if (bufFrame s id).any fun b => !b.stompCounted then
    bump (setBufFrame s id fun b => { b with stompCounted := true }) Reg.swcStompLo 1
  else s

/-- A frame that a port is sending ends stomped (R114, R122), also when it is sent again (R69). -/
def stompSending (s : State) (id p : Nat) : State :=
  let last := fun l : List Unacked => l.dropLast ++ l.getLast?.toList.map fun u => { u with stomped := true }
  countStomp (setPort (emit s (.stomp p)) p fun q => { q with llr := { q.llr with unacked := last q.llr.unacked } }) id

/-- BUF_UNCORR (R114): the frame is discarded where it waits and stomped where it is being sent; the cell location is retired.
The location's number is a free value: which cell of the buffer a frame lies in is not stated (log entry 22). -/
def execBufUncorr (frame cell : Nat) (s : State) : Host.Outcome State Fault Refusal :=
  live (Instr.bufUncorr frame cell).wf s fun s =>
    match bufFrame s frame with
    | none => s
    | some b =>
      if b.cells ≤ cell then s
      else
        let sending := (s.lnk.ports.filter fun q => q.2.txBusy == some frame).map Prod.fst
        let t := takeQueued s fun e => e.frame == frame
        let s := setBufFrame t.2 frame fun b => { b with stomped := true }
        let s := sending.foldl (fun s p => stompSending s frame p) s
        let s := raise (permanentFault s) Reg.swcEventStatus 5 2 noUnit []
        let d := draw s
        let s := retireLocation d.2 .bufferCell (d.1 % 786432)
        t.1.foldl (fun s e => look s e.port) (dropCopies s t.1)

/-! ### Slots: allowances, grants, refills -/

/-- SLOT_ALLOWANCE_SET (R143): each strict allowance becomes ALLOW x slot bytes / 256. -/
def execSlotAllowanceSet (port : Nat) (s : State) : Host.Outcome State Fault Refusal :=
  live (Instr.slotAllowanceSet port).wf s fun s =>
    if !portHere s port || !portExists s port then s
    else
      let w := coatReg s Reg.schPortCfg (schPort port)
      (List.range 3).foldl (fun s i =>
        { s with sch := { s.sch with allow := alMod s.sch.allow (port, 8 + i) {} (budgetSet s ((fld w (8 * i) 8 * slotBytes s port / 256 : Nat) : Int)) } }) s

/-- ΣSHARE of the calendar entries active on a port, in 1/256 (R49, R144). -/
def shareSum (s : State) (p : Nat) : Nat :=
  sumBy s.fc fun g => sumBy g.2.active fun i =>
    let e := (g.2.cal.entries.getD i 0).toNat
    if fld e 24 10 = p then (if fld e 16 8 = 0 then 256 else fld e 16 8) else 0

/-- RED_GRANT_SET (R144, R145): the grant is (ΣSHARE / 256) x schedulable bytes; none in ISLAND under ISLAND_POLICY 1. -/
def execRedGrantSet (port : Nat) (s : State) : Host.Outcome State Fault Refusal :=
  live (Instr.redGrantSet port).wf s fun s =>
    if !portHere s port || !portExists s port then s
    else
      let w := coatReg s Reg.schPortCfg (schPort port)
      let share := if calendarsOff s then 0 else shareSum s port
      let free := 256 - fld w 0 8 - fld w 8 8 - fld w 16 8
      { s with sch := { s.sch with grant := alMod s.sch.grant port {} (budgetSet s ((share * slotBytes s port * free / 65536 : Nat) : Int)) } }

/-- A node's tokens refilled and clipped to BURST; the tokens before stay visible to this tick's selections (R149, R150). -/
def refill (s : State) (n : NodeId) : State :=
  if bit (nodeCfg s n) 8 then
    let rate : Nat := coatFld s Reg.schNodeRate (nodeSel n) 0 22
    let burst : Nat := coatFld s Reg.schNodeBurst (nodeSel n) 0 24
    setNode s n fun x => { x with tokens := min (x.tokens + (rate : Int)) ((16 * burst : Nat) : Int), before := x.tokens, refilled := some (tickNow s) }
  else s

/-- SHAPER_REFILL (R149): the port's node, subscribers and leaves. -/
def execShaperRefill (port : Nat) (s : State) : Host.Outcome State Fault Refusal :=
  live (Instr.shaperRefill port).wf s fun s =>
    if !portHere s port then s
    else
      let s := look s port
      let subs := subsOf s port
      let nodes := [NodeId.port port] ++ subs.map NodeId.sub ++ (subs.flatMap fun n => (subLeaves n).map Prod.snd) ++
        ((List.range 9).map fun k => .pnode port k) ++ ((List.range 5).map fun k => .pnode port (13 + k))
      nodes.foldl refill s

/-- POLICER_REFILL (R152). -/
def execPolicerRefill (policer : Nat) (s : State) : Host.Outcome State Fault Refusal :=
  live (Instr.policerRefill policer).wf s fun s =>
    if bit (coatReg s Reg.schPolCfg policer) 0 then
      let b := policerBuckets s policer
      let full := policerFull s policer
      let tc := min (b.1 + coatFld s Reg.schPolCir policer 0 22) full.1
      let tp := min (b.2 + coatFld s Reg.schPolPir policer 0 22) full.2
      { s with sch := { s.sch with buckets := alSet s.sch.buckets policer (tc, tp) } }
    else s

/-! ### Selection (R142) -/

/-- A selection: the leaf that sends, its class, and the path below the port node: (parent, child, weight) of each weighted
choice. -/
structure Choice where
  leaf : NodeId
  cls : Nat
  path : List (NodeId × NodeId × Nat) := []
  strict : Option Nat := none
  granted : Bool := false
  late : Bool := false
deriving DecidableEq, Repr

/-- The leaf that a chosen child of the weighted level sends from (R142, R146). -/
def throughChild (s : State) (p : Nat) (c : NodeId) : Option Choice :=
  let w := childWeight s p c
  let sub := fun (leaves : List (Nat × NodeId)) =>
    (smallest s ((leaves.filter fun l => leafEligible s p l.1 l.2).map Prod.snd)).map fun n =>
      let cls := ((leaves.find? fun l => l.2 == n).map Prod.fst).getD 0
      ({ leaf := n, cls, path := [(.port p, c, w), (c, n, leafWeight s p n)] } : Choice)
  match c with
  | .sub n => sub (subLeaves n)
  | .pnode _ 0 => sub (defLeaves p)
  | .pnode _ 12 =>
    if leafEligible s p 11 (.pnode p 16) && grantOf s p ≤ 0 then
      some { leaf := .pnode p 16, cls := 11, path := [(.port p, c, w)], late := true }
    else some { leaf := .pnode p 17, cls := 11, path := [(.port p, c, w)] }
  | .pnode _ k => some { leaf := .pnode p (k + 4), cls := k - 1, path := [(.port p, c, w)] }
  | _ => none

/-- What a free output picks (R142): a strict class with allowance, the scheduled RED leaf with grant, the weighted level. -/
def choose (s : State) (p : Nat) : Option Choice :=
  if shaped s (.port p) then none
  else match [8, 9, 10].find? fun c => 0 < allowOf s p c && leafEligible s p c (.pnode p (c + 5)) with
    | some c => some { leaf := .pnode p (c + 5), cls := c, strict := some c }
    | none =>
      if 0 < grantOf s p && leafEligible s p 11 (.pnode p 16) then some { leaf := .pnode p 16, cls := 11, granted := true }
      else match smallest s ((weightedChildren s p).filter (childEligible s p)) with
        | some c => throughChild s p c
        | none => none

/-- ECN marking as a frame leaves its queue, on the queue's depth at that moment with the frame still in it (R126); between KMIN
and KMAX the draw is a free value. -/
def ecnMark (s : State) (p c : Nat) (f : Frame) : Frame × State :=
  match f.ip with
  | none => (f, s)
  | some i =>
    if !bit (coatReg s Reg.swcQCfg (qSel p c)) 21 || !(i.ecn == 1 || i.ecn == 2) then (f, s)
    else
      let w := coatReg s Reg.swcQEcn (qSel p c)
      let kmin := 64 * fld w 0 12
      let kmax := 64 * fld w 12 12
      let pmax := if fld w 24 8 = 0 then 256 else fld w 24 8
      let d := (queueOf s p c).depth
      let marked : Frame := { f with ip := some { i with ecn := 3 } }
      if d ≤ kmin then (f, s)
      else if kmax ≤ d then (marked, bumpSel s Reg.swcQEcnMarkLo (qSel p c) 1)
      else
        let r := draw s
        if r.1 % (256 * (kmax - kmin)) < pmax * (d - kmin) then (marked, bumpSel r.2 Reg.swcQEcnMarkLo (qSel p c) 1) else (f, r.2)

/-- A frame with its VLAN rewritten (R124). -/
def withVlan (f : Frame) : Option Nat → Frame
  | none => f
  | some v => { f with tag := some { vid := BitVec.ofNat 12 v, pcp := (f.tag.map VTag.pcp).getD 0, dei := (f.tag.map VTag.dei).getD false } }

/-- The accounts that a sent frame of `len` bytes is charged to: allowance, grant, tags, tokens, byte counts (R142 to R149). -/
def chargeChoice (s : State) (p len : Nat) (x : Choice) : State :=
  let l := acctLen s p len
  let s := match x.strict with
    | some c => { s with sch := { s.sch with allow := alMod s.sch.allow (p, c) {} (budgetSpent l) } }
    | none => s
  let s := if x.granted then { s with sch := { s.sch with grant := alMod s.sch.grant p {} (budgetSpent l) } } else s
  let s := if x.late then bumpSel s Reg.schPortRedOverLo (schPort p) 1 else s
  let s := x.path.foldl (fun s e => charge s e.1 e.2.1 l e.2.2) s
  let nodes := [NodeId.port p] ++ (x.path.map fun e => e.2.1) ++ (if (x.path.map fun e => e.2.1).contains x.leaf then [] else [x.leaf])
  nodes.foldl (fun s n => passNode s p len n) s

/-- The frame that a port has finished sending leaves the buffer (R113). -/
def endSend (s : State) (p : Nat) : State :=
  match (portOf s p).txBusy with
  | none => s
  | some id => releaseFrame (setPort s p fun q => { q with txBusy := none }) id

/-- SCHED_SELECT (R142): the output is free; the frame it picks is read from its cells (R114) and sent whole. A frame of the scheduled RED leaf counts in SCH_PORT_RED_OVER
only past its own slot (R144). The selection sees the coat as after the tick before (R141, R155). -/
def execSchedSelect (port : Nat) (s : State) : Host.Outcome State Fault Refusal :=
  live (Instr.schedSelect port).wf s fun s => asSeen s fun s =>
    let s := look (endSend s port) port
    match choose s port with
    | none => s
    | some x =>
      match leafOf s x.leaf with
      | [] => s
      | e :: rest =>
        match bufFrame s e.frame with
        | none => s
        | some b =>
          if !mayBegin s port b.frame.len then s
          else
            let s := setLeaf s x.leaf rest
            let m := ecnMark s port e.cls (withVlan b.frame e.rewrite)
            let s := dequeued m.2 e
            let s := chargeChoice s port b.frame.len { x with late := x.late && e.slot < slotNow s }
            let s := txFrame (correctedIn s Reg.swcBufEccCorrLo) port m.1 b.stomped
            let s := if b.stomped then countStomp s e.frame else s
            look (setPort s port fun q => { q with txBusy := some e.frame }) port

end Sys2Proof.Machine
end

