-- ==== Sys2Proof/Machine/Tiles.lean ====
section
/-! DEFINITION. The commands of the matrix tiles (spec/12). -/

namespace Sys2Proof.Machine

open Sys2Proof

/-- TILE_INVOKE (R404). -/
def execTileInvoke (m : Msg) (s : State) : Host.Outcome State Fault Refusal :=
  live (Instr.tileInvoke m).wf s fun s => receivePmt s Op.tileInvoke m

/-- LOWER_DONE (R401). -/
def execLowerDone (slot : Nat) (s : State) : Host.Outcome State Fault Refusal :=
  live (Instr.lowerDone slot).wf s fun s => settle (lowerEnded s slot)

/-- PART_DISPATCH (R407). -/
def execPartDispatch (tile : Nat) (s : State) : Host.Outcome State Fault Refusal :=
  live (Instr.partDispatch tile).wf s fun s => settle (dispatchPart s tile)

/-- TILE_OP_END (R409). -/
def execTileOpEnd (tile : Nat) (s : State) : Host.Outcome State Fault Refusal :=
  live (Instr.tileOpEnd tile).wf s fun s => settle (partEnded s tile)

/-- TILE_RETIRED (R411). -/
def execTileRetired (tile : Nat) (s : State) : Host.Outcome State Fault Refusal :=
  live (Instr.tileRetired tile).wf s fun s => settle (tileRetire s tile)

/-- NO_TILE_WAIT_EXPIRY (R412). -/
def execNoTileWaitExpiry (source tag : Nat) (s : State) : Host.Outcome State Fault Refusal :=
  live (Instr.noTileWaitExpiry source tag).wf s fun s => settle (noTileBusy s source tag)

/-- HOST_OP_RUN (R402). -/
def execHostOpRun (core : Nat) (s : State) : Host.Outcome State Fault Refusal :=
  live (Instr.hostOpRun core).wf s fun s => settle (hostOpStart s core)

end Sys2Proof.Machine
end

