-- ==== Sys2Proof/Machine/Dispatch.lean ====
section
/-! DEFINITION. The meaning of every command: one arm per constructor, each a direct call of that command's own meaning. -/

namespace Sys2Proof.Machine

open Sys2Proof

/-- The effect of a command on everything but the queue. -/
def exec (i : Instr) (s : State) : Host.Outcome State Fault Refusal :=
  match i with
  | .resetRelease straps => Sys2Proof.Machine.execResetRelease straps s
  | .pcieReset => Sys2Proof.Machine.execPcieReset s
  | .tapReset => Sys2Proof.Machine.execTapReset s
  | .railFault rail ovr => Sys2Proof.Machine.execRailFault rail ovr s
  | .clockLost => Sys2Proof.Machine.execClockLost s
  | .thermtrip => Sys2Proof.Machine.execThermtrip s
  | .refclkSdsFail chiplet => Sys2Proof.Machine.execRefclkSdsFail chiplet s
  | .boot => Sys2Proof.Machine.execBoot s
  | .almStart => Sys2Proof.Machine.execAlmStart s
  | .extRefEdge intervalNs tenMOk => Sys2Proof.Machine.execExtRefEdge intervalNs tenMOk s
  | .beaconRx port stamp16 b => Sys2Proof.Machine.execBeaconRx port stamp16 b s
  | .claimRx port b => Sys2Proof.Machine.execClaimRx port b s
  | .beaconWindowClose => Sys2Proof.Machine.execBeaconWindowClose s
  | .holdoverLimitExpiry => Sys2Proof.Machine.execHoldoverLimitExpiry s
  | .almanacStartTimeout => Sys2Proof.Machine.execAlmanacStartTimeout s
  | .islandGmTimeout => Sys2Proof.Machine.execIslandGmTimeout s
  | .timeStepped => Sys2Proof.Machine.execTimeStepped s
  | .beaconSend => Sys2Proof.Machine.execBeaconSend s
  | .claimFlood => Sys2Proof.Machine.execClaimFlood s
  | .pdelayMeasure port delay16 => Sys2Proof.Machine.execPdelayMeasure port delay16 s
  | .pdelayReqRx port seqId => Sys2Proof.Machine.execPdelayReqRx port seqId s
  | .ptpFrameRx port f => Sys2Proof.Machine.execPtpFrameRx port f s
  | .synceSelect levels => Sys2Proof.Machine.execSynceSelect levels s
  | .twinTimeSync leftTime leftState => Sys2Proof.Machine.execTwinTimeSync leftTime leftState s
  | .forecastEntryStart group entry => Sys2Proof.Machine.execForecastEntryStart group entry s
  | .forecastEntryEnd group entry => Sys2Proof.Machine.execForecastEntryEnd group entry s
  | .forecastPeriodBoundary group => Sys2Proof.Machine.execForecastPeriodBoundary group s
  | .slotAllowanceSet port => Sys2Proof.Machine.execSlotAllowanceSet port s
  | .redGrantSet port => Sys2Proof.Machine.execRedGrantSet port s
  | .shaperRefill port => Sys2Proof.Machine.execShaperRefill port s
  | .policerRefill policer => Sys2Proof.Machine.execPolicerRefill policer s
  | .portTrainDone port ok => Sys2Proof.Machine.execPortTrainDone port ok s
  | .degradeTimeout port => Sys2Proof.Machine.execDegradeTimeout port s
  | .llrInitRx port h => Sys2Proof.Machine.execLlrInitRx port h s
  | .llrInitTimeout port => Sys2Proof.Machine.execLlrInitTimeout port s
  | .llrDataRx port h f => Sys2Proof.Machine.execLlrDataRx port h f s
  | .llrAckTimer port => Sys2Proof.Machine.execLlrAckTimer port s
  | .llrAckRx port h => Sys2Proof.Machine.execLlrAckRx port h s
  | .llrNakRx port h => Sys2Proof.Machine.execLlrNakRx port h s
  | .llrReplayTimeout port => Sys2Proof.Machine.execLlrReplayTimeout port s
  | .losHoldExpiry lane => Sys2Proof.Machine.execLosHoldExpiry lane s
  | .linkErrorWindow port lanes uncorr second => Sys2Proof.Machine.execLinkErrorWindow port lanes uncorr second s
  | .spareReqRx port h partner => Sys2Proof.Machine.execSpareReqRx port h partner s
  | .spareAckRx port h => Sys2Proof.Machine.execSpareAckRx port h s
  | .spareAlignLock port => Sys2Proof.Machine.execSpareAlignLock port s
  | .spareDoneRx port h => Sys2Proof.Machine.execSpareDoneRx port h s
  | .spareLost group => Sys2Proof.Machine.execSpareLost group s
  | .cageRetryExpiry group busB acked => Sys2Proof.Machine.execCageRetryExpiry group busB acked s
  | .cagePresenceChange group busB present answer => Sys2Proof.Machine.execCagePresenceChange group busB present answer s
  | .cageProbe group busB answer => Sys2Proof.Machine.execCageProbe group busB answer s
  | .mkaFrameRx port f => Sys2Proof.Machine.execMkaFrameRx port f s
  | .frameArrival port f => Sys2Proof.Machine.execFrameArrival port f s
  | .macAgeOut vlan mac => Sys2Proof.Machine.execMacAgeOut vlan mac s
  | .pfcRx port enable quanta => Sys2Proof.Machine.execPfcRx port enable quanta s
  | .pfcRefresh port prio => Sys2Proof.Machine.execPfcRefresh port prio s
  | .pfcQuantaExpiry port prio => Sys2Proof.Machine.execPfcQuantaExpiry port prio s
  | .pfcWdExpiry port prio => Sys2Proof.Machine.execPfcWdExpiry port prio s
  | .schedSelect port => Sys2Proof.Machine.execSchedSelect port s
  | .reseqTimeout inPort outPort seq plane => Sys2Proof.Machine.execReseqTimeout inPort outPort seq plane s
  | .bufUncorr frame cell => Sys2Proof.Machine.execBufUncorr frame cell s
  | .read m => Sys2Proof.Machine.execRead m s
  | .write m => Sys2Proof.Machine.execWrite m s
  | .writeMasked m => Sys2Proof.Machine.execWriteMasked m s
  | .flush m => Sys2Proof.Machine.execFlush m s
  | .discard m => Sys2Proof.Machine.execDiscard m s
  | .atomic m => Sys2Proof.Machine.execAtomic m s
  | .mirrorWrite m => Sys2Proof.Machine.execMirrorWrite m s
  | .mirrorMasked m => Sys2Proof.Machine.execMirrorMasked m s
  | .mirrorDiscard m => Sys2Proof.Machine.execMirrorDiscard m s
  | .mirrorFlush m => Sys2Proof.Machine.execMirrorFlush m s
  | .mirrorRead m => Sys2Proof.Machine.execMirrorRead m s
  | .pairReset m => Sys2Proof.Machine.execPairReset m s
  | .completion m => Sys2Proof.Machine.execCompletion m s
  | .poolTimeout target tag => Sys2Proof.Machine.execPoolTimeout target tag s
  | .trayBusyRetry target tag => Sys2Proof.Machine.execTrayBusyRetry target tag s
  | .holdExpiry source tag => Sys2Proof.Machine.execHoldExpiry source tag s
  | .shortWaitExpiry source tag => Sys2Proof.Machine.execShortWaitExpiry source tag s
  | .unitMigrate unit => Sys2Proof.Machine.execUnitMigrate unit s
  | .pairRestore unit => Sys2Proof.Machine.execPairRestore unit s
  | .mirrorResyncStep window => Sys2Proof.Machine.execMirrorResyncStep window s
  | .rdShared m => Sys2Proof.Machine.execRdShared m s
  | .rdAny m => Sys2Proof.Machine.execRdAny m s
  | .rdOwn m => Sys2Proof.Machine.execRdOwn m s
  | .upgrade m => Sys2Proof.Machine.execUpgrade m s
  | .wbDirty m => Sys2Proof.Machine.execWbDirty m s
  | .evictClean m => Sys2Proof.Machine.execEvictClean m s
  | .register m => Sys2Proof.Machine.execRegister m s
  | .deregister m => Sys2Proof.Machine.execDeregister m s
  | .snoopResponse m => Sys2Proof.Machine.execSnoopResponse m s
  | .recallTimeout ep line => Sys2Proof.Machine.execRecallTimeout ep line s
  | .lineFreeGrant line => Sys2Proof.Machine.execLineFreeGrant line s
  | .poisonTableCopy => Sys2Proof.Machine.execPoisonTableCopy s
  | .rollbackDrainEnd => Sys2Proof.Machine.execRollbackDrainEnd s
  | .brDone m => Sys2Proof.Machine.execBrDone m s
  | .brNotify m => Sys2Proof.Machine.execBrNotify m s
  | .mediaTimeout tray tag => Sys2Proof.Machine.execMediaTimeout tray tag s
  | .bridgeBusyRetry tray tag => Sys2Proof.Machine.execBridgeBusyRetry tray tag s
  | .gcStep => Sys2Proof.Machine.execGcStep s
  | .refresh unit => Sys2Proof.Machine.execRefresh unit s
  | .patrolStep => Sys2Proof.Machine.execPatrolStep s
  | .rebuildStep => Sys2Proof.Machine.execRebuildStep s
  | .mapCheckpoint => Sys2Proof.Machine.execMapCheckpoint s
  | .denseRecovery => Sys2Proof.Machine.execDenseRecovery s
  | .recoveryDone => Sys2Proof.Machine.execRecoveryDone s
  | .redContrib m => Sys2Proof.Machine.execRedContrib m s
  | .spillReadback group epoch chunk => Sys2Proof.Machine.execSpillReadback group epoch chunk s
  | .stageWaitExpiry source tag => Sys2Proof.Machine.execStageWaitExpiry source tag s
  | .lateExpiry group epoch chunk => Sys2Proof.Machine.execLateExpiry group epoch chunk s
  | .failExpiry group epoch chunk => Sys2Proof.Machine.execFailExpiry group epoch chunk s
  | .gaugeInc m => Sys2Proof.Machine.execGaugeInc m s
  | .gaugeRead m => Sys2Proof.Machine.execGaugeRead m s
  | .unitRetired unit => Sys2Proof.Machine.execUnitRetired unit s
  | .stageUncorr group epoch chunk => Sys2Proof.Machine.execStageUncorr group epoch chunk s
  | .gather m => Sys2Proof.Machine.execGather m s
  | .sieve m => Sys2Proof.Machine.execSieve m s
  | .gatherUnitRetired isSieve unit => Sys2Proof.Machine.execGatherUnitRetired isSieve unit s
  | .rubUpdate group tile => Sys2Proof.Machine.execRubUpdate group tile s
  | .tileInvoke m => Sys2Proof.Machine.execTileInvoke m s
  | .lowerDone slot => Sys2Proof.Machine.execLowerDone slot s
  | .partDispatch tile => Sys2Proof.Machine.execPartDispatch tile s
  | .tileOpEnd tile => Sys2Proof.Machine.execTileOpEnd tile s
  | .tileRetired tile => Sys2Proof.Machine.execTileRetired tile s
  | .noTileWaitExpiry source tag => Sys2Proof.Machine.execNoTileWaitExpiry source tag s
  | .hostOpRun core => Sys2Proof.Machine.execHostOpRun core s
  | .residentStart slot => Sys2Proof.Machine.execResidentStart slot s
  | .exit core => Sys2Proof.Machine.execExit core s
  | .poolRead core home address size acq vol => Sys2Proof.Machine.execPoolRead core home address size acq vol s
  | .poolWrite core home address data rel => Sys2Proof.Machine.execPoolWrite core home address data rel s
  | .poolAtomic core home address payload => Sys2Proof.Machine.execPoolAtomic core home address payload s
  | .poolFlush core home address bytes => Sys2Proof.Machine.execPoolFlush core home address bytes s
  | .ecallTileInvoke core slot bases => Sys2Proof.Machine.execEcallTileInvoke core slot bases s
  | .mbxRecv core wait => Sys2Proof.Machine.execMbxRecv core wait s
  | .mbxSend core dest mailbox cookie message => Sys2Proof.Machine.execMbxSend core dest mailbox cookie message s
  | .time core => Sys2Proof.Machine.execTime core s
  | .random core n => Sys2Proof.Machine.execRandom core n s
  | .ecallUnknown core a7 => Sys2Proof.Machine.execEcallUnknown core a7 s
  | .mbxPost m => Sys2Proof.Machine.execMbxPost m s
  | .resFaulted core cause pc => Sys2Proof.Machine.execResFaulted core cause pc s
  | .firmwareCoreRetired core => Sys2Proof.Machine.execFirmwareCoreRetired core s
  | .hostCoreFault core => Sys2Proof.Machine.execHostCoreFault core s
  | .spdmMsg m p => Sys2Proof.Machine.execSpdmMsg m p s
  | .keyLoad session payload => Sys2Proof.Machine.execKeyLoad session payload s
  | .keyErase session payload => Sys2Proof.Machine.execKeyErase session payload s
  | .linkCak session payload => Sys2Proof.Machine.execLinkCak session payload s
  | .keyApplied slot => Sys2Proof.Machine.execKeyApplied slot s
  | .rekeyStep slot => Sys2Proof.Machine.execRekeyStep slot s
  | .rngStartupTest pass => Sys2Proof.Machine.execRngStartupTest pass s
  | .rngRetest => Sys2Proof.Machine.execRngRetest s
  | .drbgReseed => Sys2Proof.Machine.execDrbgReseed s
  | .debugNonceRead => Sys2Proof.Machine.execDebugNonceRead s
  | .debugUnlocked signature inTime => Sys2Proof.Machine.execDebugUnlocked signature inTime s
  | .bridgeTrainDone groups => Sys2Proof.Machine.execBridgeTrainDone groups s
  | .hello role devid serial digest => Sys2Proof.Machine.execHello role devid serial digest s
  | .pairTimeout => Sys2Proof.Machine.execPairTimeout s
  | .groupRetired group => Sys2Proof.Machine.execGroupRetired group s
  | .heartbeat => Sys2Proof.Machine.execHeartbeat s
  | .partnerSilence alive => Sys2Proof.Machine.execPartnerSilence alive s
  | .takeover => Sys2Proof.Machine.execTakeover s
  | .commitRecord c => Sys2Proof.Machine.execCommitRecord c s
  | .commitAck id => Sys2Proof.Machine.execCommitAck id s
  | .shadowWaitExpiry source tag => Sys2Proof.Machine.execShadowWaitExpiry source tag s
  | .controlTransaction kind mine partnerToo => Sys2Proof.Machine.execControlTransaction kind mine partnerToo s
  | .shadowStream count => Sys2Proof.Machine.execShadowStream count s
  | .handback => Sys2Proof.Machine.execHandback s
  | .coatWrite m => Sys2Proof.Machine.execCoatWrite m s
  | .coatSubmit m => Sys2Proof.Machine.execCoatSubmit m s
  | .coatAssemblyTimeout => Sys2Proof.Machine.execCoatAssemblyTimeout s
  | .journalStaged => Sys2Proof.Machine.execJournalStaged s
  | .patchApply => Sys2Proof.Machine.execPatchApply s
  | .cure m => Sys2Proof.Machine.execCure m s
  | .healthCheckFail check => Sys2Proof.Machine.execHealthCheckFail check s
  | .cureEnd => Sys2Proof.Machine.execCureEnd s
  | .strip => Sys2Proof.Machine.execStrip s
  | .unitReturn kind index => Sys2Proof.Machine.execUnitReturn kind index s
  | .selftestStart kind index => Sys2Proof.Machine.execSelftestStart kind index s
  | .selftestEnd kind index pass => Sys2Proof.Machine.execSelftestEnd kind index pass s
  | .selftestWaitExpiry source tag => Sys2Proof.Machine.execSelftestWaitExpiry source tag s
  | .unitFault kind index => Sys2Proof.Machine.execUnitFault kind index s
  | .hbmUe pc row unreadable => Sys2Proof.Machine.execHbmUe pc row unreadable s
  | .hbmCeWindow pc count row unreadable => Sys2Proof.Machine.execHbmCeWindow pc count row unreadable s
  | .hbmRowRepaired pc row => Sys2Proof.Machine.execHbmRowRepaired pc row s
  | .pcMoveDone pc => Sys2Proof.Machine.execPcMoveDone pc s
  | .frostNotice m => Sys2Proof.Machine.execFrostNotice m s
  | .thaw m => Sys2Proof.Machine.execThaw m s
  | .thawApply job => Sys2Proof.Machine.execThawApply job s
  | .calibration lane => Sys2Proof.Machine.execCalibration lane s
  | .snapshot => Sys2Proof.Machine.execSnapshot s
  | .snapshotSend => Sys2Proof.Machine.execSnapshotSend s
  | .regRead m => Sys2Proof.Machine.execRegRead m s
  | .regWrite m => Sys2Proof.Machine.execRegWrite m s
  | .registerWrite path address value => Sys2Proof.Machine.execRegisterWrite path address value s
  | .mbxDoorbell value opcode m p => Sys2Proof.Machine.execMbxDoorbell value opcode m p s
  | .loReadLatch path address => Sys2Proof.Machine.execLoReadLatch path address s
  | .fuseProgram value => Sys2Proof.Machine.execFuseProgram value s
  | .fuseProgramDone matched => Sys2Proof.Machine.execFuseProgramDone matched s
  | .powerWindow watts tileOver => Sys2Proof.Machine.execPowerWindow watts tileOver s
  | .thermalCheck tj hbm => Sys2Proof.Machine.execThermalCheck tj hbm s
  | .throttleNChange low => Sys2Proof.Machine.execThrottleNChange low s
  | .hostSlowed => Sys2Proof.Machine.execHostSlowed s
  | .powerUncontrolled watts => Sys2Proof.Machine.execPowerUncontrolled watts s
  | .resetNAsserted => Sys2Proof.Machine.execResetNAsserted s
  | .extRefLost => Sys2Proof.Machine.execExtRefLost s
  | .lossOfSignal lane => Sys2Proof.Machine.execLossOfSignal lane s
  | .laneLockRegained lane => Sys2Proof.Machine.execLaneLockRegained lane s
  | .firmwareCoreUpdateDone core => Sys2Proof.Machine.execFirmwareCoreUpdateDone core s

end Sys2Proof.Machine
end

