-- ==== Sys2Proof/Machine/Tick.lean ====
section
/-! DEFINITION. What passes when no command is waiting: a tick. -/

namespace Sys2Proof.Machine

open Sys2Proof

/-- The ports that serve time as a boundary clock (R91). -/
def boundaryPorts (s : State) : List Nat :=
  ((coat s).almanac.roles.filter fun r => r.ptp == .boundary && ptpEn s r.port && portUp s r.port).map PortRole.port

/-- A boundary clock in two-step mode sends a Sync and its Follow_Up, which carries the time of the Sync: Almanac time plus the coat's PTP
offset (R91). It does so once a second, and numbers them by the second (log entry 224). -/
def serveTime (s : State) : State :=
  let n := BitVec.ofNat 16 (s.alm.time / 1000000000)
  let t := (now s : Int) + (coat s).almanac.ptpOffset
  clockOut s ((boundaryPorts s).flatMap fun p =>
    [(p, .ptp p { kind := .sync, seqId := n, correction := 0, residence := 0 }), (p, .ptpTime p .followUp n t)])

/-- The count moves on to the next tick boundary, and GLB_UPTIME by one tick (R20, R21, R618); registers show what the tick before has left (R592). -/
def tickOn (s : State) : State :=
  let t : State := { s with alm := { s.alm with time := nextTick s.alm.time }, pwr := { s.pwr with uptime := (s.pwr.uptime + 1) % two64 } }
  { t with shot := some (shotOf t) }

/-- A control transaction that backed off goes out again (R516). -/
def controlAgain (s : State) : State :=
  match s.scr.ctlAgain with
  | some k => emit { s with scr := { s.scr with ctlAgain := none } } (.bridge (.control k))
  | none => s

/-- Whether a REL request waits for the tick after the one in which the last request before it executed (R265). -/
def relDue (s : State) : Bool := s.pool.txs.any fun t => t.after.isSome

/-- Whether something waits for the tick after: a REL request (R265), a program that is lowered (R401). -/
def laterDue (s : State) : Bool := relDue s || s.til.progs.any fun p => p.2.lowered.isSome && p.2.applied

/-- What the tick before has put off goes on (R265, R401). -/
def goOn (s : State) : State := if laterDue s then handOver (settle (progsTurn s)) else s

/-- An idle tick: out of reset, time moves on (log entry 2), what waited for the next tick happens, and boundary clocks serve each whole
second. -/
def tick (s : State) : State :=
  if s.pwr.inReset then s
  else
    let t := coresReturn (controlAgain (tickOn s))
    goOn (if t.alm.time / 1000000000 = s.alm.time / 1000000000 then t else serveTime t)

end Sys2Proof.Machine
end

