-- ==== Sys2Proof/Safety.lean ====
section
/-! DEFINITION. What counts as a safe run, and the terms in which statements speak of a command: that it goes on to a next state, what
of the state it leaves alone, when the block is at rest. -/

namespace Sys2Proof

open Sys2Proof.Machine

/-- A step of the block that goes on. -/
def Safety.Goes (s : State) : Prop := ∃ t, step s = .next t

/-- Every command waiting can arise. -/
def Safety.QueueOk (s : State) : Bool := s.pending.all Instr.wf

/-- A device out of reset (R628). -/
def Safety.Awake (s : State) : Prop := s.pwr.inReset = false

/-- The command answers a next state: one of which `P` holds, but for what the device's units have sent since the last command, which the
switch core has taken in (R140). What that may change is said by `Obligations.RestStays`. -/
def Safety.Does (c : Instr) (s : State) (P : State → Prop) : Prop := ∃ t, exec c s = .next (handOver t) ∧ P t

/-- The command answers, in the same sense, the state that the closing run of its tick (R47) leaves of one of which `P` holds. The closing
run leaves a block at rest as it is (`Obligations.RestStays`). -/
def Safety.Causes (c : Instr) (s : State) (P : State → Prop) : Prop := ∃ t, exec c s = .next (handOver (settle t)) ∧ P t

/-- The parts of the state, for frames. -/
inductive Safety.Part where
  | alm | fc | lnk | swc | sch | mem | pool | coh | dns | trw | til | cor | cfg | nv | sec | scr | ras | tel | mgmt | pwr | ctr | evt | out
  | freeCtr | hooks | shot | pending
deriving DecidableEq, Repr

/-- A part is as it was; of memory, every byte reads as before. -/
def Safety.same (p : Safety.Part) (s t : State) : Prop :=
  match p with
  | .alm => t.alm = s.alm
  | .fc => t.fc = s.fc
  | .lnk => t.lnk = s.lnk
  | .swc => t.swc = s.swc
  | .sch => t.sch = s.sch
  | .mem => ∀ a, memByte t.mem a = memByte s.mem a
  | .pool => t.pool = s.pool
  | .coh => t.coh = s.coh
  | .dns => t.dns = s.dns
  | .trw => t.trw = s.trw
  | .til => t.til = s.til
  | .cor => t.cor = s.cor
  | .cfg => t.cfg = s.cfg
  | .nv => t.nv = s.nv
  | .sec => t.sec = s.sec
  | .scr => t.scr = s.scr
  | .ras => t.ras = s.ras
  | .tel => t.tel = s.tel
  | .mgmt => t.mgmt = s.mgmt
  | .pwr => t.pwr = s.pwr
  | .ctr => t.ctr = s.ctr
  | .evt => t.evt = s.evt
  | .out => t.out = s.out
  | .freeCtr => t.freeCtr = s.freeCtr
  | .hooks => t.hooks = s.hooks
  | .shot => t.shot = s.shot
  | .pending => t.pending = s.pending

/-- Nothing but the listed parts has changed. -/
def Safety.Only (l : List Safety.Part) (s t : State) : Prop := ∀ p, p ∉ l → Safety.same p s t

/-- The parts that raising an event writes (R598): its bit, the log, the log's overflow counter, what is sent (an MSI-X message, ALERT_N). -/
def Safety.eventParts : List Safety.Part := [.evt, .tel, .ctr, .out]

/-- The event's bit is set, and the log holds an entry of it (R596, R598). -/
def Safety.Raised (t : State) (reg bitNo unit : Nat) : Prop :=
  evtBit t reg bitNo = true ∧ ∃ e ∈ t.tel.log, some e.block = blockOf reg ∧ e.code = bitNo ∧ e.unit = unit

/-- A counter that no selection governs has grown by `n`, wrapping at 2^64 (R594). -/
def Safety.Counted (s t : State) (reg n : Nat) : Prop := ctrGet t reg 0 = (ctrGet s reg 0 + n) % two64

/-- The device has sent `o` since `s`. -/
def Safety.Sent (s t : State) (o : Out) : Prop := ∃ a b, t.out = s.out ++ a ++ [o] ++ b

/-- Held in reset with everything at its reset value (R628, R629): all but the flash, the fuses and what the trays hold, the registers
that keep the reset's cause, and the model's own record. -/
def Safety.Held (s : State) : Prop :=
  s.pwr.inReset = true ∧ s.mem = [] ∧ s.alm = {} ∧ s.fc = [] ∧ s.lnk = {} ∧ s.swc = { handed := s.swc.handed } ∧ s.sch = {} ∧ s.pool = {} ∧ s.coh = {} ∧
    s.dns = {} ∧ s.trw = {} ∧ s.til = {} ∧ s.cor = {} ∧ s.cfg = {} ∧ s.sec = {} ∧ s.ras = {} ∧ s.tel = {} ∧ s.mgmt = {} ∧ s.ctr = [] ∧
    s.evt = [] ∧ s.hooks = [] ∧ s.shot = none

/-- Nothing but media jobs is under way inside the block: no hook, transaction, request of its own, invocation, group, wanted
self-test, waiting background work; its pool, if its trays have answered, says so; and what arrives next is later than the last patch. -/
def Safety.Calm (s : State) : Prop :=
  s.hooks = [] ∧ s.pool.txs = [] ∧ s.pool.outs = [] ∧ s.til.invs = [] ∧ s.trw.groups = [] ∧
    (s.cfg.units.all fun u => !u.2.wanted) = true ∧ (s.cfg.poolReady = true ∨ s.cfg.forwarding = false) ∧ s.pool.bgWait = [] ∧
    (s.pool.before.all fun b => b.1 ≤ s.pool.nextTx) = true

/-- Nothing at all is under way inside the block. -/
def Safety.Rest (s : State) : Prop := Safety.Calm s ∧ denseIdle s = true

/-- A request of the opcode comes from a source of the coat in its turn to a solo device at rest, and passes steps 1 to 9 (R177): received
well, in sequence with nothing held, its format right, its access allowed, its job not in frost. -/
def Safety.InTurn (s : State) (op : Nat) (m : Msg) : Prop :=
  Safety.Awake s ∧ Safety.Rest s ∧ s.scr.st = .solo ∧ wellReceived op m = true ∧ creditsOf s m.src ≠ 0 ∧
    m.seq.toNat = (srcOf s m.src).expect ∧ (srcOf s m.src).held = [] ∧ (srcOf s m.src).resetWait = none ∧ s.pool.drain = none ∧
    opFormat s op m = true ∧ accessStatus s op m = none ∧ frostStops s op m = false

/-- Such a request arrives at a port of the device, from an endpoint of the rack. -/
def Safety.Accepted (s : State) (op : Nat) (m : Msg) : Prop :=
  Safety.InTurn s op m ∧ pmtServes s = true ∧ m.port ≤ 1024 ∧ residentEp s m.src = false ∧ fromBridge s op m = false

/-- Such a request is a call that the program of a resident slot makes on a core, when no core waits for anything (R454). -/
def Safety.Calls (s : State) (core : Nat) (e : ResEnt) (op : Nat) (m : Msg) : Prop :=
  Safety.InTurn s op m ∧ core < 24 ∧ callSlot s core = some e ∧ s.cor.waits = [] ∧ m.src = e.ep ∧
    ((coat s).resident.slots.find? fun r => r.ep == e.ep) = some e

/-- What the device has sent since `s` is the one completion of the request, with a status and a payload (R8, R657). -/
def Safety.Answered (s t : State) (m : Msg) (status : Nat) (payload : List Byte) : Prop :=
  ∃ c : PmtOut, t.out = s.out ++ [.pmt c] ∧ c.opcode = Op.completion ∧ c.dest = m.src ∧ c.tag = m.tag.toNat ∧ c.seq = m.seq.toNat ∧
    c.address = m.address.toNat ∧ statusOf c.flags = status ∧ c.payload = payload

/-- Among what the device has sent since `s` is the completion of the request, with a status and a payload. -/
def Safety.Completed (s t : State) (m : Msg) (status : Nat) (payload : List Byte) : Prop :=
  ∃ c : PmtOut, Safety.Sent s t (.pmt c) ∧ c.opcode = Op.completion ∧ c.dest = m.src ∧ c.tag = m.tag.toNat ∧ c.seq = m.seq.toNat ∧
    statusOf c.flags = status ∧ c.payload = payload

/-- A message of a dense tray's own (BR_DONE, BR_NOTIFY) arrives in its turn at a calm solo device, received well, its format right (R267,
R269). -/
def Safety.FromTray (s : State) (op : Nat) (m : Msg) (tray : Nat) : Prop :=
  Safety.Awake s ∧ Safety.Calm s ∧ pmtServes s = true ∧ s.scr.st = .solo ∧ m.port ≤ 1024 ∧ wellReceived op m = true ∧
    denseTrayAt s m.src = some tray ∧ denseTrayEp s tray = some m.src ∧ residentEp s m.src = false ∧
    m.seq.toNat = (srcOf s m.src).expect ∧ (srcOf s m.src).held = [] ∧ (srcOf s m.src).resetWait = none ∧ s.pool.drain = none ∧
    opFormat s op m = true

/-- The lines of a range lie in HBM and none is poisoned; no endpoint caches any line. -/
def Safety.InHand (s : State) (g : Nat × Nat) : Prop :=
  s.coh.slots = [] ∧ ∀ l ∈ rangeLines g, inHbm s l = true ∧ isPoisoned s l = false

/-- A write at an address completes here (R173, R189): its window has no partner that must take the write too (no mirror, or one that
stands SINGLE), and is not dense-backed, or the dirty lines of such windows are within DIRTY_MAX. -/
def Safety.WritesAlone (s : State) (a : Nat) : Prop :=
  ∀ w, winAt s a = some w → (mirSt s w = .none ∨ mirSt s w = .single) ∧ ((w.policy ≠ 2 ∧ w.policy ≠ 3) ∨ tooDirty s = false)

/-- A request of the Volinar's own that waits for its answer, at a device that serves PMT. -/
def Safety.Waits (s : State) (o : OutReq) : Prop := Safety.Awake s ∧ o ∈ s.pool.outs ∧ outOf s o.target o.tag = some o

end Sys2Proof
end

