-- ==== Sys2Proof/Certificates/Slice0/Obligations.lean ====
section
/-! DEFINITION. What is stated of the block: of its step and gates, then of the commands, family by family in the order of
spec/opcode_table.json. Each statement says where a command completes, with what effect, and what it leaves alone. -/

open Sys2Proof Sys2Proof.Machine Sys2Proof.Safety

/-! ### The step and the gates of every command -/

/-- A step is the command at the front of the queue on the state with the queue's rest. -/
def Obligations.StepRunsFront : Prop :=
  ∀ (s : State) (c : Instr) (rest : List Instr), s.pending = c :: rest → step s = exec c { s with pending := rest }

/-- On an empty queue a step goes to the next tick boundary, the next even time (R20, R21, R22); a device in reset stands still. In the tick
that begins a second the boundary clocks send Sync and Follow_Up (R91). Registers show in it what the tick before has left (R592). The tick, and the pace of Sync, are the model's choice (log entries
2, 224). -/
def Obligations.IdleStepIsOneTick : Prop :=
  ∀ s : State, s.pending = [] →
    (s.pwr.inReset = true → step s = .next s) ∧
    (Awake s → ∃ t, step s = .next t ∧ t.alm.time = (s.alm.time / 2 * 2 + 2) % two64 ∧ t.pwr.uptime = (s.pwr.uptime + 1) % two64 ∧
      (t.alm.time / 1000000000 = s.alm.time / 1000000000 → laterDue s = false →
        t.shot.map Shot.ctr = some s.ctr ∧ t.shot.map Shot.evt = some s.evt ∧ t.shot.map Shot.mgmt = some s.mgmt ∧
        (s.scr.ctlAgain = none → Only [.alm, .pwr, .shot] s t) ∧
        ∀ k, s.scr.ctlAgain = some k → t.out = s.out ++ [.bridge (.control k)] ∧ t.scr.ctlAgain = none ∧ Only [.alm, .pwr, .shot, .scr, .out] s t) ∧
      ∀ p, t.alm.time / 1000000000 ≠ s.alm.time / 1000000000 → laterDue s = false → s.scr.ctlAgain = none → boundaryPorts s = [p] → Only [.alm, .pwr, .shot, .out] s t ∧
        ∃ f : Ptp, f.kind = .sync ∧ f.correction = 0 ∧ t.out = s.out ++ [.ptp p f, .ptpTime p .followUp f.seqId ((now t : Int) + (coat s).almanac.ptpOffset)])

/-- Every command goes on: none is refused, none stops the block. One that names an object outside the spec's ranges, which cannot arise,
changes nothing (the model's choice, log entry 211). A device held in reset changes under nothing but the commands of power, reset and the
pins of its own. -/
def Obligations.CommandsGoOn : Prop :=
  (∀ (c : Instr) (s : State), ∃ t, exec c s = .next t) ∧
  (∀ (c : Instr) (s : State), c.wf = false → exec c s = .next s) ∧
  (∀ (c : Instr) (s : State), s.pwr.inReset = true →
    (match c with
     | .resetRelease _ | .resetNAsserted | .pcieReset | .tapReset | .railFault _ _ | .clockLost | .thermtrip => True
     | _ => exec c s = .next s))

/-- While RESET_N holds the device, or a fault has stopped it, everything stays at its reset value; only RESET_RELEASE ends it (R626,
R628, R629). -/
def Obligations.ResetHolds : Prop :=
  ∀ (c : Instr) (s t : State), Held s → (∀ straps, c ≠ .resetRelease straps) → exec c s = .next t → Held t

/-- The state right after power came up is held in reset.
What the spec gives no reset value is the model's (log entry 4). -/
def Obligations.ResetStateIsHeld : Prop :=
  Held State.reset ∧ State.reset.pending = [] ∧ State.reset.pwr.cause = [0]

/-- At rest the closing run of a command changes nothing. What the device's units have sent is then taken into the switch core (R140): where
nothing new was sent nothing changes; queues, buffer, counters and events may, and nothing that was sent is taken back; a beacon enters the
leaf of class MGMT of its port, where that queue has room (R107, R110).
The closing run and its bound, and the moment of the handing over, are the model's (log entries 46, 152). -/
def Obligations.RestStays : Prop :=
  (∀ s : State, Rest s → settle s = s) ∧
  (∀ s : State, s.out.length ≤ s.swc.handed → handOver s = { s with swc := { s.swc with handed := s.out.length } }) ∧
  (∀ s : State, Only ([.swc, .sch] ++ eventParts) s (handOver s) ∧ s.out <+: (handOver s).out) ∧
  ∀ (s : State) (p : Nat) (b : Beacon), s.out.drop s.swc.handed = [.beacon p b] → p < 1024 → portHere s p = true → portExists s p = true →
    (portOf s p).st = .up → s.swc.frames = [] → 1 ≤ minFree s p 8 →
    ∃ x ∈ leafOf (handOver s) (.pnode p 13), x.frame = s.swc.nextFrame ∧ x.port = p ∧ x.cls = 8 ∧
      (bufFrame (handOver s) s.swc.nextFrame).map BufFrame.frame = some (beaconFrame s b)

/-- A PMT header's 32 bytes carry every bit of the message: what a sender spells, a receiver reads (R175). -/
def Obligations.HeaderRoundTrip : Prop :=
  ∀ (m : Msg) (opcode : Nat), opcode < 256 → parseMsg m.port (headerBytes opcode m) m.payload m.crc = (opcode, m)

/-- HBM keeps what is written and nothing else changes: the bytes written read back, every other byte reads as before, and the memory
keeps its canonical form.
The canonical form, and what a byte that nothing has written reads as, are the model's (log entry 3). -/
def Obligations.MemoryKeepsWrites : Prop :=
  ∀ (m : Mem) (a : Nat) (bs : List Byte), Memory.wf m →
    Memory.wf (memWrite m a bs) ∧ memRead (memWrite m a bs) a bs.length = bs ∧
      ∀ b, (b < a ∨ a + bs.length ≤ b) → memByte (memWrite m a bs) b = memByte m b

/-- Raising an event sets its bit and logs it with its code and unit (R596, R598), and a log of at most 65,536 entries stays so. -/
def Obligations.EventsAreLogged : Prop :=
  ∀ (s : State) (reg bitNo cls unit : Nat) (detail : List Byte), bitNo < 32 → (blockOf reg).isSome → s.tel.log.length ≤ 65536 →
    Raised (raise s reg bitNo cls unit detail) reg bitNo unit ∧ (raise s reg bitNo cls unit detail).tel.log.length ≤ 65536 ∧
      Only eventParts s (raise s reg bitNo cls unit detail)

/-! ### Power, reset, fuses (spec/22) -/

/-- RESET_RELEASE takes a device held by RESET_N out of reset with its straps sampled (R628); one that stopped drives FAULT_N and THERMTRIP_N
high again. A rail fault, the loss of REFCLK_CORE and an overheated junction stop the device: it is held in reset with everything cleared,
FAULT_N low, its cause recorded (R626, R632, R638, R655); RESET_N alone resets it with cause RESET_PIN (R628). Flash and fuses stay. The
other resets reach their own part alone (R628): PERST_N the PCIe endpoint's mailbox, TRST_N nothing that the model holds. The SerDes
reference of a chiplet takes lock from its 64 active and 8 spare lanes but those already retired (R632).
Causes that meet while the device is stopped are the model's reading (log entry 180). -/
def Obligations.ResetsAndStops : Prop :=
  (∀ (s : State) (straps : BitVec 4), s.pwr.inReset = true → s.pwr.resetLow = true →
    Does (.resetRelease straps) s fun t => Awake t ∧ t.pwr.straps = straps ∧ t.pwr.stopped = false ∧ t.pwr.uptime = s.pwr.uptime ∧
      t.pwr.cause = s.pwr.cause ∧ (s.pwr.stopped = true → t.out = s.out ++ [.pin .faultN true, .pin .thermtripN true]) ∧
      (s.pwr.stopped = false → t.out = s.out) ∧ Only [.pwr, .mgmt, .sec, .out] s t) ∧
  (∀ s : State, Awake s →
    (∀ rail ovr, rail < 14 → Does (.railFault rail ovr) s fun t => Held t ∧ t.pwr.stopped = true ∧ t.pwr.cause = [2] ∧ t.nv = s.nv ∧
      t.pwr.under = (if ovr then [] else [rail]) ∧ t.pwr.ovr = (if ovr then [rail] else []) ∧
      t.out = s.out ++ [.squelch, .pin .faultN false]) ∧
    (Does .clockLost s fun t => Held t ∧ t.pwr.stopped = true ∧ t.pwr.cause = [3] ∧ t.nv = s.nv ∧
      t.out = s.out ++ [.squelch, .pin .faultN false]) ∧
    (Does .thermtrip s fun t => Held t ∧ t.pwr.stopped = true ∧ t.pwr.cause = [4] ∧ t.nv = s.nv ∧
      t.out = s.out ++ [.squelch, .pin .faultN false, .pin .thermtripN false]) ∧
    Does .resetNAsserted s fun t => Held t ∧ t.pwr.stopped = s.pwr.stopped ∧ t.pwr.resetLow = true ∧ t.pwr.cause = [1] ∧ t.nv = s.nv ∧ t.out = s.out) ∧
  (∀ s : State,
    (Does .pcieReset s fun t => t.mgmt.mbxBusy = false ∧ t.mgmt.mbxDone = false ∧ t.mgmt.mbxResponse = none ∧ t.mgmt.sels = s.mgmt.sels ∧
      Only [.mgmt] s t) ∧
    (Does .tapReset s fun t => t = s) ∧
    (Awake s → ∀ c, c < 8 → Does (.refclkSdsFail c) s fun t => Only [.lnk] s t ∧
      (∀ i, i < 64 → (laneOf s (baseLane s + 64 * c + i)).role ≠ .retired →
        (laneOf t (baseLane s + 64 * c + i)).lock = false ∧ (laneOf t (baseLane s + 64 * c + i)).losArmed = true) ∧
      (∀ i, i < 8 → (laneOf s (baseLane s + 512 + 8 * c + i)).role ≠ .retired →
        (laneOf t (baseLane s + 512 + 8 * c + i)).lock = false) ∧
      ∀ n, (laneOf s n).role = .retired → laneOf t n = laneOf s n))

/-- The step falls under load and heat and never below 1 (R636): a window above PWR_LIMIT_W takes POWER_STEP one down, a sensor at its limit
takes THERMAL_STEP one down, THROTTLE_N sets BOARD. The host cores are the last stage (R637): at effective step 1, when a source still calls for less, they run at half speed,
and package power above PWR_LIMIT_W after that raises POWER_UNCONTROLLED.
The windows and checks come as commands (log entries 37, 182). -/
def Obligations.ThrottleFalls : Prop :=
  (∀ s : State, Awake s →
    (∀ watts, watts < 4096 → coatFld s Reg.pwrCfg 0 0 12 < watts → Does (.powerWindow watts false) s fun t =>
      t.pwr.powerStep = max 1 (s.pwr.powerStep - 1) ∧ t.pwr.watts = watts ∧ t.pwr.powerCalm = 0 ∧ Only (.pwr :: eventParts) s t ∧
      (s.pwr.powerStep = 16 → evtBit t Reg.pwrEventStatus 0 = true)) ∧
    (∀ tj hbm, tj.length = 32 → hbm.length = 8 → (∃ x ∈ tj, (coatFld s Reg.pwrCfg 0 12 7 : Int) ≤ x) →
      Does (.thermalCheck tj hbm) s fun t =>
        t.pwr.thermalStep = max 1 (s.pwr.thermalStep - 1) ∧ t.pwr.temps = tj ∧ t.pwr.hbmTemps = hbm ∧ Only (.pwr :: eventParts) s t ∧
        (s.pwr.thermalStep = 16 → evtBit t Reg.pwrEventStatus 1 = true)) ∧
    (∀ low, Does (.throttleNChange low) s fun t => t.pwr.board = low ∧ Only (.pwr :: eventParts) s t ∧
      (low = true → s.pwr.board = false → evtBit t Reg.pwrEventStatus 2 = true))) ∧
  (∀ s : State, Awake s →
    (effStep s = 1 → callsLower s = true → s.pwr.hostHalf = false → Does .hostSlowed s fun t => t.pwr.hostHalf = true ∧
      evtBit t Reg.pwrEventStatus 3 = true ∧ t.pwr.powerStep = s.pwr.powerStep ∧ Only (.pwr :: eventParts) s t) ∧
    (∀ watts, s.pwr.hostHalf = true → coatFld s Reg.pwrCfg 0 0 12 < watts → Does (.powerUncontrolled watts) s fun t =>
      evtBit t Reg.pwrEventStatus 4 = true ∧ Only eventParts s t) ∧
    (∀ watts, watts ≤ coatFld s Reg.pwrCfg 0 0 12 → Does (.powerUncontrolled watts) s fun t => t = s))

/-- Owner-key fuses (R648): the end of programming burns the digest of the key being programmed, and a mismatch on read-back leaves a key
that no digest matches; the other keys stay. In bring-up mode GO starts programming a key not programmed yet.
When the digest is taken is the model's reading (log entry 181). -/
def Obligations.FusesBurn : Prop :=
  (∀ (s : State) (value : BitVec 32), Awake s → bringup s = true → s.scr.role = 0 → s.pwr.fuseBusy = false → value.msb = true →
    alGet s.nv.ownerKeys (value.toNat % 4) = none → Does (.fuseProgram value) s fun t =>
      t.pwr.fuseBusy = true ∧ t.pwr.fuseProg = value.toNat % 4 ∧ t.pwr.fuseDigest = fuseWords s ∧ Only [.pwr] s t) ∧
  ∀ (s : State) (matched : Bool), Awake s → s.pwr.fuseBusy = true → Does (.fuseProgramDone matched) s fun t =>
    alGet t.nv.ownerKeys s.pwr.fuseProg = some { digest := if matched then some s.pwr.fuseDigest else none } ∧
      (∀ k, k ≠ s.pwr.fuseProg → alGet t.nv.ownerKeys k = alGet s.nv.ownerKeys k) ∧ t.pwr.fuseBusy = false ∧
      t.pwr.fuseResult = (if matched then 0 else 2) ∧ Only [.nv, .pwr] s t

/-! ### Almanac time (spec/02) -/

/-- The device's count (R22, R27, R508): a designated device starts at ALM_START_TIME, a step moves it by the difference found and restarts the
calendars, the right twin takes the left one's time and state (R36, R56). The external reference (R633) is valid from the third good edge in
a row on, and then steers the building grandmaster's count where EXT_REF_EN is set (R25); a bad edge or its loss ends it, and the count goes
on without a step. -/
def Obligations.TimeIsSet : Prop :=
  (∀ s : State, Awake s →
    (buildingGmCfg s = true → s.alm.started = false → s.alm.st = .unset → s.alm.noTime = true →
      Does .almStart s fun t => t.alm.time = coatReg s Reg.almStartTimeLo 0 + two32 * coatReg s Reg.almStartTimeHi 0 ∧
        t.alm.started = true ∧ t.alm.st = .unset ∧ Only [.alm] s t) ∧
    (∀ d, s.alm.pendingStep = some d → Does .timeStepped s fun t =>
      (t.alm.time : Int) = ((s.alm.time : Int) + d) % (two64 : Int) ∧ t.alm.pendingStep = none ∧ t.alm.st = s.alm.st ∧
        (∀ g x, alGet t.fc g = some x → x.active = [] ∧ x.restart = (x.cal.period != 0)) ∧ Raised t Reg.almEventStatus 5 noUnit ∧
        Only ([.alm, .fc] ++ eventParts) s t) ∧
    (∀ (time : BitVec 64) (st : BitVec 3), s.scr.role = 2 → s.scr.st = .paired → Does (.twinTimeSync time st) s fun t =>
      t.alm.time = time.toNat ∧ t.alm.st = almOfCode st.toNat ∧ t.alm.noTime = false ∧ Only ([.alm, .fc] ++ eventParts) s t ∧
      (s.alm.st = almOfCode st.toNat → Only [.alm] s t) ∧
      (s.alm.st ≠ almOfCode st.toNat → (st = 2 → evtBit t Reg.almEventStatus 0 = true) ∧ (st = 3 → evtBit t Reg.almEventStatus 1 = true) ∧
        (st = 4 → evtBit t Reg.almEventStatus 2 = true ∧ ∀ g x, alGet t.fc g = some x → x.cal.period ≠ 0 → x.unsync = true)))) ∧
  (∀ s : State, Awake s →
    (∀ ns ok, Does (.extRefEdge ns ok) s fun t => t.alm.time = s.alm.time ∧ t.alm.pendingStep = s.alm.pendingStep ∧ Only [.alm] s t ∧
      (if ok = true ∧ 999999900 ≤ ns ∧ ns ≤ 1000000100 then
        t.alm.extEdges = s.alm.extEdges + 1 ∧ (t.alm.extValid = true ↔ s.alm.extValid = true ∨ 2 ≤ s.alm.extEdges) ∧
        (s.alm.building = true → t.alm.rate = if extRefEn s && t.alm.extValid then .external else .oscillator)
      else t.alm.extEdges = 0 ∧ t.alm.extValid = false ∧ (s.alm.building = true → t.alm.rate = .oscillator))) ∧
    Does .extRefLost s fun t => t.alm.extEdges = 0 ∧ t.alm.extValid = false ∧ (s.alm.building = true → t.alm.rate = .oscillator) ∧ t.alm.time = s.alm.time ∧
      t.alm.pendingStep = s.alm.pendingStep ∧ t.alm.st = s.alm.st ∧ Only [.alm] s t)

/-- A beacon or claim that fails a field check of R28, or comes in on an endpoint-facing port, is counted in ALM_BCN_MALFORMED and changes
nothing else. A beacon of its interval on the upstream port of a LOCKED device is judged by its offset (R31): within 8 ns of its time,
inclusive, it is accepted; else it is counted early or late and ignored for timing, and the third miss in a row puts the device in HOLDOVER
(R24); the offset of an accepted one is corrected over the next interval (R27). Building grandmasters (R25, R39, R40): one that samples a claim with ISLAND clear and a lower PRIORITY yields to it, stops its claims
and beacons, raises GM_CLAIM_LOST and waits for its first beacon.
What island beacons do outside ISLAND, and jumps of several intervals, are the model's reading (log entries 32, 33). -/
def Obligations.BeaconsAreJudged : Prop :=
  (∀ (s : State) (port stamp : Nat) (b : Beacon), Awake s → port < 1024 → (portOf s port).st ≠ .awaitingKey →
    ((portRole s port).facing = true ∨ ((portRole s port).almanac = true ∧ beaconOk s b = false)) →
    (Does (.beaconRx port stamp b) s fun t => Counted s t Reg.almBcnMalformedLo 1 ∧ Only [.ctr] s t) ∧
      Does (.claimRx port b) s fun t => Counted s t Reg.almBcnMalformedLo 1 ∧ Only [.ctr] s t) ∧
  (∀ (s : State) (port stamp : Nat) (b : Beacon), Awake s → port < 1024 → (portRole s port).facing = false →
    (portRole s port).almanac = true → beaconOk s b = true → timeFromLeft s = false → b.typ = 0 → b.island = false →
    (portOf s port).st ≠ .awaitingKey → s.alm.building = false → s.alm.st = .locked → s.alm.missRun ≤ 2 →
    (hear s port b).alm.upPort = some port → b.origin.toNat = s.alm.expect →
    Does (.beaconRx port stamp b) s fun t => t.alm.expect = s.alm.expect + 128000 ∧ t.alm.time = s.alm.time ∧
      t.alm.pendingStep = s.alm.pendingStep ∧ Only ([.alm, .freeCtr] ++ eventParts) s t ∧
      (beaconOffset s port stamp b < -524288 → Counted s t Reg.almBcnEarlyLo 1) ∧
      (524288 < beaconOffset s port stamp b → Counted s t Reg.almBcnLateLo 1) ∧
      (beaconOffset s port stamp b < -524288 ∨ 524288 < beaconOffset s port stamp b →
        (s.alm.missRun < 2 → t.alm.st = .locked ∧ t.alm.missRun = s.alm.missRun + 1) ∧
        (s.alm.missRun = 2 → t.alm.st = .holdover ∧ Raised t Reg.almEventStatus 1 noUnit)) ∧
      (-524288 ≤ beaconOffset s port stamp b → beaconOffset s port stamp b ≤ 524288 →
        Counted s t Reg.almBcnAcceptedLo 1 ∧ t.alm.st = .locked ∧ t.alm.missRun = 0 ∧ t.alm.gmEui = b.gmEui.toNat ∧
        t.alm.rate = .slewing (beaconOffset s port stamp b))) ∧
  (∀ (s : State) (port : Nat) (b : Beacon), Awake s → port < 1024 → (portRole s port).facing = false →
    (portRole s port).almanac = true → beaconOk s b = true → timeFromLeft s = false → b.typ = 1 → b.island = false →
    b.gmEui ≠ Config.eui64 → s.alm.building = true → s.alm.claiming = true → b.priority.toNat < almPriority s → (portOf s port).st ≠ .awaitingKey →
    Does (.claimRx port b) s fun t => t.alm.building = false ∧ t.alm.claiming = false ∧ t.alm.gm = false ∧ t.alm.st = .acquiring ∧
      t.alm.gmEui = b.gmEui.toNat ∧ t.alm.gmPriority = b.priority.toNat ∧ evtBit t Reg.almEventStatus 4 = true ∧
      (s.alm.gmEui ≠ b.gmEui.toNat → evtBit t Reg.almEventStatus 3 = true) ∧ Only (.alm :: eventParts) s t)

/-- The state changes that a timer makes (R24, R26, R32, R36): a window that closes without a beacon counts a miss, the third in a row ends
LOCKED, and one that has not closed, or whose interval has an outcome, does nothing (R33, R45); HOLDOVER and the wait in UNSET end in ISLAND with UNSYNC in every group that has a calendar; a designated device becomes building
grandmaster. What the device sends of its own time (R25, R35, R37): beacons on every downstream port where it is the building's or its
island's grandmaster or holds over, claims on every Almanac-enabled port. -/
def Obligations.AlmanacTimers : Prop :=
  (∀ s : State, Awake s →
    (awaitsBeacons s = true → s.alm.st = .locked → windowEnd s ≤ (s.alm.time * 65536 : Nat) → Does .beaconWindowClose s fun t =>
      Counted s t Reg.almBcnMissedLo 1 ∧ t.alm.expect = s.alm.expect + 128000 ∧
        (s.alm.missRun < 2 → t.alm.st = .locked ∧ t.alm.missRun = s.alm.missRun + 1) ∧ (2 ≤ s.alm.missRun → t.alm.st = .holdover) ∧
        Only (.alm :: eventParts) s t) ∧
    (awaitsBeacons s = false ∨ (s.alm.time * 65536 : Nat) < windowEnd s → Does .beaconWindowClose s fun t => t = s) ∧
    (s.alm.st = .holdover → Does .holdoverLimitExpiry s fun t => t.alm.st = .island ∧ evtBit t Reg.almEventStatus 2 = true ∧
      t.alm.claiming = gmCapable s ∧ t.alm.time = s.alm.time ∧
      (∀ g x, alGet s.fc g = some x → ∃ y, alGet t.fc g = some y ∧ y.cal = x.cal ∧ y.active = x.active ∧ (x.cal.period ≠ 0 → y.unsync = true)) ∧
      Only ([.alm, .fc] ++ eventParts) s t) ∧
    (s.alm.st = .unset → s.alm.heardClear = false → Does .almanacStartTimeout s fun t =>
      t.alm.st = (if buildingGmCfg s then .locked else .island) ∧ t.alm.building = (buildingGmCfg s || s.alm.building) ∧
        t.alm.time = s.alm.time ∧ Only ([.alm, .fc] ++ eventParts) s t) ∧
    (s.alm.st = .island → buildingGmCfg s = true → s.alm.clearTick ≠ some s.pwr.uptime → Does .islandGmTimeout s fun t =>
      t.alm.st = .locked ∧ t.alm.building = true ∧ t.alm.claiming = true ∧ t.alm.upPort = none ∧ t.alm.time = s.alm.time ∧
        t.alm.gmEui = Config.eui64.toNat ∧ Only (.alm :: eventParts) s t)) ∧
  (∀ s : State, Awake s → s.alm.building = true →
    (Does .beaconSend s fun t => ∃ b : Beacon, b.typ = 0 ∧ b.island = (s.alm.st == .island && s.alm.gm) ∧ b.holdover = (s.alm.st == .holdover) ∧
      t.out = s.out ++ (downstreamPorts s).map (fun p => .beacon p b) ∧ t.alm.bcnSeq = (s.alm.bcnSeq + 1) % two16 ∧
      t.alm.time = s.alm.time ∧ Only [.alm, .out] s t) ∧
    Does .claimFlood s fun t => ∃ b : Beacon, b.typ = 1 ∧ b.island = false ∧ b.gmEui = Config.eui64 ∧
      t.out = s.out ++ (almPorts s).map (fun p => .beacon p b) ∧ t.alm.claimSeq = (s.alm.claimSeq + 1) % two16 ∧ Only [.alm, .out] s t)

/-- Time services of the ports (R90 to R92): the last eight delay measurements are kept, Pdelay_Req is answered, a boundary clock serves
Almanac time plus the coat's offset, a one-step transparent clock adds the residence time, peer-to-peer the delay of the ingress link too,
a two-step one keeps it for the Follow_Up; the frequency reference is the eligible port with the best quality level.
The order of quality levels and the residence time are the model's (log entries 31, 34). -/
def Obligations.PortTimeServices : Prop :=
  ∀ (s : State) (port : Nat), Awake s → port < 1024 →
    (portOf s port).st ≠ .awaitingKey →
    (∀ d, (portRole s port).almanac = true → Does (.pdelayMeasure port d) s fun t =>
      (portOf t port).pdelays = ((portOf s port).pdelays ++ [d]).drop ((portOf s port).pdelays.length + 1 - 8) ∧
        (portOf t port).st = (portOf s port).st ∧ (∀ q, q ≠ port → portOf t q = portOf s q) ∧ Only [.lnk] s t) ∧
    (∀ n, (ptpEn s port = true ∨ (portRole s port).almanac = true) → Does (.pdelayReqRx port n) s fun t =>
      t.out = s.out ++ [.pdelayResp port n] ∧ Only [.out] s t) ∧
    (∀ f : Ptp, ptpEn s port = true → (portRole s port).ptp = .boundary → f.kind = .delayReq → Does (.ptpFrameRx port f) s fun t =>
      t.out = s.out ++ [.ptpTime port .delayResp f.seqId ((now s : Int) + (coat s).almanac.ptpOffset)] ∧ Only [.out] s t) ∧
    (∀ (f : Ptp) p2p, ptpEn s port = true → (portRole s port).ptp = .transparent true p2p → f.kind = .sync →
      (∀ q ∈ ptpOthers s port, (portOf s q).st ≠ .awaitingKey) → Does (.ptpFrameRx port f) s fun t => Only [.out] s t ∧
        t.out = s.out ++ (ptpOthers s port).map fun q =>
          .ptp q { f with correction := f.correction + (f.residence + if p2p then ingressDelay16 s port * 4096 else 0) }) ∧
    (∀ (f : Ptp) p2p, ptpEn s port = true → (portRole s port).ptp = .transparent false p2p → f.kind = .sync →
      (∀ q ∈ ptpOthers s port, (portOf s q).st ≠ .awaitingKey) → Does (.ptpFrameRx port f) s fun t => Only [.lnk, .out] s t ∧
        alGet t.lnk.residences (port, f.seqId.toNat) = some (f.residence + if p2p then ingressDelay16 s port * 4096 else 0) ∧
        t.out = s.out ++ (ptpOthers s port).map fun q => .ptp q { f with correction := f.correction + 0 }) ∧
    ∀ level, (bit (coatReg s (lnkPort Reg.lnkPortCfg port) 0) 4 = true ∧ (portOf s port).st = .up →
        Does (.synceSelect [(port, level)]) s fun t => t.lnk.syncE = some port ∧ Only [.lnk] s t) ∧
      Does (.synceSelect []) s fun t => t.lnk.syncE = none ∧ Only [.lnk] s t

/-! ### Forecast calendars, slots, shapers, policers (spec/02, spec/05) -/

/-- A group's calendar (R27, R48, R51): an entry is active in its slots, from its start to its end, and after a step of time not before the
next period boundary; there a replacement takes over whole. The first tick of a slot (R143, R144, R149, R152): a port's strict allowances and scheduled grant are set anew, a shaped node's tokens rise by
RATE up to BURST, a policer's buckets by CIR and PIR up to their bursts.
A policer's full and a shaper's empty start are the model's (log entry 40). -/
def Obligations.CalendarsRun : Prop :=
  (∀ (s : State) (group entry : Nat) (x : FcGrp), Awake s → group < 16384 → entry < 4096 → alGet s.fc group = some x →
    (x.restart = false → inForce x.cal entry (slotNow s) = true → Does (.forecastEntryStart group entry) s fun t => Only [.fc] s t ∧
      (∃ y, alGet t.fc group = some y ∧ entry ∈ y.active ∧ y.cal = x.cal ∧ ∀ e, e ≠ entry → (e ∈ y.active ↔ e ∈ x.active)) ∧
      ∀ g, g ≠ group → alGet t.fc g = alGet s.fc g) ∧
    (x.restart = true ∨ inForce x.cal entry (slotNow s) = false → Does (.forecastEntryStart group entry) s fun t => t = s) ∧
    (inForce x.cal entry (slotNow s) = true → Does (.forecastEntryEnd group entry) s fun t => t = s) ∧
    (inForce x.cal entry (slotNow s) = false → Does (.forecastEntryEnd group entry) s fun t => Only [.fc] s t ∧
      (∃ y, alGet t.fc group = some y ∧ entry ∉ y.active ∧ y.cal = x.cal ∧ ∀ e, e ≠ entry → (e ∈ y.active ↔ e ∈ x.active)) ∧
      ∀ g, g ≠ group → alGet t.fc g = alGet s.fc g) ∧
    (atBoundary x.cal (slotNow s) = false → Does (.forecastPeriodBoundary group) s fun t => t = s) ∧
    (atBoundary x.cal (slotNow s) = true → Does (.forecastPeriodBoundary group) s fun t => Only [.fc] s t ∧ (∀ g, g ≠ group → alGet t.fc g = alGet s.fc g) ∧
      ∃ y, alGet t.fc group = some y ∧ y.restart = false ∧ (∀ c, x.next = some (some c) → y.cal = c ∧ y.next = none ∧ y.active = []) ∧
        (x.next = none → y.cal = x.cal ∧ y.active = x.active) ∧ (y.unsync = true ↔ x.unsync = true ∧ s.alm.st ≠ .locked))) ∧
  (∀ s : State, Awake s →
    (∀ port, portHere s port = true → portExists s port = true → port < 1024 →
      (Does (.slotAllowanceSet port) s fun t => Only [.sch] s t ∧ t.sch.grant = s.sch.grant ∧
        ∀ i, i < 3 → (alGetD t.sch.allow (port, 8 + i) {}).left = ((fld (coatReg s Reg.schPortCfg (schPort port)) (8 * i) 8 * slotBytes s port / 256 : Nat) : Int)) ∧
      (calendarsOff s = true → Does (.redGrantSet port) s fun t => Only [.sch] s t ∧ (alGetD t.sch.grant port {}).left = 0 ∧ t.sch.allow = s.sch.allow) ∧
      (calendarsOff s = false → Does (.redGrantSet port) s fun t => Only [.sch] s t ∧ t.sch.allow = s.sch.allow ∧
        (alGetD t.sch.grant port {}).left = ((shareSum s port * slotBytes s port * (256 - fld (coatReg s Reg.schPortCfg (schPort port)) 0 8 -
          fld (coatReg s Reg.schPortCfg (schPort port)) 8 8 - fld (coatReg s Reg.schPortCfg (schPort port)) 16 8) / 65536 : Nat) : Int))) ∧
    (∀ port, portHere s port = true → port < 1024 → Does (.shaperRefill port) s fun t => Only [.sch] s t ∧
      t.sch.leaves = s.sch.leaves ∧ t.sch.allow = s.sch.allow ∧
      (bit (nodeCfg s (.port port)) 8 = true → (nodeOf t (.port port)).tokens =
        min ((nodeOf s (.port port)).tokens + (coatFld s Reg.schNodeRate (nodeSel (.port port)) 0 22 : Nat))
          ((16 * coatFld s Reg.schNodeBurst (nodeSel (.port port)) 0 24 : Nat) : Int)) ∧
      (bit (nodeCfg s (.port port)) 8 = false → (nodeOf t (.port port)).tokens = (nodeOf s (.port port)).tokens)) ∧
    ∀ n, n < 16384 → bit (coatReg s Reg.schPolCfg n) 0 = true → Does (.policerRefill n) s fun t => Only [.sch] s t ∧
      policerBuckets t n = (min ((policerBuckets s n).1 + coatFld s Reg.schPolCir n 0 22) (policerFull s n).1,
        min ((policerBuckets s n).2 + coatFld s Reg.schPolPir n 0 22) (policerFull s n).2) ∧
      ∀ k, k ≠ n → policerBuckets t k = policerBuckets s k)

/-! ### Ports, lanes and links (spec/03) -/

/-- Training (R63, R81): the PCS of a port that needs no key aligns at full width and the port is UP, or under link-level replay sends its INIT
(R67); success after one or two failures is a transient (R78); a reduced retraining that does not end leaves the port DOWN, but in the tick of
a fault of the port only the fault is reported (R46). INIT of link-level replay
(R67): received after it was sent, the port comes up and may send DATA from SEQ 0; none within 1 ms of alignment takes the port DOWN.
TRAINING until INIT is exchanged is the model's reading (log entry 55). -/
def Obligations.PortsTrain : Prop :=
  (∀ (s : State) (port : Nat), Awake s → port < 1024 →
    (mayTrain s port = true → (portOf s port).st = .training → (portOf s port).llr.initSent = false →
      (outOfRack s port = false → (portOf s port).mask.length = (portOf s port).lanes.length → hasLlr s port = false →
        Does (.portTrainDone port true) s fun t => (portOf t port).st = .up ∧ (portOf t port).lanes = (portOf s port).lanes ∧
          (∀ i ∈ (portOf s port).mask, (laneOf t ((portOf s port).lanes.getD i 0)).lock = true) ∧
          (∀ q, q ≠ port → portOf t q = portOf s q) ∧ Only [.lnk, .ctr] s t ∧
          Counted s t Reg.rasTransientLo (if (portOf s port).attempts = 0 then 0 else 1)) ∧
      (hasLlr s port = true → Does (.portTrainDone port true) s fun t => (portOf t port).st = .training ∧
        (portOf t port).llr.initSent = true ∧ t.out = s.out ++ [.replayCtl port false initHdr] ∧ Only [.lnk, .ctr, .out] s t) ∧
      ((portOf s port).attempts < 2 → Does (.portTrainDone port false) s fun t =>
        (portOf t port).attempts = (portOf s port).attempts + 1 ∧ (portOf t port).st = .training ∧ Only [.lnk] s t)) ∧
    ((portOf s port).st = .training ∨ (portOf s port).st = .down → (portOf s port).degrading = true →
      ((portOf s port).faultTick ≠ some s.pwr.uptime → Does (.degradeTimeout port) s fun t =>
        (portOf t port).st = .down ∧ (portOf t port).held = true ∧ Raised t (lnkPort Reg.lnkPortEvent port) 4 port ∧
          Only ([.alm, .lnk, .swc, .sch] ++ eventParts) s t) ∧
      ((portOf s port).faultTick = some s.pwr.uptime → Does (.degradeTimeout port) s fun t => t = s))) ∧
  (∀ (s : State) (port : Nat), Awake s → port < 1024 → hasLlr s port = true → (portOf s port).st = .training →
    (portOf s port).llr.initSent = true →
    (∀ h, llrHdrOk s port 3 h = true → outOfRack s port = false → (portOf s port).mask.length = (portOf s port).lanes.length →
      Does (.llrInitRx port h) s fun t => (portOf t port).st = .up ∧ (portOf t port).llr.initRcvd = true ∧
        (portOf t port).llr.txNext = (portOf s port).llr.txNext ∧ Only [.lnk] s t) ∧
    (∀ h, llrHdrOk s port 3 h = false → Does (.llrInitRx port h) s fun t =>
      Counted s t (lnkPort Reg.lnkLlrMalformedLo port) 1 ∧ Only [.ctr] s t) ∧
    ((portOf s port).llr.initRcvd = false → Does (.llrInitTimeout port) s fun t => (portOf t port).st = .down ∧
      Raised t (lnkPort Reg.lnkPortEvent port) 0 port ∧ Only (.lnk :: eventParts) s t))

/-- DATA under link-level replay (R66, R68, R123): the frame in sequence is taken and delivered, here a PAUSE frame, which its port counts
(R61); a stomped one is taken and not delivered; one out of sequence is answered with NAK, once. -/
def Obligations.DataInSequence : Prop :=
  ∀ (s : State) (port : Nat) (h : LlrHdr) (f : Frame), Awake s → port < 1024 → llrActive s port = true → llrHdrOk s port 0 h = true →
    h.ackValid = false → (portOf s port).llr.ackDue < 63 → 64 ≤ f.len → f.len ≤ 9216 →
    (h.seq.toNat = (portOf s port).llr.rxExpect → f.fcs = .good → f.etherType = 0x8808 → beAt f.body 0 2 = 1 →
      (portOf s port).st ≠ .awaitingKey → Does (.llrDataRx port h f) s fun t =>
        (portOf t port).llr.rxExpect = ((portOf s port).llr.rxExpect + 1) % two16 ∧
          (portOf t port).llr.ackDue = (portOf s port).llr.ackDue + 1 ∧ (portOf t port).pauseRx = (portOf s port).pauseRx + 1 ∧
          Counted s t (lnkPort Reg.lnkRxBytesLo port) f.len ∧ Only [.lnk, .ctr] s t) ∧
    (h.seq.toNat = (portOf s port).llr.rxExpect → f.fcs = .stomped → Does (.llrDataRx port h f) s fun t =>
      (portOf t port).llr.rxExpect = ((portOf s port).llr.rxExpect + 1) % two16 ∧ Only [.lnk, .ctr] s t) ∧
    (h.seq.toNat ≠ (portOf s port).llr.rxExpect → f.fcs = .good → (portOf s port).llr.nakSent = false →
      Does (.llrDataRx port h f) s fun t => (portOf t port).llr.rxExpect = (portOf s port).llr.rxExpect ∧
        (portOf t port).llr.nakSent = true ∧ (∃ n, n.typ = 2 ∧ n.ackSeq = BitVec.ofNat 16 ((portOf s port).llr.rxExpect + 65535) ∧
          t.out = s.out ++ [.replayCtl port false n]) ∧ Only [.lnk, .ctr, .out] s t)

/-- Acknowledgements (R66, R68, R69): ACK names the last sequence in order and frees what it covers; NAK and the replay timer send every frame
that is left again as it was, in order, with RETX set; an acknowledgement of its tick has cancelled the timer (R71).
The sequence acknowledged last is taken as no error (log entry 49). -/
def Obligations.Replays : Prop :=
  ∀ (s : State) (port : Nat), Awake s → port < 1024 → llrActive s port = true →
    ((portOf s port).llr.ackDue ≠ 0 → Does (.llrAckTimer port) s fun t => (portOf t port).llr.ackDue = 0 ∧ Only [.lnk, .out] s t ∧
      ∃ n, n.typ = 1 ∧ n.ackSeq = BitVec.ofNat 16 ((portOf s port).llr.rxExpect + 65535) ∧ t.out = s.out ++ [.replayCtl port false n]) ∧
    (∀ h u r k, llrHdrOk s port 1 h = true → h.ackValid = true → (portOf s port).llr.unacked = u :: r →
      k = (h.ackSeq.toNat + 65537 - u.seq) % 65536 → u.seq < 65536 → k ≤ (u :: r).length → Does (.llrAckRx port h) s fun t =>
        (portOf t port).llr.unacked = (u :: r).drop k ∧ (portOf t port).llr.txNext = (portOf s port).llr.txNext ∧ Only [.lnk] s t) ∧
    (∀ h u r k, llrHdrOk s port 2 h = true → (portOf s port).llr.unacked = u :: r → k = (h.ackSeq.toNat + 65537 - u.seq) % 65536 →
      u.seq < 65536 → k ≤ (u :: r).length → (∀ x ∈ u :: r, x.resends < llrBudget s port) → Does (.llrNakRx port h) s fun t =>
        t.out = s.out ++ ((u :: r).drop k).map (fun x => .frame port (some (llrHdr (portOf s port) 0 true x.seq 0)) x.frame x.stomped) ∧
          (portOf t port).llr.unacked = ((u :: r).drop k).map (fun x => { x with resends := x.resends + 1 }) ∧
          Only [.lnk, .ctr, .out] s t) ∧
    ((portOf s port).sparing = none → (portOf s port).llr.unacked ≠ [] → (∀ x ∈ (portOf s port).llr.unacked, x.resends < llrBudget s port) →
      (portOf s port).llr.ackTick ≠ some s.pwr.uptime → Does (.llrReplayTimeout port) s fun t =>
        t.out = s.out ++ (portOf s port).llr.unacked.map (fun x => .frame port (some (llrHdr (portOf s port) 0 true x.seq 0)) x.frame x.stomped) ∧
          (portOf t port).llr.episodes = (portOf s port).llr.episodes + 1 ∧
          Counted s t (lnkPort Reg.lnkLlrReplayLo port) (portOf s port).llr.unacked.length ∧ Only [.lnk, .ctr, .out] s t) ∧
    ((portOf s port).llr.ackTick = some s.pwr.uptime → Does (.llrReplayTimeout port) s fun t => t = s)

/-- Lanes (R78, R80, R573): a loss of signal arms LOS_HOLD; one that ends in time is a transient, one that lasts retires the lane. A full
calibration is noted. A 1 ms window (R78): a lane's corrected symbols and the port's uncorrectable codewords are counted; a lane above the
symbol error threshold in its third window in a row is retired; codewords up to UNCORR_LIMIT are a transient.
What one count of RAS_TRANSIENT is, is the model's reading (log entry 50). -/
def Obligations.LanesFail : Prop :=
  (∀ (s : State) (lane : Nat), Awake s → lane < 1152 →
    ((laneOf s lane).role ≠ .retired → Does (.lossOfSignal lane) s fun t => (laneOf t lane).signal = false ∧
      (laneOf t lane).lock = false ∧ (laneOf t lane).losArmed = true ∧ (laneOf t lane).role = (laneOf s lane).role ∧
      (∀ n, n ≠ lane → laneOf t n = laneOf s n) ∧ Only [.lnk] s t) ∧
    ((laneOf s lane).role ≠ .retired → (laneOf s lane).losArmed = true → Does (.laneLockRegained lane) s fun t =>
      (laneOf t lane).signal = true ∧ (laneOf t lane).lock = true ∧ (laneOf t lane).losArmed = false ∧
        (laneOf t lane).losCount = ((laneOf s lane).losCount + 1) % two32 ∧ Counted s t Reg.rasTransientLo 1 ∧ Only [.lnk, .ctr] s t) ∧
    ((laneOf s lane).role ≠ .retired → (laneOf s lane).losArmed = true → Does (.losHoldExpiry lane) s fun t =>
      (laneOf t lane).role = .retired ∧ (unitOf t 0 lane).st = 3 ∧ evtBit t Reg.rasEventStatus 1 = true ∧
        evtBit t (lnkAddr Reg.lnkLaneEvent lane) 1 = true ∧ t.pool = s.pool ∧ Safety.same .mem s t) ∧
    ((laneOf s lane).losArmed = false → Does (.losHoldExpiry lane) s fun t => t = s) ∧
    Does (.calibration lane) s fun t => alGet t.lnk.calibrated lane = some s.pwr.uptime ∧ t.lnk.lanes = s.lnk.lanes ∧ Only [.lnk] s t) ∧
  (∀ (s : State) (port uncorr : Nat) (w : LaneWin), Awake s → port < 1024 → w.lane < 1152 → uncorr ≤ uncorrLimit s port →
    (w.errors * 2 ^ coatFld s (lnkPort Reg.lnkFaultCfg (port / 8 * 8)) 0 4 5 ≤ w.symbols → (laneOf s w.lane).serRun = 0 → 0 < uncorr →
      Does (.linkErrorWindow port [w] uncorr false) s fun t =>
        Counted s t (lnkPort Reg.lnkFecUncorrLo port) uncorr ∧ Counted s t (lnkAddr Reg.lnkLaneSymCorrLo w.lane) w.corrected ∧
          Counted s t Reg.rasTransientLo 1 ∧ (laneOf t w.lane).winCorr = w.corrected ∧ (laneOf t w.lane).serRun = 0 ∧
          (laneOf t w.lane).role = (laneOf s w.lane).role ∧ Only [.lnk, .ctr] s t) ∧
    (w.symbols < w.errors * 2 ^ coatFld s (lnkPort Reg.lnkFaultCfg (port / 8 * 8)) 0 4 5 → (laneOf s w.lane).serRun = 2 →
      Does (.linkErrorWindow port [w] 0 false) s fun t => (laneOf t w.lane).role = .retired ∧
        ((laneOf s w.lane).role ≠ .retired → (unitOf t 0 w.lane).st = 3)))

/-- Lane sparing (R72, R73): SPARE_REQ is answered with SPARE_ACK and the logical lane moves to the group's spare; the end that asked moves
it too; lock on the new lane set is announced with the last DATA in order; SPARE_DONE lets DATA go on after what the partner has. An
idle spare that fails interrupts nothing. -/
def Obligations.LanesAreSpared : Prop :=
  ∀ (s : State) (port : Nat) (h : LlrHdr), Awake s → port < 1024 → llrActive s port = true →
    (∀ partner, partner < 1048576 → llrHdrOk s port 4 h = true → (portOf s port).sparing = none → spareIdle s port = true →
      portUp s port = true → (portOf s port).lanes.getD h.lane.toNat 0 ≠ groupSpare s port → Does (.spareReqRx port h partner) s fun t =>
        (portOf t port).st = .sparing ∧ (portOf t port).lanes = (portOf s port).lanes.set h.lane.toNat (groupSpare s port) ∧
          (laneOf t (groupSpare s port)).role = .spareInUse ∧ (laneOf t ((portOf s port).lanes.getD h.lane.toNat 0)).role = .retired ∧
          (∃ n, n.typ = 5 ∧ n.lane = h.lane ∧ Sent s t (.replayCtl port true n)) ∧
          (h.ackValid = false → (portOf t port).llr.unacked = (portOf s port).llr.unacked)) ∧
    (∀ x, llrHdrOk s port 5 h = true → (portOf s port).sparing = some x → x.detector = true → x.moved = false → x.logical = h.lane.toNat →
      Does (.spareAckRx port h) s fun t => (portOf t port).lanes = (portOf s port).lanes.set x.logical (groupSpare s port) ∧
        (portOf t port).sparing = some { x with moved := true } ∧ (laneOf t (groupSpare s port)).role = .spareInUse ∧
        Only (.lnk :: eventParts) s t) ∧
    (∀ x, (portOf s port).sparing = some x → x.moved = true → x.locked = false → Does (.spareAlignLock port) s fun t =>
      (portOf t port).sparing = some { x with locked := true } ∧ Only [.lnk, .out] s t ∧
        ∃ n, n.typ = 6 ∧ n.ackSeq = BitVec.ofNat 16 ((portOf s port).llr.rxExpect + 65535) ∧ t.out = s.out ++ [.replayCtl port false n]) ∧
    (∀ x u r k, llrHdrOk s port 6 h = true → keyless s port = false → (portOf s port).sparing = some x → x.locked = true → (portOf s port).llr.unacked = u :: r →
      k = (h.ackSeq.toNat + 65537 - u.seq) % 65536 → u.seq < 65536 → k ≤ (u :: r).length → (∀ y ∈ u :: r, y.resends < llrBudget s port) →
      Does (.spareDoneRx port h) s fun t => (portOf t port).sparing = none ∧
        (portOf t port).llr.unacked.map Unacked.seq = ((u :: r).drop k).map Unacked.seq ∧
        (portOf t port).st = (if (portOf s port).mask.length < (portOf s port).lanes.length then .degraded else .up) ∧
        Only [.lnk, .ctr, .out] s t) ∧
    ∀ group, group < 64 → (laneOf s (groupSpare s (basePort s + 8 * group))).role = .idleSpare → Does (.spareLost group) s fun t =>
      (laneOf t (groupSpare s (basePort s + 8 * group))).role = .retired ∧
        evtBit t (lnkAddr Reg.lnkLaneEvent (groupSpare s (basePort s + 8 * group))) 2 = true ∧ t.lnk.ports = s.lnk.ports ∧
        t.swc = s.swc ∧ t.sch = s.sch

/-- Cages (R83, R84): an acknowledged retry completes, the third that fails marks the cage ABSENT and is logged with CODE 33; a module
taken out leaves its cage empty; an ABSENT cage is probed again.
The unit of the log entry is the model's reading (log entry 59). -/
def Obligations.CagesAreWatched : Prop :=
  ∀ (s : State) (group : Nat) (busB : Bool), Awake s → group < 64 →
    ((cage s group busB).retrying = true → Does (.cageRetryExpiry group busB true) s fun t =>
      (cage t group busB).st = 2 ∧ (cage t group busB).retrying = false ∧ t.lnk.ports = s.lnk.ports ∧ Only [.lnk] s t) ∧
    ((cage s group busB).retrying = true → (cage s group busB).tries < 2 → Does (.cageRetryExpiry group busB false) s fun t =>
      (cage t group busB).tries = (cage s group busB).tries + 1 ∧ (cage t group busB).st = (cage s group busB).st ∧
        t.lnk.ports = s.lnk.ports ∧ Only [.lnk] s t) ∧
    ((cage s group busB).retrying = true → 2 ≤ (cage s group busB).tries → Does (.cageRetryExpiry group busB false) s fun t =>
      (cage t group busB).st = 3 ∧ (cage t group busB).retrying = false ∧ (∃ e ∈ t.tel.log, e.block = 2 ∧ e.code = 33) ∧
        Only ([.alm, .lnk, .swc, .sch] ++ eventParts) s t) ∧
    (∀ a, busUsed s group busB = true → Does (.cagePresenceChange group busB false a) s fun t =>
      (cage t group busB).st = 1 ∧ (cage t group busB).known = false ∧ t.lnk.ports = s.lnk.ports ∧ Only [.lnk] s t) ∧
    ((cage s group busB).st = 3 → busUsed s group busB = true → Does (.cageProbe group busB .silent) s fun t =>
      (cage t group busB).st = 3 ∧ (cage t group busB).retrying = true ∧ (cage t group busB).tries = 0 ∧ t.lnk.ports = s.lnk.ports ∧
        Only [.lnk] s t)

/-! ### The switch core and its schedulers (spec/04, spec/05) -/

/-- A frame that arrives for a port of its VLAN whose queue has room is stored once and queued there (R102, R106, R110, R113); the first
matching table entry leads it. A PAUSE frame is counted and goes no further (R61). A free output sends the head of the leaf that the
scheduler picks, whole (R113, R142).
The VLAN and the class of what the coat leaves out are the model's (log entries 44, 51). -/
def Obligations.FramesAreForwarded : Prop :=
  (∀ (s : State) (port : Nat) (f : Frame), Awake s → port < 1024 → portHere s port = true → hasLlr s port = false → f.fcs = .good →
    64 ≤ f.len → f.len ≤ 9216 → (portOf s port).st = .up →
    (f.etherType = 0x8808 → beAt f.body 0 2 = 1 → Does (.frameArrival port f) s fun t =>
      (portOf t port).pauseRx = (portOf s port).pauseRx + 1 ∧ Counted s t (lnkPort Reg.lnkRxBytesLo port) f.len ∧ Only [.lnk, .ctr] s t) ∧
    ∀ vl q e, outOfRack s port = false → f.etherType ≠ 0x8808 → isAlmanacFrame s f = false → f.ip = none → vlanOf s (ingressVlan s port f) = some vl →
      port ∈ vl.members → vl.learn = false → (coat s).switch.acls = [] → (coat s).switch.routerMacs.contains f.dst = false →
      (coat s).schedule.polPort = [] → ((coat s).switch.macs.find? fun x => x.vlan == ingressVlan s port f && x.mac == f.dst) = some e →
      e.target = .port q → portHere s q = true → portExists s q = true → (portOf s q).st = .up →
      losslessAt s port q (baseClass s port f) = false → 1 ≤ minFree s q (baseClass s port f) → s.swc.frames = [] →
      Does (.frameArrival port f) s fun t => t.swc.nextFrame = s.swc.nextFrame + 1 ∧
        (∃ b, bufFrame t s.swc.nextFrame = some b ∧ b.frame = f ∧ b.inPort = port ∧ b.refs = 1 ∧ b.cells = (f.len + 255) / 256) ∧
        (∃ x, leafOf t (leafFor s q (baseClass s port f) f) = leafOf s (leafFor s q (baseClass s port f) f) ++ [x] ∧
          x.frame = s.swc.nextFrame ∧ x.port = q ∧ x.tick = s.pwr.uptime) ∧ Only [.swc, .sch, .ctr, .out] s t) ∧
  (∀ (s : State) (port : Nat) (x : Choice) (e : QEnt) (rest : List QEnt) (b : BufFrame), Awake s → port < 1024 →
    (portOf s port).txBusy = none → schedView s = s → choose (look s port) port = some x → leafOf s x.leaf = e :: rest →
    bufFrame s e.frame = some b → mayBegin s port b.frame.len = true → Does (.schedSelect port) s fun t =>
      (portOf t port).txBusy = some e.frame ∧ leafOf t x.leaf = rest ∧ (bufFrame t e.frame).map BufFrame.frame = some b.frame ∧
        (∃ hdr g, Sent s t (.frame port hdr g b.stomped) ∧ g.dst = b.frame.dst ∧ g.src = b.frame.src ∧ g.len = b.frame.len ∧
          g.body = b.frame.body ∧ g.pmt = b.frame.pmt) ∧ Only [.lnk, .swc, .sch, .ctr, .out, .freeCtr] s t)

/-- Priority pauses (R115 to R119): a PFC frame pauses and releases the priorities it names where PFC_EN is set and no storm runs, and none that
the coat maps to a privileged class only; quanta run out; a pause that outlasts the watchdog is a storm, whose queue is dropped; a quiet watchdog period ends it. A pause sent stands
while its account is full.
A quantum of 0 is taken from IEEE 802.3 (log entry 43). -/
def Obligations.PrioritiesPause : Prop :=
  ∀ (s : State) (port prio : Nat), Awake s → port < 1024 → prio < 8 →
    (∀ (enable : BitVec 8) quanta, quanta.length = 8 → pfcEnabled s port prio = true → privilegedOnly s prio = false → (pauseOf s port prio).storm = false →
      Does (.pfcRx port enable quanta) s fun t =>
        (enable.getLsbD prio = true → (pauseOf t port prio).paused = (quanta.getD prio 0 != 0)) ∧
        (enable.getLsbD prio = false → pauseOf t port prio = pauseOf s port prio) ∧ t.swc.frames = s.swc.frames ∧
        Only [.swc, .sch, .ctr] s t) ∧
    ((pauseOf s port prio).paused = true → Does (.pfcQuantaExpiry port prio) s fun t => (pauseOf t port prio).paused = false ∧
      (pauseOf t port prio).storm = (pauseOf s port prio).storm ∧ Only [.swc, .sch] s t) ∧
    ((accountOf s port prio).paused = true → xoff64 s port ≤ ((accountOf s port prio).cells + 72) * 64 → Does (.pfcRefresh port prio) s fun t =>
      (∃ q, t.out = s.out ++ [.pfc port (BitVec.ofNat 8 (2 ^ prio)) q] ∧ q.getD prio 0 = 0xFFFF) ∧ Only [.ctr, .out] s t) ∧
    ((pauseOf s port prio).paused = true → (pauseOf s port prio).storm = false → Does (.pfcWdExpiry port prio) s fun t =>
      (pauseOf t port prio).storm = true ∧ (pauseOf t port prio).paused = false ∧ evtBit t Reg.swcEventStatus 2 = true ∧
        (∀ n x, x ∈ leafOf t n → ¬(x.port = port ∧ x.cls = prio)) ∧ Only ([.swc, .sch] ++ eventParts) s t) ∧
    (∀ q (enable : BitVec 8) quanta, quanta.length = 8 → privilegedOnly s q = true → q < 8 → Does (.pfcRx port enable quanta) s fun t =>
      pauseOf t port q = pauseOf s port q) ∧
    ((pauseOf s port prio).storm = true → (∀ t, (pauseOf s port prio).rxTick = some t → t + pfcWdTicks s ≤ s.pwr.uptime) → Does (.pfcWdExpiry port prio) s fun t =>
      (pauseOf t port prio).storm = false ∧ Only [.swc] s t)

/-- The switch's own faults (R104, R114, R120, R121): an aged MAC entry goes and no other; a missing cell among the 1,024 last sent, of
a frame still in the buffer, is sent again over the next plane in service, any other is no gap; an uncorrectable cell takes its frame out of every queue and its location out of service.
The location's number is a free value (log entry 22). -/
def Obligations.SwitchFaults : Prop :=
  ∀ s : State, Awake s →
    (∀ vlan mac, vlan < 4096 → Does (.macAgeOut vlan mac) s fun t => Only [.swc] s t ∧
      ∀ e, e ∈ t.swc.learned ↔ e ∈ s.swc.learned ∧ ¬(e.vlan = vlan ∧ e.mac = mac)) ∧
    (∀ i o q plane x, i < 1024 → o < 1024 → q < 4096 → plane < 4 → alGet s.swc.xpairs (i, o) = some x →
      ((missingCell s x q).isSome = true → s.swc.planeWindow = msNow s → alGetD s.swc.planeLost plane 0 < coatFld s Reg.swcCfg 0 5 8 →
        Does (.reseqTimeout i o q plane) s fun t => Counted s t Reg.swcReseqResendLo 1 ∧ Counted s t Reg.rasTransientLo 1 ∧
          alGetD t.swc.planeLost plane 0 = alGetD s.swc.planeLost plane 0 + 1 ∧ t.swc.frames = s.swc.frames ∧
          alGet t.swc.xpairs (i, o) = some { x with resent := nextPlane s plane } ∧ Only [.swc, .ctr] s t) ∧
      (missingCell s x q = none → Does (.reseqTimeout i o q plane) s fun t => t = s)) ∧
    ∀ frame cell b, bufFrame s frame = some b → cell < b.cells → Does (.bufUncorr frame cell) s fun t =>
      (∀ n x, x ∈ leafOf t n → x.frame ≠ frame) ∧ evtBit t Reg.swcEventStatus 5 = true ∧
        (∃ n, (BankKind.bufferCell, n) ∈ t.nv.retired ∨ (BankKind.bufferCell, n) ∈ t.ras.lost) ∧ Safety.same .mem s t ∧ t.pool = s.pool

/-! ### The pool home (spec/06) -/

/-- READ and MIRROR_READ of lines in HBM answer the bytes that stand there, and change no byte (R178, R190). -/
def Obligations.ReadsAnswerMemory : Prop :=
  ∀ (s : State) (m : Msg), InHand s (lineRange m.address.toNat (readSize m)) →
    (Accepted s Op.read m → Does (.read m) s fun t =>
      Answered s t m St.ok (memRead s.mem m.address.toNat (readSize m)) ∧ Safety.same .mem s t ∧ t.coh = s.coh ∧ t.dns = s.dns) ∧
    (Accepted s Op.mirrorRead m → Does (.mirrorRead m) s fun t =>
      Answered s t m St.ok (memRead s.mem m.address.toNat (readSize m)) ∧ Safety.same .mem s t ∧ t.coh = s.coh ∧ t.dns = s.dns)

/-- WRITE and MIRROR_WRITE of lines in HBM put their payload at ADDRESS and change no other byte (R178, R188). WRITE_MASKED and MIRROR_MASKED
write the bytes of one line that their mask names and no other (R178, R188). They complete at once where no partner must take them too and
R173 does not hold them; in a window that is PAIRED a WRITE is written here and goes to the partner as MIRROR_WRITE (R189). -/
def Obligations.WritesReachMemory : Prop :=
  (∀ (s : State) (m : Msg), InHand s (lineRange m.address.toNat m.body.length) → WritesAlone s m.address.toNat →
    let done := fun t : State => Answered s t m St.ok [] ∧ memRead t.mem m.address.toNat m.body.length = m.body ∧
      (∀ a, a < m.address.toNat ∨ m.address.toNat + m.body.length ≤ a → memByte t.mem a = memByte s.mem a) ∧ t.coh = s.coh ∧ t.dns = s.dns
    (Accepted s Op.write m → Does (.write m) s done) ∧ (Accepted s Op.mirrorWrite m → Does (.mirrorWrite m) s done)) ∧
  (∀ (s : State) (m : Msg), InHand s (m.address.toNat / 128, 1) → WritesAlone s m.address.toNat →
    let done := fun t : State => Answered s t m St.ok [] ∧
      (∀ i, i < 128 → memByte t.mem (m.address.toNat + i) =
        if maskBit (m.body.take 16) i then (m.body.drop 16).getD i 0 else memByte s.mem (m.address.toNat + i)) ∧
      (∀ a, a < m.address.toNat ∨ m.address.toNat + 128 ≤ a → memByte t.mem a = memByte s.mem a) ∧ t.coh = s.coh ∧ t.dns = s.dns
    (Accepted s Op.writeMasked m → Does (.writeMasked m) s done) ∧ (Accepted s Op.mirrorMasked m → Does (.mirrorMasked m) s done)) ∧
  ∀ (s : State) (m : Msg) (w : Win), InHand s (lineRange m.address.toNat m.body.length) → Accepted s Op.write m →
    winAt s m.address.toNat = some w → mirSt s w = .paired → ((w.policy ≠ 2 ∧ w.policy ≠ 3) ∨ tooDirty s = false) →
    Does (.write m) s fun t => memRead t.mem m.address.toNat m.body.length = m.body ∧
      (∀ a, a < m.address.toNat ∨ m.address.toNat + m.body.length ≤ a → memByte t.mem a = memByte s.mem a) ∧ t.coh = s.coh ∧ t.dns = s.dns ∧
      ∃ o ∈ t.pool.outs, o.target = w.partner ∧ o.opcode = Op.mirrorWrite ∧ o.address = w.mbase + (m.address.toNat - w.base) ∧ o.payload = m.body

/-- ATOMIC answers the old value and leaves the new one, little-endian at ADDRESS; every other byte stays (R229, R230). It completes at once
where no partner must take its write too and R173 does not hold it (R189). -/
def Obligations.AtomicsReadAndWrite : Prop :=
  ∀ (s : State) (m : Msg) (op : Aop), Accepted s Op.atomic m → InHand s (m.address.toNat / 128, 1) →
    WritesAlone s (128 * (m.address.toNat / 128)) → aopOf (beAt m.body 0 1) = some op → (s.pool.holds = [] ∧ s.pool.retries = []) →
    Does (.atomic m) s fun t =>
      Answered s t m St.ok (beBytes 8 (leNat (memRead s.mem m.address.toNat (beAt m.body 1 1)))) ∧
        memRead t.mem m.address.toNat (beAt m.body 1 1) = leBytes (beAt m.body 1 1)
          (aopResult op (8 * beAt m.body 1 1) (leNat (memRead s.mem m.address.toNat (beAt m.body 1 1))) (beAt m.body 8 8) (beAt m.body 16 8)) ∧
        (∀ a, a < m.address.toNat ∨ m.address.toNat + beAt m.body 1 1 ≤ a → memByte t.mem a = memByte s.mem a) ∧
        Counted s t Reg.cohAtomicLo 1 ∧ t.coh = s.coh ∧ t.dns = s.dns

/-- FLUSH and MIRROR_FLUSH of a range with no dirty line complete and change no byte; DISCARD and MIRROR_DISCARD of a CAPACITY window make
every line of the range read as zeros (R178, R188), at once where no partner must take them too (R189). -/
def Obligations.FlushesAndDiscards : Prop :=
  ∀ (s : State) (m : Msg), s.coh.slots = [] → WritesAlone s m.address.toNat →
    (let g := lineRange m.address.toNat (byteCount m)
     dirtyLines s [g] = [] → (s.pool.cache.all fun c => !c.2.staged) = true →
      (Accepted s Op.flush m → Does (.flush m) s fun t => Answered s t m St.ok [] ∧ Safety.same .mem s t ∧ t.coh = s.coh ∧ t.dns = s.dns) ∧
      (Accepted s Op.mirrorFlush m → Does (.mirrorFlush m) s fun t =>
        Answered s t m St.ok [] ∧ Safety.same .mem s t ∧ t.coh = s.coh ∧ t.dns = s.dns)) ∧
    (let g := lineRange m.address.toNat (byteCount m)
     let done := fun t : State => Answered s t m St.ok [] ∧ (∀ l, inRange g l = true → tierOf t l = .zeros ∧ inHbm t l = false) ∧ t.dns = s.dns
     (∃ w, winAt s m.address.toNat = some w ∧ w.policy = 1) → (∀ l, inRange g l = true → ∃ w, winOfLine s l = some w ∧ w.policy = 1) →
      (Accepted s Op.discard m → Does (.discard m) s done) ∧ (Accepted s Op.mirrorDiscard m → Does (.mirrorDiscard m) s done))

/-- Requests of the Volinar's own (R187, R191): a completion that matches TAG and SEQUENCE ends its request, here TRAY_IDENT, which identifies
its tray; one answered BUSY waits for its retry. While RETRIES allow, a timer sends the same request again; one that was refused goes out
under the next sequence. PAIR_RESET (R182): the pair starts anew after its sequence, nothing of it held or kept, and is answered OK.
Whether a reissue keeps its place in its pair's order is the model's reading (log entry 69). -/
def Obligations.OwnRequestsEnd : Prop :=
  (∀ (s : State) (o : OutReq), Waits s o → o.target < 1048576 → o.tag < 65536 →
    (∀ (m : Msg) (tray : Nat), pmtServes s = true → m.port ≤ 1024 → wellReceived Op.completion m = true → m.src = o.target →
      m.tag.toNat = o.tag → m.seq.toNat = o.seq → o.purpose = .trayIdent tray →
      (statusOf m.flags.toNat = St.ok → s.pool.outs = [o] → beAt m.body 8 2 = 128 → beAt m.body 0 8 ≤ 2 ^ 44 →
        Causes (.completion m) s fun t => t.pool.outs = [] ∧ (capTrayOf t tray).st = 2 ∧ (capTrayOf t tray).bytes = beAt m.body 0 8 ∧
          (capTrayOf t tray).maxOut = beAt m.body 10 2 ∧ (∀ i, i ≠ tray → capTrayOf t i = capTrayOf s i) ∧ Only [.pool] s t) ∧
      (statusOf m.flags.toNat = St.busy → Causes (.completion m) s fun t =>
        (∃ x, outOf t o.target o.tag = some x ∧ x.busyWait = true ∧ x.seq = o.seq) ∧ t.pool.capTrays = s.pool.capTrays ∧ Only [.pool] s t)) ∧
    (o.busyWait = false → o.resends < coatFld s Reg.poolTimeout 0 10 3 → Causes (.poolTimeout o.target o.tag) s fun t =>
      t.out = s.out ++ [.pmt (outFrame s o)] ∧ t.pool.nextSeq = s.pool.nextSeq ∧
        outOf t o.target o.tag = some { o with resends := o.resends + 1 } ∧ Only [.pool, .out] s t) ∧
    (o.busyWait = true → Causes (.trayBusyRetry o.target o.tag) s fun t => outOf t o.target o.tag =
        some { o with seq := nextSeqOf s (outPair s o), sent := true, busyWait := false } ∧
      t.out = s.out ++ [.pmt (outFrame s { o with seq := nextSeqOf s (outPair s o) })] ∧ Only [.pool, .out] s t)) ∧
  (∀ (s : State) (m : Msg), Awake s → Rest s → pmtServes s = true → s.scr.st = .solo → m.port ≤ 1024 → wellReceived Op.pairReset m = true →
    creditsOf s m.src ≠ 0 → residentEp s m.src = false → m.length = 0 → m.payload = [] → m.address = 0 → m.flags = 0 → m.epoch = 0 →
    m.wt.toNat / 4096 % 8 = 0 → m.dest.toNat = selfEp s → (srcOf s m.src).lastReset ≠ some (m.tag.toNat, m.seq.toNat) →
    slotOfEp s m.src = none →
    Does (.pairReset m) s fun t => Answered s t m St.ok [] ∧ (srcOf t m.src).expect = (m.seq.toNat + 1) % two32 ∧
      (srcOf t m.src).held = [] ∧ (srcOf t m.src).lastReset = some (m.tag.toNat, m.seq.toNat) ∧
      (∀ e, e ≠ m.src → srcOf t e = srcOf s e) ∧ Only [.pool, .out] s t)

/-- Background work on a 64 KiB unit takes a tracker entry of its own (R171, R172, R184, R189): a landed unit gone cold is migrated, a unit
of a failed tray is restored to a second tray, a marked unit of a mirror is copied to the partner; a mirror with none left is PAIRED; the
primary of a mirror in SINGLE asks its partner with PAIR_RESET.
One unit a command, and when PAIR_RESET goes, are the model's choices (log entries 171, 226). -/
def Obligations.UnitsMove : Prop :=
  ∀ (s : State) (unit : Nat), Awake s → unit < 2 ^ 40 → s.pool.txs = [] → s.pool.bgWait = [] → 0 < bgReserve s →
    ((mapOf s unit).st = .landed → (∃ w, winOfLine s (512 * unit) = some w ∧ w.policy = 2) → s.dns.st = 2 → 10 ≤ (denseUp s).length →
      coldTicks s ≤ s.pwr.uptime - (capUnitOf s unit).lastWrite → s.pool.cache = [] → unitMoving s unit = false →
      Causes (.unitMigrate unit) s fun t => t.pool.txs.map Tx.work = [.migrate unit] ∧ Only [.pool] s t) ∧
    (∀ i, (capTraysUp s).find? (fun i => !(goodCopies s unit).contains i) = some i → capPair s = true → (goodCopies s unit).length = 1 →
      (unitPlace s unit).isSome = true → Causes (.pairRestore unit) s fun t =>
        t.pool.txs.map Tx.work = [.restore unit i] ∧ t.pool.capUnits = s.pool.capUnits ∧ Only [.pool] s t) ∧
    (∀ win u r, win < 16384 → (winSt s win).mirror = .resync → (winSt s win).marked = u :: r → Causes (.mirrorResyncStep win) s fun t =>
      t.pool.txs.map Tx.work = [.resync win u] ∧ t.pool.wins = s.pool.wins ∧ Only [.pool] s t) ∧
    (∀ win, win < 16384 → (winSt s win).mirror = .resync → (winSt s win).marked = [] → Causes (.mirrorResyncStep win) s fun t =>
      (winSt t win).mirror = .paired ∧ (∀ v, v ≠ win → winSt t v = winSt s v) ∧ t.pool.txs = [] ∧ Only [.pool] s t) ∧
    ∀ win w, win < 16384 → (winSt s win).mirror = .single → ((wins s).find? fun w => w.id == win) = some w →
      (∀ o ∈ s.pool.outs, ¬(o.target = w.partner ∧ o.opcode = Op.pairReset)) → Causes (.mirrorResyncStep win) s fun t =>
        (∃ o ∈ t.pool.outs, o.target = w.partner ∧ o.opcode = Op.pairReset ∧ o.purpose = .pairReset win) ∧ t.pool.wins = s.pool.wins ∧
          Only [.pool, .out] s t

/-! ### Coherence (spec/07, spec/08) -/

/-- Fills (R208, R214, R216): with no other holder a line in HBM is granted Forwarder to RD_SHARED, and Exclusive to RD_ANY of a window that may
be written and to RD_OWN; the record at the way it named shows it, and the grant carries the line. UPGRADE (R216, R219): the only holder of
a line, Shared or Forwarder and not stale, becomes its owner without data.
A lookup's hit or miss is a free value (log entry 20). -/
def Obligations.LinesAreGranted : Prop :=
  (∀ (s : State) (m : Msg) (slot : Nat) (w : Win), slotOfEp s m.src = some slot → (slotOf s slot).st = .registered →
    listedSlot s m.src = some slot → allRecs s = [] → winAt s m.address.toNat = some w → s.pool.holds = [] → s.pool.retries = [] →
    inHbm s (m.address.toNat / 128) = true → isPoisoned s (m.address.toNat / 128) = false →
    let granted := fun (st : Nat) (t : State) =>
      Answered s t m St.ok (beBytes 1 st ++ [1, 0, 0, 0, 0, 0, 0] ++ memLine s.mem (m.address.toNat / 128)) ∧
        recAt t slot (m.address.toNat / 128) (wayOf m) = some { line := m.address.toNat / 128, state := st, stale := false } ∧
        Safety.same .mem s t ∧ t.coh.poison = s.coh.poison ∧ t.dns = s.dns
    (Accepted s Op.rdShared m → Does (.rdShared m) s (granted 2)) ∧
    (Accepted s Op.rdAny m → w.readOnly = false → Does (.rdAny m) s (granted 3)) ∧
    (Accepted s Op.rdOwn m → Does (.rdOwn m) s (granted 3))) ∧
  (∀ (s : State) (m : Msg) (slot : Nat) (r : SfRec), Accepted s Op.upgrade m → slotOfEp s m.src = some slot →
    (slotOf s slot).st = .registered → s.coh.slots = [(slot, slotOf s slot)] → s.pool.holds = [] → s.pool.retries = [] →
    (slotOf s slot).recs = [((setOfLine (slotOf s slot) (m.address.toNat / 128), wayOf m), r)] → r.line = m.address.toNat / 128 →
    (r.state = 1 ∨ r.state = 2) → r.stale = false → isPoisoned s (m.address.toNat / 128) = false →
    inHbm s (m.address.toNat / 128) = true → Does (.upgrade m) s fun t => Answered s t m St.ok [3, 0, 0, 0, 0, 0, 0, 0] ∧
      recAt t slot (m.address.toNat / 128) (wayOf m) = some { line := m.address.toNat / 128, state := 3, stale := false } ∧
      Safety.same .mem s t ∧ t.dns = s.dns)

/-- WB_DIRTY from a line's owner writes the line and leaves its record Invalid; EVICT_CLEAN leaves the records it names Invalid and changes no
byte (R213, R218, R219); the data of WB_DIRTY is written at once where no partner must take it too and R173 does not hold it (R189). REGISTER
gives a listed endpoint its slot with the geometry it names and no record; DEREGISTER of one without
records gives it back (R204, R206). -/
def Obligations.LinesComeBack : Prop :=
  (∀ (s : State) (m : Msg) (slot : Nat) (x : Slot) (r : SfRec), slotOfEp s m.src = some slot → s.coh.slots = [(slot, x)] →
    x.st = .registered → inHbm s r.line = true → isPoisoned s r.line = false →
    (Accepted s Op.wbDirty m → WritesAlone s (128 * r.line) → r.line = m.address.toNat / 128 → x.recs = [((setOfLine x r.line, wayOf m), r)] → r.state = 3 →
      Does (.wbDirty m) s fun t => Answered s t m St.ok [] ∧ (slotOf t slot).recs = [] ∧ memLine t.mem r.line = m.body.drop 8 ∧
        (∀ a, a / 128 ≠ r.line → memByte t.mem a = memByte s.mem a) ∧ t.dns = s.dns) ∧
    (∀ w item, Accepted s Op.evictClean m → evictItems m = [item] → item / 2 ^ 56 = 0 → item / 16 % 8 = 0 → r.line = item / 128 →
      x.recs = [((setOfLine x r.line, item % 16), r)] → winAt s (128 * r.line) = some w → mayReach s w m.src = true → w.key = m.key →
      w.secondary = false → w.coherent = true → Does (.evictClean m) s fun t => Answered s t m St.ok [] ∧ (slotOf t slot).recs = [] ∧
        Safety.same .mem s t ∧ Counted s t Reg.cohEvictIgnoredLo 0 ∧ t.dns = s.dns)) ∧
  (∀ (s : State) (m : Msg) (slot : Nat), listedSlot s m.src = some slot →
    (Accepted s Op.register m → (slotOf s slot).st = .unregistered → Does (.register m) s fun t => Answered s t m St.ok [] ∧
      (slotOf t slot).st = .registered ∧ (slotOf t slot).ep = m.src ∧ (slotOf t slot).setsLog2 = setsLog2Of m ∧
      (slotOf t slot).ways = wayOf m + 1 ∧ (slotOf t slot).recs = [] ∧ (∀ i, i ≠ slot → slotOf t i = slotOf s i) ∧
      Safety.same .mem s t ∧ t.dns = s.dns) ∧
    (Accepted s Op.deregister m → slotOfEp s m.src = some slot → (slotOf s slot).st = .registered → (slotOf s slot).recs = [] →
      allRecs s = [] → (slotOf s slot).ep = m.src → s.coh.slots = [(slot, slotOf s slot)] → Does (.deregister m) s fun t =>
        Answered s t m St.ok [] ∧ (slotOf t slot).st = .unregistered ∧ Safety.same .mem s t ∧ t.dns = s.dns))

/-- Snoops and grants (R217, R224, R232): an answer without data ends its snoop, and SNP_INV leaves the record Invalid; while RECALL_RETRIES
allow, an unanswered snoop is sent again as it was; a free line goes to the oldest requester that was answered RETRY. -/
def Obligations.SnoopsAreAnswered : Prop :=
  ∀ s : State, Awake s →
    (∀ (m : Msg) (t : Tx) (x : Snoop) (r : SfRec), pmtServes s = true → m.port ≤ 1024 → wellReceived Op.completion m = true →
      snoopFor? s m = some (t, x) → statusOf m.flags.toNat = St.ok → m.length = 8 → m.payload = List.replicate 8 0 →
      x.opcode = Op.snpInv → alGet (slotOf s x.slot).recs (x.set, x.way) = some r → r.line = x.line → paired s = false →
      Causes (.snoopResponse m) s fun u => alGet (slotOf u x.slot).recs (x.set, x.way) = none ∧
        (∀ y ∈ u.pool.txs, y.id = t.id → ∀ z ∈ y.snoops, ¬(z.ep = x.ep ∧ z.line = x.line)) ∧ Only [.pool, .coh] s u) ∧
    (∀ ep line (t : Tx) (x : Snoop), ep < 1048576 → line < 2 ^ 49 → s.pool.txs = [t] → t.snoops = [x] → x.ep = ep → x.line = line →
      x.resends < coatFld s Reg.cohCfg 0 10 3 → Causes (.recallTimeout ep line) s fun u =>
        u.out = s.out ++ [.pmt (snoopFrame s x)] ∧ Counted s u Reg.cohRecallResendLo 1 ∧
          u.pool.txs = [{ t with snoops := [{ x with resends := x.resends + 1 }] }] ∧ Only [.pool, .ctr, .out] s u) ∧
    ∀ line (t : Tx) op (m : Msg), line < 2 ^ 49 → s.pool.txs = [t] → t.work = .req op m → t.stage = .reserved false → t.snoops = [] →
      t.toSnoop = [] → alGet s.pool.retries line = some [t.id] → alGet s.pool.holds line = none → residentEp s m.src = false →
      Causes (.lineFreeGrant line) s fun u => u.pool.txs = [{ t with stage := .reserved true }] ∧
        alGet u.pool.holds line = some t.id ∧ (∃ c : PmtOut, u.out = s.out ++ [.pmt c] ∧ c.opcode = Op.creditGrant ∧ c.dest = m.src ∧
          c.tag = m.tag.toNat ∧ c.seq = m.seq.toNat) ∧ Only [.pool, .out] s u

/-- Waiting ends (R173, R186, R332, R412, R514, R572): a granted reservation that its source does not take up lapses; a write held back for
free space, and a request that waits for staging, a tile, a unit or the partner, completes BUSY and has changed no byte.
The payload of such a completion is the model's reading (log entry 136). -/
def Obligations.WaitsEndBusy : Prop :=
  ∀ (s : State) (t : Tx) (op : Nat) (m : Msg) (source tag : Nat), Awake s → source < 1048576 → tag < 65536 → s.pool.txs = [t] →
    t.work = .req op m → t.source = source → t.tag = tag →
    (t.stage = .reserved true → touches t = [] → Causes (.holdExpiry source tag) s fun u => u.pool.txs = [] ∧
      Counted s u Reg.poolHoldExpiredLo 1 ∧ Only [.pool, .ctr] s u) ∧
    (t.stage = .waiting → heldDirty s t = true → Causes (.shortWaitExpiry source tag) s fun u =>
      u.pool.txs.map Tx.status = [some St.busy] ∧ Only [.pool] s u) ∧
    (t.stage = .waiting → heldShadow s t = true → residentEp s m.src = false → Causes (.shadowWaitExpiry source tag) s fun u =>
      u.pool.txs = [] ∧ Answered s u m St.busy [] ∧ Only [.pool, .out, .ctr] s u)

/-! ### The dense tier (spec/09) -/

/-- Dense trays (R267, R269, R270, R274, R288): a failed erase retires its erase unit; warned of a power loss the home halts the tray and asks
for BR_IDENT, a failed die is noted; a media command out of time is followed by BR_HEALTH; a refused request goes out again, and after
1 ms of refusals its timer decides.
BR_IDENT at once is the model's choice (log entry 196). -/
def Obligations.DenseTraysAnswer : Prop :=
  ∀ (s : State) (tray : Nat), Awake s → tray < 48 →
    (∀ (m : Msg) j eu page loads tag, FromTray s Op.brDone m tray → s.dns.jobs = [(j, .erase tray eu page loads 0 tag)] →
      (∀ p ∈ s.dns.rows, p.2 = []) → s.dns.rootDue = false → (dTrayOf s tray).st ≠ 5 → outWith s (.brHealth tray j) = none →
      beAt m.body 0 1 = Op.brErase → beAt m.body 1 1 = 1 →
      beAt m.body 2 2 = tag → (euOf s tray eu).st ≠ 3 → Does (.brDone m) s fun t => Completed s t m St.ok [] ∧ t.dns.jobs = [] ∧
        (euOf t tray eu).st = 3 ∧ evtBit t Reg.dnsEventStatus 4 = true ∧ t.dns.map = s.dns.map ∧ Safety.same .mem s t) ∧
    (∀ m : Msg, FromTray s Op.brDone m tray → Rest s → Does (.brDone m) s fun t => Answered s t m St.ok [] ∧ t.dns = s.dns ∧
      Only [.pool, .out, .ctr] s t) ∧
    (∀ m : Msg, FromTray s Op.brNotify m tray → Rest s → beAt m.body 0 1 = 0 → Does (.brNotify m) s fun t =>
      Completed s t m St.ok [] ∧ (dTrayOf t tray).halted = true ∧ (outWith t (.brIdent tray)).isSome = true ∧ t.dns.map = s.dns.map ∧
        Safety.same .mem s t) ∧
    (∀ m : Msg, FromTray s Op.brNotify m tray → Rest s → beAt m.body 0 1 = 1 → s.dns.stripes = [] → Does (.brNotify m) s fun t =>
      Completed s t m St.ok [] ∧ beAt m.body 1 1 ∈ (dTrayOf t tray).dies ∧ t.dns.map = s.dns.map ∧ Safety.same .mem s t) ∧
    (∀ tag j x ep, tag < 65536 → mediaWaits s tray tag = some (j, x) → outWith s (.brHealth tray j) = none → denseTrayEp s tray = some ep →
      Causes (.mediaTimeout tray tag) s fun t => (∃ o ∈ t.pool.outs, o.purpose = .brHealth tray j ∧ o.opcode = Op.brHealth ∧ o.target = ep) ∧
        Only [.pool, .out] s t) ∧
    (∀ tag o ep, tag < 65536 → denseTrayEp s tray = some ep → outOf s ep tag = some o → o.busyWait = true →
      ((∀ b, o.busySince = some b → s.pwr.uptime - b < 500000) → Causes (.bridgeBusyRetry tray tag) s fun t =>
        outOf t ep tag = some { o with seq := nextSeqOf s (outPair s o), sent := true, busyWait := false } ∧
          t.out = s.out ++ [.pmt (outFrame s { o with seq := nextSeqOf s (outPair s o) })] ∧ Only [.pool, .out] s t) ∧
      ((∃ b, o.busySince = some b ∧ 500000 ≤ s.pwr.uptime - b) → Causes (.bridgeBusyRetry tray tag) s fun t =>
        outOf t ep tag = some { o with busyWait := false } ∧ t.out = s.out ∧ Only [.pool] s t))

/-- Media care (R285, R292 to R294): an emptied victim is erased, a unit due for refresh is gathered anew, a pass of patrol that has read
everything is counted, the next stride of a rebuild is read. None of these changes the map. Checkpoints and recovery (R301, R302): a
checkpoint leaves no map page changed, and what recovery finds is the map as it stands; a recovery starts without a map and takes up, when
it is done, the one that the media hold.
The pace of one step a command, and recovery without its reads of frames, are the model's choices (log entries 67, 171). -/
def Obligations.MediaIsCaredFor : Prop :=
  (∀ s : State, Awake s → s.dns.st = 2 →
    (∀ i x, 10 ≤ (denseUp s).length → s.dns.victim = none → pickVictim s = some i → stripeOf s i = some x → stripeUnits s x = [] →
      Causes .gcStep s fun t => stripeOf t i = none ∧ t.dns.victim = none ∧ t.dns.map = s.dns.map ∧
        (∀ m ∈ x.members, (euOf s m.1 m.2).st ≠ 3 → (euOf t m.1 m.2).st = 0) ∧ Only [.dns, .nv, .pool, .out] s t) ∧
    (∀ unit, unit < 2 ^ 40 → unit ∈ s.dns.refreshDue → (mapOf s unit).st = .dense → Causes (.refresh unit) s fun t =>
      Counted s t Reg.dnsRefreshLo 1 ∧ unit ∉ t.dns.refreshDue ∧ t.dns.map = s.dns.map ∧ Only [.dns, .ctr] s t ∧
        ∃ j want parts ovr, (j, Media.gather unit (mapOf s unit).temp false (some (mapOf s unit).serial) want parts ovr []) ∈ t.dns.jobs) ∧
    (patrolSpots s ≠ [] → patrolTarget s (patrolSpots s).length = (patrolSpots s).length → Causes .patrolStep s fun t =>
      Counted s t Reg.dnsPatrolPass 1 ∧ evtBit t Reg.dnsEventStatus 7 = true ∧ t.dns.patrolPos = 0 ∧ t.dns.map = s.dns.map ∧
        Only (.dns :: eventParts) s t) ∧
    (∀ i x m tr e done, rebuildNext s = some (i, x) → rebuilding s i = false → x.rebuild = some (m, tr, e, done) → done < x.rows →
      Causes .rebuildStep s fun t => (∃ j, (j, Media.rebuild i m done (List.range 16) []) ∈ t.dns.jobs) ∧ t.dns.map = s.dns.map ∧
        t.dns.stripes = s.dns.stripes ∧ Only [.dns] s t)) ∧
  (∀ s : State, Awake s →
    (s.dns.st = 2 → Causes .mapCheckpoint s fun t => t.dns.changed = [] ∧ t.nv.media.map = s.dns.map ∧ t.dns.map = s.dns.map ∧
      Only [.dns, .nv] s t) ∧
    ((coat s).dense.trays ≠ [] → Causes .denseRecovery s fun t => t.dns.st = 1 ∧ t.dns.map = [] ∧ t.dns.stripes = [] ∧ Only [.dns, .pool, .out] s t) ∧
    ((coat s).dense.trays = [] → Causes .denseRecovery s fun t => t = s) ∧
    (s.dns.st = 1 → s.nv.media.stripes = [] → Causes .recoveryDone s fun t => t.dns.st = 2 ∧ t.dns.map = s.nv.media.map ∧
      evtBit t Reg.dnsEventStatus 8 = true ∧ Only (.dns :: eventParts) s t))

/-! ### In-network reduction (spec/10) -/

/-- RED_CONTRIB (R315, R318, R319, R330, R333): the first contribution to an epoch's first chunk opens the epoch and stands in staging, alone; of a root
of one rank and one chunk that multicasts its result, the chunk is emitted at once, the epoch closes and counts on its gauge.
When an epoch opens is the model's reading (log entry 96). -/
def Obligations.ContributionsAreReduced : Prop :=
  ∀ (s : State) (m : Msg) (g r : Nat) (x : Grp), Accepted s Op.redContrib m → g = grpOfAddr m.address.toNat → grpIn (coat s) g = some x →
    rankOf x m.src = some r → m.epoch = 0 → elemOfAddr m.address.toNat = 0 → (stagePlace s x (contribInSlot s g)).isSome = true →
    m.address.toNat.testBit 41 = false →
    let child := ((x.table[r]?).map ContribEnt.child).getD false
    let vals := contribValues x child (x.elemsOf 0) m.body
    (2 ≤ x.table.length → Does (.redContrib m) s fun t => Answered s t m St.ok [] ∧ Counted s t Reg.trwContribLo 1 ∧
      (∃ y k, epochOf t g 0 = some y ∧ y.grp = x ∧ y.chunks = [k] ∧ k.idx = 0 ∧ k.got = [r] ∧ k.accs = vals.map (firstAcc x)) ∧
      t.trw.gauges = s.trw.gauges ∧ Safety.same .mem s t) ∧
    (x.table.length = 1 → x.root = true → x.dest = 1 → x.chunks = 1 → (gaugeOf s x.gauge).value + 1 < gaugeTarget s x.gauge →
      Does (.redContrib m) s fun t => Completed s t m St.ok [] ∧ (grpSt t g).e = 1 ∧ (grpSt t g).epochs = [] ∧
        (gaugeOf t x.gauge).value = (gaugeOf s x.gauge).value + 1 ∧ (∀ k, k ≠ x.gauge → gaugeOf t k = gaugeOf s k) ∧
        (∃ f : PmtOut, Sent s t (.multicast x.repl f) ∧ f.opcode = Op.redResult ∧ f.dest = x.mcast ∧ f.key = x.key ∧
          f.payload = packElems (fmtOf x.outF).bits (vals.map fun v => emitAcc x.outF (firstAcc x v))) ∧ Safety.same .mem s t)

/-- Gauges (R337, R338, R340): an increment of the current epoch adds its AMOUNT, one that meets TARGET fires the gauge, one of the next epoch
adds to NEXT; GAUGE_READ answers the gauge and changes nothing of it. -/
def Obligations.GaugesCount : Prop :=
  ∀ (s : State) (m : Msg) (k : Nat), k = grpOfAddr m.address.toNat →
    (Accepted s Op.gaugeInc m → m.epoch.toNat = (gaugeOf s k).epoch →
      ((gaugeOf s k).value + beAt m.body 0 4 < gaugeTarget s k → Does (.gaugeInc m) s fun t => Answered s t m St.ok [] ∧
        (gaugeOf t k).value = (gaugeOf s k).value + beAt m.body 0 4 ∧ (gaugeOf t k).next = (gaugeOf s k).next ∧
        (gaugeOf t k).epoch = (gaugeOf s k).epoch ∧ (gaugeOf t k).fired = (gaugeOf s k).fired ∧
        (∀ i, i ≠ k → gaugeOf t i = gaugeOf s i) ∧ Only [.trw, .pool, .out, .ctr] s t) ∧
      ((gaugeOf s k).value + beAt m.body 0 4 = gaugeTarget s k → (gaugeOf s k).next < gaugeTarget s k →
        bit (coatReg s Reg.trwGaugeCfg k) 16 = false → bit (coatReg s Reg.trwGaugeCfg k) 17 = false → Does (.gaugeInc m) s fun t =>
        Answered s t m St.ok [] ∧ (gaugeOf t k).value = (gaugeOf s k).next ∧ (gaugeOf t k).next = 0 ∧
        (gaugeOf t k).epoch = ((gaugeOf s k).epoch + 1) % two16 ∧ (gaugeOf t k).fired = ((gaugeOf s k).fired + 1) % two32 ∧
        (∀ i, i ≠ k → gaugeOf t i = gaugeOf s i) ∧ Only [.trw, .pool, .out, .ctr] s t)) ∧
    (Accepted s Op.gaugeInc m → (gaugeOf s k).epoch < 65536 → m.epoch.toNat = ((gaugeOf s k).epoch + 1) % two16 → Does (.gaugeInc m) s fun t => Answered s t m St.ok [] ∧
      (gaugeOf t k).next = ((gaugeOf s k).next + beAt m.body 0 4) % two32 ∧ (gaugeOf t k).value = (gaugeOf s k).value ∧
      (∀ i, i ≠ k → gaugeOf t i = gaugeOf s i) ∧ Only [.trw, .pool, .out, .ctr] s t) ∧
    (Accepted s Op.gaugeRead m → Does (.gaugeRead m) s fun t => Only [.pool, .out, .ctr] s t ∧
      Answered s t m St.ok (beBytes 4 (gaugeOf s k).value ++ beBytes 4 (gaugeOf s k).next ++ beBytes 4 (gaugeTarget s k) ++
        beBytes 2 (gaugeOf s k).epoch ++ [0, 0]))

/-- Timers and faults of staging (R332, R334, R341, R342, R344, R345): a chunk's wide forms are read back; a contribution that waited too long ends
BUSY; who is late is marked once; who fails is excluded, or puts the job in frost; a Trowel unit is retired; an uncorrectable staging
location puts the job in frost.
The location's number and what stays of the staging are the model's (log entries 92, 93). -/
def Obligations.StagingIsWatched : Prop :=
  ∀ (s : State) (g e c : Nat) (x : Epoch) (k : Chunk), Awake s → g < 16384 → e < 65536 → c < 2 ^ 41 → epochOf s g e = some x →
    chunkOf s g e c = some k → x.grp.id = g →
    (k.readback = 1 → k.atInput = none → Causes (.spillReadback g e c) s fun t => chunkOf t g e c = some { k with readback := 2 } ∧ Only [.trw] s t) ∧
    (∀ source tag y w, source < 1048576 → tag < 65536 → s.trw.groups = [(g, y)] → y.wait = [w] → w.source = source → w.tag = tag →
      (∀ z ∈ y.epochs, ∀ q ∈ z.chunks, q.full = false) → Causes (.stageWaitExpiry source tag) s fun t =>
        (grpSt t g).wait = [] ∧ Counted s t Reg.trwStageBusyLo 1 ∧ evtBit t Reg.trwEventStatus 2 = true ∧
          (∀ z ∈ t.pool.txs, z.id = w.tx → z.status = some St.busy) ∧ chunkOf t g e c = some k ∧ Only ([.trw, .pool] ++ eventParts) s t) ∧
    (Causes (.lateExpiry g e c) s fun t => Only [.trw, .ctr] s t ∧
      epochOf t g e = some { x with late := x.late ++ (notArrived s x k).filter fun r => !x.late.contains r } ∧
      Counted s t Reg.trwLateLo ((notArrived s x k).filter fun r => !x.late.contains r).length) ∧
    (∀ r, x.grp.exclude = false → notArrived s x k = [r] → Causes (.failExpiry g e c) s fun t =>
      evtBit t Reg.trwEventStatus 1 = true ∧ t.hooks = s.hooks ++ [.frost x.grp.key.job 1 (selfEp s) 3] ∧ Only (.hooks :: eventParts) s t) ∧
    (∀ r, x.grp.exclude = true → notArrived s x k = [r] → Causes (.failExpiry g e c) s fun t =>
      evtBit t Reg.trwEventStatus 1 = true ∧ r ∈ (grpSt t g).excluded ∧ Safety.same .mem s t) ∧
    (∀ unit, unit < 64 → (unitOf s 3 unit).st ≠ 3 → Causes (.unitRetired unit) s fun t => (unitOf t 3 unit).st = 3 ∧
      evtBit t Reg.trwEventStatus 0 = true ∧ Only ([.cfg, .nv, .freeCtr] ++ eventParts) s t) ∧
    (∀ unit, unit < 64 → (unitOf s 3 unit).st = 3 → Causes (.unitRetired unit) s fun t => t = s) ∧
    Causes (.stageUncorr g e c) s fun t => evtBit t Reg.trwEventStatus 4 = true ∧
      t.hooks = s.hooks ++ [.frost x.grp.key.job 2 (selfEp s) 2] ∧ Only ([.hooks, .nv, .ras, .freeCtr] ++ eventParts) s t

/-! ### Gather, Sieve, RUB and the tiles (spec/11, spec/12) -/

/-- GATHER and SIEVE to their requester (R353, R356 to R358, R363 to R365): the rows that an inline list names, zeros for one out of range, and
the records that pass in output order, go out in one RESULT_DATA, then the completion with ITEMS and TOTAL; no byte of memory changes. Units
of the collectives (R360, R368, R375): a retired Gather or Sieve unit serves no more and no request is left at it; the tile with the fewest
chunks takes the oldest chunk of the gradient ring.
All lines are read at one moment (log entry 89). -/
def Obligations.RowsAndRecordsAreDelivered : Prop :=
  (∀ (s : State) (m : Msg), s.coh.slots = [] →
    (∀ g u, g = gReq m.body m.address.toNat → Accepted s Op.gather m → pickUnit s Op.gather = some u → g.listBase = 0 → g.dest = 0 → g.fmt ≤ 1 →
      g.count * g.rowBytes ≤ 4088 → (∀ k, k < g.rows → some k ∈ (listRows g g.inl true).1 → InHand s (lineRange (g.rowAddr k) g.rowBytes)) →
      Does (.gather m) s fun t => Safety.same .mem s t ∧ t.dns = s.dns ∧ ∃ f c : PmtOut, t.out = s.out ++ [.pmt f, .pmt c] ∧
        f.opcode = Op.resultData ∧ f.dest = m.src ∧ f.tag = m.tag.toNat ∧ f.seq = m.seq.toNat ∧
        f.payload = beBytes 4 0 ++ beBytes 2 g.count ++ [0, 0] ++ ((listRows g g.inl true).1.map fun r =>
          match r with
          | some k => memRead s.mem (g.rowAddr k) g.rowBytes
          | none => List.replicate g.rowBytes 0).flatten ∧
        c.opcode = Op.completion ∧ c.dest = m.src ∧ c.tag = m.tag.toNat ∧ statusOf c.flags = St.ok ∧
        c.payload = gatherReply g.count (listRows g g.inl true).2 false) ∧
    (∀ q u data keys found, q = sReq m.body m.address.toNat → Accepted s Op.sieve m → pickUnit s Op.sieve = some u → q.dest = 0 →
      InHand s (lineRange q.base (q.records * q.recBytes)) → data = memRead s.mem q.base (q.records * q.recBytes) →
      keys = (List.range q.records).map (fun i => leAt data (i * q.recBytes + q.keyOff) ((fmtOf q.key).bits / 8)) →
      found = sieveFind q keys → found.1 ≠ [] → found.1.length * q.item ≤ 4088 → Does (.sieve m) s fun t =>
        Safety.same .mem s t ∧ t.dns = s.dns ∧ Counted s t Reg.sivReqLo 1 ∧ Counted s t Reg.sivPassedLo found.2.1 ∧
        ∃ f c : PmtOut, t.out = s.out ++ [.pmt f, .pmt c] ∧ f.opcode = Op.resultData ∧ f.dest = m.src ∧ f.tag = m.tag.toNat ∧
          f.payload = beBytes 4 0 ++ beBytes 2 found.1.length ++ [0, 0] ++
            (found.1.map fun i => if q.idx then leBytes 4 i else slice data (i * q.recBytes) q.recBytes).flatten ∧
          c.opcode = Op.completion ∧ c.dest = m.src ∧ statusOf c.flags = St.ok ∧
          c.payload = gatherReply found.1.length found.2.1 (q.mode == 0 && q.k != 0 && decide (q.k < found.2.1)))) ∧
  (∀ s : State, Awake s →
    (∀ isSieve unit kind, unit < 16 → kind = (if isSieve then 5 else 4) → (unitOf s kind unit).st ≠ 3 → (s.pool.txs.map Tx.id).Nodup →
      Causes (.gatherUnitRetired isSieve unit) s fun t => (unitOf t kind unit).st = 3 ∧
        evtBit t (if isSieve then Reg.sivEventStatus else Reg.gthEventStatus) 0 = true ∧
        (∀ z ∈ t.pool.txs, isAtUnit z kind unit = false) ∧ t.pool.txs.map Tx.work = s.pool.txs.map Tx.work ∧
        Only ([.cfg, .nv, .pool, .freeCtr] ++ eventParts) s t) ∧
    (∀ g tile r x, g < 16384 → tile < 80 → ringNext s g = some r → ((grpSt s g).epochs.find? fun x => x.num == r.epoch) = some x →
      rubTile s x.grp = some tile → Causes (.rubUpdate g tile) s fun t => Only [.pool, .trw] s t ∧
        t.pool.txs.map Tx.work = s.pool.txs.map Tx.work ++ [.rub g tile r.epoch r.chunk] ∧ (grpSt t g).rubEpoch = r.epoch ∧
        ∃ y ∈ (grpSt t g).ring, y.epoch = r.epoch ∧ y.chunk = r.chunk ∧ y.tile = some tile ∧ y.grads = r.grads))

/-- Invocations (R401, R402, R404, R407, R412): a TILE_INVOKE of a READY slot begins to execute with every part of its first op waiting for a
tile; a lowered program whose coat has applied serves from the next tick on; a host-op core takes the oldest waiting host op of this twin's slots (R515); an invocation that no tile of its
set can serve ends BUSY. Tiles (R407, R409, R411, R467): a free tile takes the next part of the oldest invocation of its set, cleared first where
it held the other world; when it has ended
its part it is free, and the last part's end starts the op's DMA; a tile that is retired hands its part back.
The DMA of an op at its last part's end is the model's reading (log entries 100, 118). -/
def Obligations.InvocationsRun : Prop :=
  (∀ s : State, Awake s →
    (∀ (m : Msg) p, Accepted s Op.tileInvoke m → (progSt s (invSlot m)).cur = some p → 0 < frOps p.image → frOnHost p.image 0 = false →
      (frOp p.image 0).code ≠ 0x7F → Does (.tileInvoke m) s fun t => t.out = s.out ∧ Safety.same .mem s t ∧ t.dns = s.dns ∧
        ∃ v, t.til.invs = [v] ∧ v.slot = invSlot m ∧ v.prog = p ∧ v.bases = invBases m ∧ v.source = m.src ∧ v.tag = m.tag.toNat ∧
          v.started = some s.pwr.uptime ∧ v.pc = 0 ∧ v.parts = List.replicate (partsOf p) .waiting) ∧
    (∀ n e, n < 1024 → (progSt s n).new = some e → (progSt s n).lowered = none → Causes (.lowerDone n) s fun t =>
      progSt t n = { progSt s n with lowered := some s.pwr.uptime } ∧ evtBit t Reg.tilEventStatus 2 = true ∧
        (∀ i, i ≠ n → progSt t i = progSt s i) ∧ t.til.invs = s.til.invs ∧ Only (.til :: eventParts) s t) ∧
    (∀ (n : Nat) e k, (progSt s n).new = some e → (progSt s n).applied = true → (progSt s n).lowered = some k →
      k ≠ (s.pwr.uptime + 1) % two64 → s.pending = [] → ∃ t, step s = .next (handOver (settle t)) ∧ progSt t n = { cur := some e } ∧
        t.til.invs = s.til.invs) ∧
    (∀ core v, core ∈ hostOpCores s → core < 24 → coreRunsOp s core = false → invOf s v.tx = some v →
      (oldestInv s fun v => runsHere s v.prog.twin && !v.dma && v.core.isNone && v.pc < frOps v.prog.image && frOnHost v.prog.image v.pc) = some v →
      Causes (.hostOpRun core) s fun t => invOf t v.tx = some { v with core := some core, host := true, dma := true } ∧
        t.pool.txs.map Tx.work = s.pool.txs.map Tx.work ++ [.tileOp v.tx] ∧ Only [.til, .pool, .cor] s t ∧
        (∃ x, alGet t.cor.cores core = some x ∧ x.world = v.prog.key.world ∧ v.tx ∈ x.holds ∧
          (∀ y, alGet s.cor.cores core = some y → y.world ≠ v.prog.key.world → x.holds = [v.tx])) ∧
        t.cor = { s.cor with cores := t.cor.cores }) ∧
    (∀ source tag v, source < 1048576 → tag < 65536 →
      (s.til.invs.find? fun v => v.source == source && v.tag == tag && v.started.isSome) = some v → v.pc < frOps v.prog.image →
      frOnHost v.prog.image v.pc = false → v.parts.contains .waiting = true → (v.parts.all fun p => p == .waiting || p == .ended) = true →
      (∀ i, i < 80 → ¬(inSet v.prog i = true ∧ inService s 2 i = true)) → Causes (.noTileWaitExpiry source tag) s fun t =>
        (∀ z ∈ t.pool.txs, z.id = v.tx → z.status = some St.busy) ∧ t.pool.txs.map Tx.id = s.pool.txs.map Tx.id ∧ Only [.pool] s t)) ∧
  (∀ (s : State) (tile : Nat) (v : Inv), Awake s → tile < 80 → invOf s v.tx = some v → v.fenced = false →
    (inService s 2 tile = true → (unitOf s 2 tile).wanted = false → tileBusy s tile = false → (rubTiles (coat s)).contains tile = false →
      (oldestInv s fun v => runsHere s v.prog.twin && v.parts.contains .waiting && inSet v.prog tile) = some v → Causes (.partDispatch tile) s fun t =>
        invOf t v.tx = some { v with parts := v.parts.set (v.parts.findIdx (· == .waiting)) (.running tile) } ∧
          (tileSt t tile).world = some v.prog.key.world ∧ v.tx ∈ (tileSt t tile).sram ∧ (∀ i, i ≠ tile → tileSt t i = tileSt s i) ∧
          ((tileSt s tile).world = some (!v.prog.key.world) → (tileSt t tile).sram = [v.tx] ∧ (tileSt t tile).icache = [v.slot]) ∧
          Only [.til] s t) ∧
    (let w := { v with parts := v.parts.map fun p => if p = .running tile then .ended else p }
     (s.til.invs.find? fun v => v.on tile) = some v → (unitOf s 2 tile).wanted = false → (tileSt s tile).startAt ≤ s.pwr.uptime →
      (w.parts.all (· == .ended) = false → Causes (.tileOpEnd tile) s fun t => invOf t v.tx = some w ∧ Only [.til, .ctr, .freeCtr] s t) ∧
      (w.parts.all (· == .ended) = true → Causes (.tileOpEnd tile) s fun t => invOf t v.tx = some { w with dma := true } ∧
        t.pool.txs.map Tx.work = s.pool.txs.map Tx.work ++ [.tileOp v.tx] ∧ Only [.til, .pool, .ctr, .freeCtr] s t)) ∧
    ((s.til.invs.find? fun v => v.on tile) = some v → (unitOf s 2 tile).st ≠ 3 → Causes (.tileRetired tile) s fun t =>
      invOf t v.tx = some { v with rerun := true, parts := v.parts.map fun p => if p = .running tile then .waiting else p } ∧
        (unitOf t 2 tile).st = 3 ∧ evtBit t Reg.tilEventStatus 0 = true ∧ Counted s t Reg.tilRerunLo 1 ∧ t.nv.media = s.nv.media ∧
        Only ([.cfg, .nv, .pool, .trw, .til, .freeCtr] ++ eventParts) s t))

/-! ### Host cores (spec/14) -/

/-- Pool calls of a resident program to its own home (R454): a read returns the bytes that stand in memory, a write puts its bytes there, an
atomic returns the old value, a flush of lines that are not dirty changes no byte; a message joins a mailbox of its own device; a
TILE_INVOKE begins to execute and its core waits. They end at once where no partner must take a write too and R173 does not hold it (R189).
Pool calls to another home, and messages to another endpoint, go out as requests of the
program's own and their core waits; an atomic goes to its own home alone, a TILE_INVOKE to program slots of its own key alone (R231, R454).
The class of a call's request is the model's reading (log entry 122). -/
def Obligations.ProgramsReachThePool : Prop :=
  (∀ (s : State) (core : Nat) (e : ResEnt) (a : BitVec 64), s.coh.slots = [] →
    (∀ size acq vol m, m = coreMsg s e Op.read (readFlags acq vol) (coreTag s e.ep) a.toNat (beBytes 2 size ++ [0, 0]) → size < 65536 →
      Calls s core e Op.read m → InHand s (lineRange a.toNat size) → Does (.poolRead core (selfEp s) a size acq vol) s fun t =>
        t.out = s.out ++ [.coreReturn core St.ok (memRead s.mem a.toNat size)] ∧ t.cor.waits = [] ∧ Safety.same .mem s t) ∧
    (∀ (data : List Byte) (rel : Bool) m,
      m = coreMsg s e Op.write (if rel then 2 ^ flagRel else 0) (coreTag s e.ep) a.toNat data → data.length < 65536 →
      Calls s core e Op.write m → InHand s (lineRange a.toNat data.length) → WritesAlone s a.toNat →
      Does (.poolWrite core (selfEp s) a data rel) s fun t => t.out = s.out ++ [.coreReturn core St.ok []] ∧ t.cor.waits = [] ∧
        memRead t.mem a.toNat data.length = data ∧
        ∀ b, b < a.toNat ∨ a.toNat + data.length ≤ b → memByte t.mem b = memByte s.mem b) ∧
    (∀ payload m op, m = coreMsg s e Op.atomic 0 (coreTag s e.ep) a.toNat payload → Calls s core e Op.atomic m → payload.length = 24 →
      aopOf (beAt payload 0 1) = some op → InHand s (a.toNat / 128, 1) → WritesAlone s (128 * (a.toNat / 128)) → s.pool.holds = [] →
      s.pool.retries = [] → Does (.poolAtomic core (selfEp s) a payload) s fun t =>
        t.out = s.out ++ [.coreReturn core St.ok (beBytes 8 (leNat (memRead s.mem a.toNat (beAt payload 1 1))))] ∧ t.cor.waits = [] ∧
          memRead t.mem a.toNat (beAt payload 1 1) = leBytes (beAt payload 1 1) (aopResult op (8 * beAt payload 1 1)
            (leNat (memRead s.mem a.toNat (beAt payload 1 1))) (beAt payload 8 8) (beAt payload 16 8)) ∧
          ∀ b, b < a.toNat ∨ a.toNat + beAt payload 1 1 ≤ b → memByte t.mem b = memByte s.mem b) ∧
    (∀ (n : BitVec 64) m, m = coreMsg s e Op.flush 0 (coreTag s e.ep) a.toNat (beBytes 8 n.toNat) → Calls s core e Op.flush m →
      WritesAlone s a.toNat → dirtyLines s [lineRange a.toNat n.toNat] = [] → (s.pool.cache.all fun c => !c.2.staged) = true →
      Does (.poolFlush core (selfEp s) a n) s fun t => t.out = s.out ++ [.coreReturn core St.ok []] ∧ t.cor.waits = [] ∧ Safety.same .mem s t) ∧
    (∀ dest mailbox cookie message m, dest < 1048576 → residentEp s dest = true →
      m = coreMsg s e Op.mbxPost 0 (coreTag s e.ep) 0 (beBytes 2 mailbox ++ [0, 0] ++ beBytes 4 cookie.toNat ++ message) →
      Calls s core e Op.mbxPost m → (resOf s (beAt m.body 0 2)).st = 2 → (resOf s (beAt m.body 0 2)).mail.length < 64 →
      Does (.mbxSend core dest mailbox cookie message) s fun t => t.out = s.out ++ [.coreReturn core St.ok []] ∧ t.cor.waits = [] ∧
        (resOf t (beAt m.body 0 2)).mail = (resOf s (beAt m.body 0 2)).mail ++ [{ cookie := beAt m.body 4 4, message := m.body.drop 8 }] ∧
        Safety.same .mem s t) ∧
    ∀ slot (bases : List (BitVec 64)) p m, slot < 65536 → (progSt s slot).cur = some p → p.key = e.key → bases.length < 256 →
      m = coreMsg s e Op.tileInvoke 0 (coreTag s e.ep) 0 (beBytes 2 slot ++ beBytes 1 bases.length ++ List.replicate 5 0 ++ bases.flatMap fun b => beBytes 8 b.toNat) →
      Calls s core e Op.tileInvoke m → 0 < frOps p.image → frOnHost p.image 0 = false → (frOp p.image 0).code ≠ 0x7F →
      Does (.ecallTileInvoke core slot bases) s fun t => t.out = s.out ∧ Safety.same .mem s t ∧
        alGet t.cor.waits core = some (.request e.slot (selfEp s) (coreTag s e.ep)) ∧
        ∃ v, t.til.invs = [v] ∧ v.slot = slot ∧ v.prog = p ∧ v.source = e.ep ∧ v.started = some s.pwr.uptime) ∧
  (∀ (s : State) (core home : Nat) (e : ResEnt) (a : BitVec 64), Awake s → core < 24 → callSlot s core = some e → home < 1048576 →
    let sent := fun (op address : Nat) (payload : List Byte) (t : State) => Only [.pool, .cor, .out] s t ∧
      ∃ tag, alGet t.cor.waits core = some (.request e.slot home tag) ∧ ∃ o ∈ t.pool.outs, o.target = home ∧ o.tag = tag ∧ o.opcode = op ∧
        o.address = address ∧ o.payload = payload ∧ o.key = e.key ∧ o.purpose = .coreCall e.slot core
    (home ≠ selfEp s →
      (∀ size acq vol, size < 65536 → Causes (.poolRead core home a size acq vol) s (sent Op.read a.toNat (beBytes 2 size ++ [0, 0]))) ∧
      (∀ data rel, data.length < 65536 → Causes (.poolWrite core home a data rel) s (sent Op.write a.toNat data)) ∧
      (∀ n, Causes (.poolFlush core home a n) s (sent Op.flush a.toNat (beBytes 8 n.toNat))) ∧
      (∀ mailbox cookie message, residentEp s home = false → Causes (.mbxSend core home mailbox cookie message) s
        (sent Op.mbxPost 0 (beBytes 2 mailbox ++ [0, 0] ++ beBytes 4 cookie.toNat ++ message))) ∧
      ∀ payload, Causes (.poolAtomic core home a payload) s fun t => t.out = s.out ++ [.coreReturn core St.unsupported []] ∧ Only [.cor, .out] s t) ∧
    ∀ slot bases, slot < 65536 → ((progSt s slot).serving.any fun p => p.key == e.key) = false → Causes (.ecallTileInvoke core slot bases) s fun t =>
      t.out = s.out ++ [.coreReturn core St.accessDenied []] ∧ Only [.cor, .out] s t)

/-- The other calls of a resident program (R454, R455, R478): TIME, RANDOM, MBX_RECV with a message, without one, waiting for one; any other
number is MALFORMED; EXIT stops the core, and with the last one the program.
Random bytes are free values (log entry 6). -/
def Obligations.ProgramsCall : Prop :=
  ∀ (s : State) (core : Nat) (e : ResEnt), Awake s → core < 24 → callSlot s core = some e →
    (Causes (.time core) s fun t => Only [.cor, .out] s t ∧
      t.out = s.out ++ [.coreReturn core St.ok (beBytes 8 (now s) ++ beBytes 1 (almCode s.alm.st))]) ∧
    (∀ n, rngServes s = true → Causes (.random core n) s fun t => Only [.cor, .out, .ctr, .freeCtr] s t ∧
      Counted s t Reg.secRngBytesLo (min n 64) ∧ ∃ bs : List Byte, bs.length = min n 64 ∧ t.out = s.out ++ [.coreReturn core St.ok bs]) ∧
    (∀ n, rngServes s = false → Causes (.random core n) s fun t => Only [.cor, .out] s t ∧
      t.out = s.out ++ [.coreReturn core St.notReady []]) ∧
    (∀ wait x r, (resOf s e.slot).mail = x :: r → Causes (.mbxRecv core wait) s fun t => Only [.cor, .out] s t ∧
      t.out = s.out ++ [.coreReturn core St.ok (beBytes 4 x.cookie ++ x.message)] ∧ (resOf t e.slot).mail = r) ∧
    ((resOf s e.slot).mail = [] → (Causes (.mbxRecv core true) s fun t => alGet t.cor.waits core = some (.message e.slot) ∧ Only [.cor] s t) ∧
      Causes (.mbxRecv core false) s fun t => t.out = s.out ++ [.coreReturn core St.notReady []] ∧ Only [.cor, .out] s t) ∧
    (∀ a7, 10 ≤ a7 → Causes (.ecallUnknown core a7) s fun t => t.out = s.out ++ [.coreReturn core St.malformed []] ∧ Only [.cor, .out] s t) ∧
    (without (resOf s e.slot).cores core ≠ [] → Causes (.exit core) s fun t => (resOf t e.slot).cores = without (resOf s e.slot).cores core ∧
      (resOf t e.slot).st = (resOf s e.slot).st ∧ Only [.cor] s t) ∧
    (without (resOf s e.slot).cores core = [] → Causes (.exit core) s fun t => (resOf t e.slot).st = 3 ∧ (resOf t e.slot).cores = [] ∧
      (resOf t e.slot).mail = [] ∧ Only [.cor] s t)

/-- Mailboxes and cores (R450 to R456): a message joins the mailbox of a running program; a loaded program starts on idle cores; one that
faults stops; a retired firmware core borrows a host-op core; the program of a core that faults moves to an idle one; an updated firmware
core serves again and the next one is updated.
Which core a program takes is the model's choice (log entry 121). -/
def Obligations.CoresServe : Prop :=
  ∀ s : State, Awake s →
    (∀ m : Msg, Accepted s Op.mbxPost m → (resOf s (beAt m.body 0 2)).st = 2 → (resOf s (beAt m.body 0 2)).mail.length < 64 → s.cor.waits = [] →
      Does (.mbxPost m) s fun t => Answered s t m St.ok [] ∧ (resOf t (beAt m.body 0 2)).mail =
        (resOf s (beAt m.body 0 2)).mail ++ [{ cookie := beAt m.body 4 4, message := m.body.drop 8 }] ∧ Only [.pool, .cor, .out, .ctr] s t) ∧
    (∀ slot e, slot < 64 → resEnt s slot = some e → runsHere s e.twin = true → (resOf s slot).st = 1 → Causes (.residentStart slot) s fun t => (resOf t slot).st = 2 ∧
      (resOf t slot).cores = (idleResident s).take e.cores ∧ (∀ i, i ≠ slot → resOf t i = resOf s i) ∧ Only [.cor, .out] s t ∧
      t.out = s.out ++ ((idleResident s).take e.cores).zipIdx.map fun c => .coreStart c.1 e.entry c.2) ∧
    (∀ core cause pc slot r, core < 24 → (s.cor.res.find? fun p => p.2.cores.contains core) = some (slot, r) → Causes (.resFaulted core cause pc) s fun t =>
      (resOf t slot).st = 4 ∧ (resOf t slot).cause = cause % 64 ∧ (resOf t slot).cores = [] ∧ (∀ i, i ≠ slot → resOf t i = resOf s i) ∧
        evtBit t Reg.glbHostEvent 1 = true ∧ Only (.cor :: eventParts) s t) ∧
    (∀ core c, core < 4 → (unitOf s 9 core).st ≠ 3 → (hostOpCores s).getLast? = some c → coreRunsOp s c = false → Causes (.firmwareCoreRetired core) s fun t =>
      (unitOf t 9 core).st = 3 ∧ t.cor.borrowed = s.cor.borrowed ++ [c] ∧ evtBit t Reg.glbHostEvent 2 = true ∧
        evtBit t Reg.glbHostEvent 0 = true ∧ Only ([.cfg, .cor, .freeCtr] ++ eventParts) s t) ∧
    (∀ core, 4 ≤ core → core < 24 → (unitOf s 9 core).st = 0 → Causes (.hostCoreFault core) s fun t => (unitOf t 9 core).st = 2 ∧
      (unitOf t 9 core).faulty = true ∧ evtBit t Reg.rasEventStatus 0 = true ∧ Only ([.cfg, .cor, .til, .pool] ++ eventParts) s t ∧
      ∀ slot r c, (s.cor.res.find? fun p => p.2.cores.contains core) = some (slot, r) → (idleResident s).head? = some c →
        (resOf t slot).cores = (resOf s slot).cores.map fun k => if k = core then c else k) ∧
    (∀ core, core < 4 → s.cfg.fwUpdate = [core] → (unitOf s 9 core).st = 1 → Causes (.firmwareCoreUpdateDone core) s fun t =>
      (unitOf t 9 core).st = 0 ∧ t.cfg.fwUpdate = [] ∧ Only [.cfg] s t) ∧
    (∀ core d, core < 4 → core ≠ d → s.cfg.fwUpdate = [core, d] → (unitOf s 9 core).st = 1 → (unitOf s 9 d).st = 0 →
      Causes (.firmwareCoreUpdateDone core) s fun t => (unitOf t 9 core).st = 0 ∧ (unitOf t 9 d).st = 1 ∧ t.cfg.fwUpdate = [d] ∧ Only [.cfg] s t)

/-! ### Security (spec/15) -/

/-- Key commands (R481 to R483, R491): LOAD leaves a pair pending under its slot, beside the one in use; ERASE zeroises a slot that no window
names; LINK_CAK keys a port at the rack boundary; what a role may not do is refused, counted and raised. Each is answered in its session.
Keys in use (R484, R487): at its slot, and no earlier, a pending pair becomes the pair in use under the next generation, and its slot rotates where it had
another; the next unit is re-keyed as background work; where none is left the old pair is gone.
Which checks come first, and what names a slot, are the model's reading (log entries 146, 147). -/
def Obligations.KeysAreCommanded : Prop :=
  (∀ (s : State) (session : Nat) (b : List Byte) (c : KeyCmd) (k : KeySlot), Awake s → c = keyCmd b → k = keySlotOf s c.slot → keyCmdOk b = true →
    let said := fun (st : Nat) (t : State) => t.out = s.out ++ [.spdm session (beBytes 1 st ++ [0, 0, 0])]
    (keyRefused s (roleOf s session) c = false →
      (c.cmd = 1 → (k.st = .empty ∨ (k.st = .active ∧ k.kind = c.kind ∧ k.owner = c.owner)) → Causes (.keyLoad session b) s fun t => said St.ok t ∧
        (keySlotOf t c.slot).st = .pending ∧ (keySlotOf t c.slot).next = some c.key ∧ (keySlotOf t c.slot).applySlot = c.apply ∧
        (keySlotOf t c.slot).due = max c.apply (slotNow s + 1) ∧
        (k.st = .active → (keySlotOf t c.slot).pair = k.pair ∧ (keySlotOf t c.slot).gen = k.gen) ∧
        (k.st = .empty → (keySlotOf t c.slot).kind = c.kind ∧ (keySlotOf t c.slot).owner = c.owner ∧ (keySlotOf t c.slot).pair = none) ∧
        (∀ i, i ≠ c.slot → keySlotOf t i = keySlotOf s i) ∧ Only [.sec, .out] s t) ∧
      (c.cmd = 1 → k.st = .active → ¬(k.kind = c.kind ∧ k.owner = c.owner) → Causes (.keyLoad session b) s fun t =>
        said St.accessDenied t ∧ Only [.out] s t) ∧
      (c.cmd = 1 → (k.st = .pending ∨ k.st = .rotating) → Causes (.keyLoad session b) s fun t => said St.busy t ∧ Only [.out] s t) ∧
      (c.cmd = 2 → k.st = .active → keyNamed s c.slot = false → Causes (.keyErase session b) s fun t => said St.ok t ∧ keySlotOf t c.slot = {} ∧
        (∀ i, i ≠ c.slot → keySlotOf t i = keySlotOf s i) ∧ Only [.sec, .out] s t) ∧
      (c.cmd = 2 → k.st = .empty → Causes (.keyErase session b) s fun t => said St.ok t ∧ Only [.out] s t) ∧
      (c.cmd = 2 → (k.st = .pending ∨ k.st = .rotating) → Causes (.keyErase session b) s fun t => said St.busy t ∧ Only [.out] s t) ∧
      (c.cmd = 2 → k.st = .active → keyNamed s c.slot = true → Causes (.keyErase session b) s fun t => said St.busy t ∧ Only [.out] s t) ∧
      (c.cmd = 3 → outOfRack s c.slot = true → Causes (.linkCak session b) s fun t => Only [.lnk, .out] s t ∧
        (macOf t c.slot).cak = some (beNat (c.digest.take 16), beNat (c.key.take 32)) ∧ (macOf t c.slot).saks = (macOf s c.slot).saks ∧
        (∃ f, t.out = s.out ++ [.mka c.slot f, .spdm session (beBytes 1 St.ok ++ [0, 0, 0])])) ∧
      (c.cmd = 3 → outOfRack s c.slot = false → Causes (.linkCak session b) s fun t => said St.unsupported t ∧ Only [.out] s t)) ∧
    (keyRefused s (roleOf s session) c = true →
      let refused := fun (t : State) => Counted s t Reg.secKeyRefusedLo 1 ∧ evtBit t Reg.secEventStatus 6 = true ∧
        Sent s t (.spdm session (beBytes 1 St.accessDenied ++ [0, 0, 0])) ∧ Only eventParts s t
      Causes (.keyLoad session b) s refused ∧ Causes (.keyErase session b) s refused ∧ Causes (.linkCak session b) s refused)) ∧
  (∀ (s : State) (slot : Nat) (k : KeySlot), Awake s → slot < 4096 → k = keySlotOf s slot →
    (k.st = .pending → k.due ≤ slotNow s → k.pair = none → Causes (.keyApplied slot) s fun t => (keySlotOf t slot).st = .active ∧ (keySlotOf t slot).pair = k.next ∧
      (keySlotOf t slot).next = none ∧ (keySlotOf t slot).gen = (k.gen + 1) % two16 ∧ evtBit t Reg.secEventStatus 4 = true ∧
      (∀ i, i ≠ slot → keySlotOf t i = keySlotOf s i) ∧ Only (.sec :: eventParts) s t) ∧
    (k.st = .pending → slotNow s < k.due → Causes (.keyApplied slot) s fun t => t = s) ∧
    (∀ w r, k.st = .pending → k.due ≤ slotNow s → k.pair.isSome = true → keyWins s slot = w :: r → 0 < w.size → Causes (.keyApplied slot) s fun t =>
      (keySlotOf t slot).st = .rotating ∧ (keySlotOf t slot).pair = k.next ∧ (keySlotOf t slot).old = k.pair ∧
        (keySlotOf t slot).curWin = w.id ∧ (keySlotOf t slot).curOff = 0 ∧ evtBit t Reg.secEventStatus 4 = true ∧ Only (.sec :: eventParts) s t) ∧
    (∀ w off, k.st = .rotating → s.pool.txs = [] → s.pool.bgWait = [] → 0 < bgReserve s → rekeyNext s slot = some (w, off) →
      rekeySkips s w ((w.base + off) / 65536) = false → Causes (.rekeyStep slot) s fun t =>
        t.pool.txs.map Tx.work = [.rekey slot ((w.base + off) / 65536)] ∧ Only [.pool] s t) ∧
    (k.st = .rotating → s.pool.txs = [] → rekeyNext s slot = none → Causes (.rekeyStep slot) s fun t => (keySlotOf t slot).st = .active ∧
      (keySlotOf t slot).old = none ∧ (keySlotOf t slot).pair = k.pair ∧ evtBit t Reg.secEventStatus 5 = true ∧
      (∀ i, i ≠ slot → keySlotOf t i = keySlotOf s i) ∧ Only (.sec :: eventParts) s t))

/-- Randomness and debug (R477 to R479, R493, R494, R496): a test that passes makes the source READY, from the next tick on; the tenth failed attempt FAILED; a continuous
test that fails sends it to retesting, and a reseed that falls due then leaves it stale; a nonce is good for one attempt, and an unlock
zeroises every key and ends every session. -/
def Obligations.RandomnessAndDebug : Prop :=
  ∀ s : State, Awake s →
    (s.sec.rng = .testing ∨ s.sec.rng = .retesting → Does (.rngStartupTest true) s fun t => t.sec.rng = .ready ∧ t.sec.stale = false ∧ rngServes t = rngServes s ∧
      t.sec.keys = s.sec.keys ∧ evtBit t Reg.secEventStatus 0 = true ∧ Only (.sec :: eventParts) s t) ∧
    (s.sec.rng = .testing → s.sec.attempts < 9 → Does (.rngStartupTest false) s fun t => t.sec.rng = .testing ∧
      t.sec.attempts = s.sec.attempts + 1 ∧ Counted s t Reg.secRngHealthFailLo 1 ∧ Only [.sec, .ctr] s t) ∧
    (s.sec.rng = .testing → 9 ≤ s.sec.attempts → Does (.rngStartupTest false) s fun t => t.sec.rng = .failed ∧
      evtBit t Reg.secEventStatus 1 = true ∧ Only (.sec :: eventParts) s t) ∧
    (s.sec.rng = .ready → Does .rngRetest s fun t => t.sec.rng = .retesting ∧ Counted s t Reg.secRngHealthFailLo 1 ∧
      evtBit t Reg.secEventStatus 2 = true ∧ Only (.sec :: eventParts) s t) ∧
    (Does .drbgReseed s fun t => t.sec.rng = s.sec.rng ∧ (s.sec.rng = .retesting → t.sec.stale = true ∧ rngServes t = false) ∧
      (s.sec.rng ≠ .retesting → t = s) ∧ Only [.sec] s t) ∧
    (rngServes s = true → Does .debugNonceRead s fun t => t.sec.nonce.isSome = true ∧ Counted s t Reg.secRngBytesLo 32 ∧
      t.sec.keys = s.sec.keys ∧ Only [.sec, .ctr, .freeCtr] s t) ∧
    (rngServes s = false → Does .debugNonceRead s fun t => t = s) ∧
    (∀ sig inTime n, s.sec.nonce = some n → Causes (.debugUnlocked sig inTime) s fun t => t.sec.nonce = none ∧
      (let good := inTime && bit (coatReg s Reg.secCfg 0) 0 &&
        Config.ecdsaVerify Config.debugAuthority (Config.sha384 (s.sec.deviceKey ++ beBytes 32 n)) sig
       (good = false → t.sec.debug = s.sec.debug ∧ t.sec.keys = s.sec.keys ∧ Only [.sec] s t) ∧
        (good = true → t.sec.debug = true ∧ t.sec.keys = [] ∧ t.sec.sessions = [] ∧ t.sec.signDisabled = true ∧ t.lnk.macsec = [] ∧
          evtBit t Reg.secEventStatus 7 = true ∧ Only ([.sec, .lnk, .pool] ++ eventParts) s t)))

/-- SPDM and MKA (R472 to R475, R478, R491): without randomness a request is NOT_READY; GET_MEASUREMENTS answers the measurement blocks;
KEY_EXCHANGE opens a session without a role; the key server's secure association key is installed, and an end that becomes key server draws
one and sends it.
The election of the key server and the sessions of other roles are the model's (log entries 141, 149). -/
def Obligations.PeersAreAnswered : Prop :=
  ∀ s : State, Awake s →
    (∀ (m : Msg) (p : SpdmMsg), Accepted s Op.spdmMsg m →
      (rngServes s = false → Does (.spdmMsg m p) s fun t => Answered s t m St.notReady [] ∧ t.sec.sessions = s.sec.sessions ∧ t.sec.keys = s.sec.keys) ∧
      (∀ index sign, rngServes s = true → p.session = none → p.req = .getMeasurements index sign → (s.sec.signDisabled && sign) = false →
        Does (.spdmMsg m p) s fun t => t.sec.sessions = s.sec.sessions ∧ t.sec.keys = s.sec.keys ∧
          Answered s t m St.ok (Config.spdmEncode p (.measurements (measured s index) sign) s.freeCtr)) ∧
      (rngServes s = true → p.session = none → p.req = .keyExchange → s.sec.sessions.length < maxSessions s → Does (.spdmMsg m p) s fun t =>
        t.sec.sessions = s.sec.sessions ++ [(s.sec.nextSession, .attest)] ∧ t.sec.keys = s.sec.keys ∧
          Answered s t m St.ok (Config.spdmEncode p (.keyExchange s.sec.nextSession) s.freeCtr))) ∧
    (∀ p (f : Mka) c, p < 1024 → outOfRack s p = true → (macOf s p).cak = some c → c.1 = f.ckn → (portOf s p).st ≠ .awaitingKey →
      (∀ k, mkaWins s f = false → f.sak = some k → Does (.mkaFrameRx p f) s fun t => (macOf t p).saks = (k :: (macOf s p).saks.filter (· != k)).take 4 ∧
        (macOf t p).keyServer = false ∧ (macOf t p).live = f.live ∧ t.lnk.ports = s.lnk.ports ∧ Only [.lnk] s t) ∧
      (mkaWins s f = true → (macOf s p).keyServer = false → rngServes s = true → Does (.mkaFrameRx p f) s fun t =>
        (macOf t p).keyServer = true ∧ (macOf t p).live = f.live ∧ Counted s t Reg.secRngBytesLo 32 ∧ t.lnk.ports = s.lnk.ports ∧
          (∃ k g, (macOf t p).saks.head? = some k ∧ t.out = s.out ++ [.mka p g] ∧ g.sak = some k) ∧ Only [.lnk, .out, .ctr, .freeCtr] s t) ∧
      (mkaWins s f = true → (macOf s p).keyServer = false → rngServes s = false → Does (.mkaFrameRx p f) s fun t => t = s))

/-! ### Scrim twin mode (spec/16) -/

/-- Pairing (R504, R507): a bridge trained on four groups sends HELLO; a HELLO that agrees pairs the twins, one that does not, too few groups or
no partner in time leave the left twin ALONE and the right twin HELD; a retired group leaves the bridge. Twins at work (R513, R516, R517): a
heartbeat toggles SCR_ALIVE; a commit record is applied to the shadows and acknowledged; its acknowledgement releases the transaction that
waits; a control transaction goes out, or backs off where the left twin starts one too.
A control transaction is one command (log entry 142). -/
def Obligations.TwinsPair : Prop :=
  (∀ s : State, Awake s →
    (∀ (groups : BitVec 8) g, s.scr.st = .training → g = (List.range 8).filter (fun i => groups.getLsbD i && inService s 11 i) →
      (4 ≤ g.length → Causes (.bridgeTrainDone groups) s fun t => t.scr.groups = g ∧ t.scr.trained = true ∧ t.scr.st = .training ∧
        t.out = s.out ++ [.bridge (.hello s.scr.role (ownDigest s) (coat s).serial (coat s).headerDigest)] ∧ Only [.scr, .out] s t) ∧
      (g.length < 4 → s.scr.role = 1 → Causes (.bridgeTrainDone groups) s fun t => t.scr.st = .alone ∧ evtBit t Reg.scrEventStatus 1 = true ∧
        Only ([.scr, .pool] ++ eventParts) s t)) ∧
    (∀ (role : BitVec 2) devid (serial : BitVec 32) digest, s.scr.st = .training → s.scr.role ≠ 0 →
      (helloOk s role.toNat devid serial.toNat digest = true → s.scr.wasReset = false → Causes (.hello role devid serial digest) s fun t =>
        t.scr.st = .paired ∧ t.scr.partnerDevid = devid ∧ evtBit t Reg.scrEventStatus 0 = true ∧ Only (.scr :: eventParts) s t) ∧
      (helloOk s role.toNat devid serial.toNat digest = true → s.scr.wasReset = true → Causes (.hello role devid serial digest) s fun t =>
        t.scr.st = .rejoining ∧ t.scr.partnerDevid = devid ∧ Only [.scr] s t) ∧
      (helloOk s role.toNat devid serial.toNat digest = false → Causes (.hello role devid serial digest) s fun t =>
        t.scr.st = (if s.scr.role = 1 then .alone else .held) ∧ evtBit t Reg.scrEventStatus 1 = true ∧ Safety.same .mem s t)) ∧
    (s.scr.st = .training → Causes .pairTimeout s fun t => t.scr.st = (if s.scr.role = 1 then .alone else .held) ∧
      evtBit t Reg.scrEventStatus 1 = true ∧ Safety.same .mem s t) ∧
    ∀ g, g < 8 → (unitOf s 11 g).st ≠ 3 → Causes (.groupRetired g) s fun t => (unitOf t 11 g).st = 3 ∧ t.scr.groups = without s.scr.groups g ∧
      evtBit t Reg.scrEventStatus 4 = true ∧ Only ([.scr, .cfg, .nv, .freeCtr] ++ eventParts) s t) ∧
  (∀ s : State, Awake s →
    (s.scr.role ≠ 0 → Does .heartbeat s fun t => t.scr.alive = !s.scr.alive ∧ Only [.scr, .out] s t ∧
      t.out = s.out ++ [.bridge .heartbeat, .pin .scrAlive (!s.scr.alive)]) ∧
    (∀ (c : Commit) line bs, s.scr.st = .paired → c.lines = [(line, bs)] → c.freed = [] → c.kept = [] → Causes (.commitRecord c) s fun t =>
      alGet t.scr.dirtyShadow line = some bs ∧ (∀ l, l ≠ line → alGet t.scr.dirtyShadow l = alGet s.scr.dirtyShadow l) ∧
        t.scr.shadowKept = s.scr.shadowKept ∧ t.out = s.out ++ [.bridge (.commitAck c.id)] ∧ Only [.scr, .out, .ctr] s t) ∧
    (∀ id, Causes (.commitAck id) s fun t => t.pool.txs.map Tx.id = s.pool.txs.map Tx.id ∧ Only [.pool] s t ∧
      (∀ z ∈ t.pool.txs, z.commit ≠ some id) ∧ ∀ z ∈ s.pool.txs, z.commit = some id → { z with commit := none, acked := true } ∈ t.pool.txs) ∧
    (∀ kind partnerToo, s.scr.st = .paired → ¬(partnerToo = true ∧ s.scr.role = 2) → Causes (.controlTransaction kind true partnerToo) s fun t =>
      t.out = s.out ++ [.bridge (.control kind)] ∧ Only [.out] s t) ∧
    (∀ kind, s.scr.st = .paired → s.scr.role = 2 → Causes (.controlTransaction kind true true) s fun t => t.scr.ctlAgain = some kind ∧
      Counted s t Reg.scrBackoffLo 1 ∧ t.out = s.out ∧ Only [.scr, .ctr] s t) ∧
    ∀ kind partnerToo, s.scr.st = .paired → Causes (.controlTransaction kind false partnerToo) s fun t => t = s)

/-- A twin alone (R517 to R519): silence makes the survivor ALONE, or HELD where the right twin's partner still shows life; a takeover brings
its shadows into effect; the stream goes on where it stood; a handback makes both twins PAIRED.
What the stream carries is the model's choice (log entry 138). -/
def Obligations.SurvivorsTakeOver : Prop :=
  ∀ s : State, Awake s →
    (∀ alive, s.scr.st = .paired → Causes (.partnerSilence alive) s fun t => Safety.same .mem s t ∧ t.scr.partnerAlive = alive ∧
      (s.scr.role = 2 ∧ alive = true → t.scr.st = .held ∧ evtBit t Reg.scrEventStatus 3 = true) ∧
      (¬(s.scr.role = 2 ∧ alive = true) → t.scr.st = .alone ∧ t.scr.took = false ∧ evtBit t Reg.scrEventStatus 2 = true)) ∧
    (∀ line bs ep n, s.scr.st = .alone → s.scr.took = false → s.scr.role = 1 → s.scr.dirtyShadow = [(line, bs)] → bs.length = 128 →
      s.scr.pinnedMirror = [] → s.scr.shadowE = [(ep, n)] → s.scr.shadowKept = [] → s.trw.groups = [] → (coat s).resident.slots = [] →
      s.pool.txs = [] → Memory.wf s.mem → Causes .takeover s fun t => memLine t.mem line = bs ∧
        (∀ a, a / 128 ≠ line → memByte t.mem a = memByte s.mem a) ∧ (srcOf t ep).expect = n ∧ t.scr.took = true ∧ t.scr.dirtyShadow = [] ∧
        t.scr.st = .alone) ∧
    (∀ count l, s.scr.st = .alone → s.scr.rejoin = true → l = ((streamLines s).drop s.scr.streamed).take count → Causes (.shadowStream count) s fun t =>
      t.scr.streamed = s.scr.streamed + l.length ∧ t.out = s.out ++ [.bridge (.stream l)] ∧ Counted s t Reg.scrTxBytesLo (160 * l.length) ∧
        Only [.scr, .out, .ctr] s t) ∧
    (s.scr.st = .rejoining → s.scr.role = 2 → Causes .handback s fun t => t.scr.st = .paired ∧ evtBit t Reg.scrEventStatus 5 = true ∧
      Only (.scr :: eventParts) s t) ∧
    (s.scr.st = .alone → s.scr.rejoin = true → Causes .handback s fun t => t.scr.st = .paired ∧ t.scr.rejoin = false ∧
      evtBit t Reg.scrEventStatus 5 = true ∧ Sent s t (.bridge .handback))

/-! ### Coats (spec/17) -/

/-- Delivery (R537 to R539): a COAT_WRITE joins the assembly of its source, another source is BUSY; a COAT_SUBMIT is answered with the status
and the reason of the first check that fails, and the coat in force stays; a patch that passes is pending and is being programmed; an
abandoned assembly is discarded.
The decoding of most sections is open (log entry 5). -/
def Obligations.CoatsAreDelivered : Prop :=
  ∀ (s : State) (m : Msg), Awake s →
    (Accepted s Op.coatWrite m →
      (s.cfg.staging = none → Does (.coatWrite m) s fun t => Answered s t m St.ok [] ∧ Only [.cfg, .pool, .out, .ctr] s t ∧
        t.cfg = { s.cfg with staging := some { source := .source m.src, chunks := [(beAt m.body 0 4, m.body.drop 8)] } }) ∧
      (∀ x, s.cfg.staging = some x → x.source = .source m.src → Does (.coatWrite m) s fun t => Answered s t m St.ok [] ∧
        t.cfg = { s.cfg with staging := some { x with chunks := x.chunks ++ [(beAt m.body 0 4, m.body.drop 8)] } } ∧
        Only [.cfg, .pool, .out, .ctr] s t) ∧
      (∀ x, s.cfg.staging = some x → x.source ≠ .source m.src → Does (.coatWrite m) s fun t => Answered s t m St.busy [] ∧
        Only [.pool, .out, .ctr] s t)) ∧
    (∀ x img r, Accepted s Op.coatSubmit m → s.cfg.staging = some x → x.source = .source m.src → beAt m.body 0 4 ≤ imageMax →
      img = stagedBytes x (beAt m.body 0 4) → r = submitReason s img (beAt m.body 4 1) → Does (.coatSubmit m) s fun t =>
        Completed s t m (reasonStatus r.1) (beBytes 1 r.1 ++ [0] ++ beBytes 2 r.2 ++ [0, 0, 0, 0]) ∧ t.cfg.staging = none ∧
          t.cfg.active = s.cfg.active ∧ t.cfg.st = s.cfg.st ∧ Safety.same .mem s t ∧
          (r.1 ≠ 0 → Counted s t Reg.cfgRejectedLo 1 ∧ evtBit t Reg.cfgEventStatus 0 = true ∧ t.cfg.pending = s.cfg.pending ∧ t.nv = s.nv) ∧
          (r.1 = 0 → (readImage (coat s) img).patch = true →
            t.cfg.pending = some { image := readImage (coat s) img, bytes := img } ∧
              t.cfg.writing.getLast? = some (.entry (readImage (coat s) img).coat.serial) ∧
              t.cfg.dir.highWater = (readImage (coat s) img).coat.serial)) ∧
    (Accepted s Op.coatSubmit m → s.cfg.staging = none → Does (.coatSubmit m) s fun t => Completed s t m St.malformed [2, 0, 0, 0, 0, 0, 0, 0] ∧
      Counted s t Reg.cfgRejectedLo 1 ∧ t.cfg = s.cfg ∧ t.nv = s.nv ∧ Safety.same .mem s t) ∧
    Does .coatAssemblyTimeout s fun t => t.cfg = { s.cfg with staging := none } ∧ Only [.cfg] s t

/-- Application (R539 to R542): a programmed patch is staged, a programmed full coat is ACTIVE from the next reset; a staged patch of the coat in
force applies and cures at its slot, with the old coat to go back to; any other pending patch is dropped then, and before that slot, or in
UNSET, nothing happens.
That PORTS, FIRMWARE, PRIV and LOCK show as passed from the start is the model's reading (log entry 164). -/
def Obligations.PatchesApply : Prop :=
  ∀ s : State, Awake s →
    (∀ p, s.cfg.writing = [.entry p.image.coat.serial] → s.cfg.pending = some p → Causes .journalStaged s fun t =>
      t.cfg.pending = some { p with staged := true } ∧ t.cfg.writing = [] ∧ t.cfg.active = s.cfg.active ∧ Only [.cfg, .nv] s t) ∧
    (∀ slot off ext bytes, slot < 4 → s.cfg.dir.slots.length = 4 → s.cfg.writing = [.full slot off ext bytes none] → Causes .journalStaged s fun t =>
      t.cfg.dir.active = slot ∧ (dirSlot t.cfg.dir slot).st = .staged ∧ (dirSlot t.cfg.dir slot).offset = off ∧
        (dirSlot t.cfg.dir slot).top = beAt bytes 16 4 ∧ t.cfg.dir.tries = 0 ∧ t.cfg.writing = [] ∧ t.cfg.active = s.cfg.active ∧
        (alGet t.nv.chains slot).map Chain.full = some bytes ∧ Only [.cfg, .nv] s t) ∧
    (∀ p, s.cfg.pending = some p → slotCome s p.image = true → p.staged = true → p.image.base = (coat s).serial → s.cfg.st = .cured → p.image.sheet = [] →
      p.image.scrub = [] → Causes .patchApply s fun t => t.cfg.active = some p.image.coat ∧ t.cfg.st = .curing ∧ t.cfg.previous = s.cfg.active ∧
        t.cfg.pending = none ∧ t.cfg.stripDue = false ∧ t.cfg.passed = [0, 2, 3, 4] ∧ evtBit t Reg.cfgEventStatus 1 = true) ∧
    (∀ p, s.cfg.pending = some p → (s.alm.st = .unset ∨ s.alm.time / 1024 < p.image.applySlot) → Causes .patchApply s fun t => t = s) ∧
    ∀ p, s.cfg.pending = some p → slotCome s p.image = true → ¬(p.staged = true ∧ p.image.base = (coat s).serial ∧ s.cfg.st = .cured) →
      Causes .patchApply s fun t =>
      t.cfg.pending = none ∧ t.cfg.active = s.cfg.active ∧ t.cfg.st = s.cfg.st ∧ evtBit t Reg.cfgEventStatus 4 = true ∧
        Only ([.cfg, .nv, .til, .freeCtr] ++ eventParts) s t

/-- Curing (R543 to R545): a CURE under the operator's signature confirms the coat or condemns it; a failed check makes a strip due; a cure that
ends with every check met leaves the coat cured, one without the confirmation it needs a strip due. -/
def Obligations.CoatsCure : Prop :=
  ∀ s : State, Awake s →
    (∀ m : Msg, Accepted s Op.cure m → Op.cure = 0xC3 ∧ m.length.toNat = 104 ∧ beAt m.body 4 1 ≤ 1 ∧ zeroAt m.body 5 3 = true ∧
      (s.cfg.st ≠ .curing → Does (.cure m) s fun t => Answered s t m St.malformed [] ∧ Only [.pool, .out, .ctr] s t) ∧
      (s.cfg.st = .curing → beAt m.body 0 4 ≠ (coat s).serial → Does (.cure m) s fun t => Answered s t m St.accessDenied [] ∧
        Only [.pool, .out, .ctr] s t) ∧
      (s.cfg.st = .curing → beAt m.body 0 4 = (coat s).serial → Does (.cure m) s fun t => Only [.cfg, .pool, .out, .ctr] s t ∧
        (let good := Config.ecdsaVerify (coat s).pubkey (Config.sha384 (m.body.take 8)) (slice m.body 8 96)
         (good = false → Answered s t m St.accessDenied [] ∧ t.cfg = s.cfg) ∧
          (good = true → beAt m.body 4 1 = 1 → Answered s t m St.ok [] ∧ 1 ∈ t.cfg.passed ∧ t.cfg.stripDue = s.cfg.stripDue) ∧
          (good = true → beAt m.body 4 1 = 0 → Answered s t m St.ok [] ∧ t.cfg.stripDue = true ∧ 1 ∈ t.cfg.failed)))) ∧
    (∀ k, k < 6 → s.cfg.st = .curing → bit (checksOf s) k = true → checkMet s k = true → Causes (.healthCheckFail k) s fun t =>
      t.cfg.stripDue = true ∧ k ∈ t.cfg.failed ∧ k ∉ t.cfg.passed ∧ t.cfg.active = s.cfg.active ∧ Only [.cfg] s t) ∧
    (∀ k, k < 6 → ¬(s.cfg.st = .curing ∧ bit (checksOf s) k = true ∧ checkMet s k = true) → Causes (.healthCheckFail k) s fun t => t = s) ∧
    (s.cfg.st = .curing → s.cfg.stripDue = false → allLowered s = true → (bit (checksOf s) 1 = true → 1 ∈ s.cfg.passed) → Causes .cureEnd s fun t =>
      t.cfg.st = .cured ∧ t.cfg.active = s.cfg.active ∧ t.cfg.previous = none ∧ evtBit t Reg.cfgEventStatus 2 = true ∧
        Only ([.cfg, .nv] ++ eventParts) s t) ∧
    (s.cfg.st = .curing → s.cfg.stripDue = false → bit (checksOf s) 1 = true → 1 ∉ s.cfg.passed → Causes .cureEnd s fun t =>
      t.cfg.st = .curing ∧ t.cfg.stripDue = true ∧ 1 ∈ t.cfg.failed ∧ Only [.cfg] s t)

/-- Going back and starting (R263, R534, R545, R548): a strip restores the previous coat and drains the pool; when what was in progress has ended
the held requests go on; a unit that is ready begins the test of its return; a device boots the coat that its flash offers, or none.
What a booted coat goes back to is the model's reading (log entry 166). -/
def Obligations.CoatsAreRestored : Prop :=
  ∀ s : State, Awake s →
    (∀ old, s.cfg.st = .curing → s.cfg.stripDue = true → s.cfg.previous = some old → Causes .strip s fun t => t.cfg.active = some old ∧
      t.cfg.st = .draining ∧ t.cfg.stripDue = false ∧ t.pool.drain = some s.pwr.uptime ∧ evtBit t Reg.cfgEventStatus 3 = true) ∧
    (s.cfg.st = .curing → s.cfg.stripDue = true → s.cfg.previous = none → Causes .strip s fun t => t.cfg.stripDue = false ∧
      t.cfg.active = s.cfg.active ∧ Only [.cfg] s t) ∧
    (∀ tick, s.pool.drain = some tick → drainLeft s tick = false → (∀ x ∈ s.pool.srcs, x.2.held = []) → Causes .rollbackDrainEnd s fun t =>
      t.pool.drain = none ∧ t.cfg.st = .cured ∧ (∃ e ∈ t.tel.log, e.block = 15 ∧ e.code = 36) ∧ Only ([.pool, .cfg] ++ eventParts) s t) ∧
    (∀ tick, s.pool.drain = some tick → drainLeft s tick = true → Causes .rollbackDrainEnd s fun t => t = s) ∧
    (∀ kind i, okUnit kind i = true → (unitOf s kind i).st = 1 → ((unitOf s kind i).reason = 1 ∨ (unitOf s kind i).reason = 3) →
      Causes (.unitReturn kind i) s fun t => (unitOf t kind i).st = 2 ∧ (unitOf t kind i).returning = true ∧
        (∀ k j, (k, j) ≠ (kind, i) → unitOf t k j = unitOf s k j) ∧ Only [.cfg] s t) ∧
    (s.cfg.st = .booting → Causes .boot s fun t =>
      let pick := bootPick { s with cfg := { s.cfg with dir := (bootDir s).getD {} } }
      (pick = .none → t.cfg.st = .noCoat ∧ t.cfg.active = s.cfg.active ∧ Only [.cfg] s t) ∧
        (∀ c i, pick = .cured c i → t.cfg.st = .cured ∧ t.cfg.active = some c ∧ t.cfg.slot = i ∧ t.cfg.forwarding = true) ∧
        (∀ c i p, pick = .trial c i p → t.cfg.st = .curing ∧ t.cfg.active = some c ∧ t.cfg.previous = p ∧ t.cfg.cureSlot = some i) ∧
        ∀ c i bad, pick = .fallback c i bad → t.cfg.st = .cured ∧ t.cfg.active = some c ∧ evtBit t Reg.cfgEventStatus 6 = true)

/-! ### Faults, frost, snapshots (spec/18, spec/20) -/

/-- Self-test (R558, R571, R572): a test begins once the unit holds no work; one that passes leaves it in service, one that fails retires it; a
unit that faults is tested at once; a request that waited for a unit under test completes BUSY.
The zero payload of the BUSY completion is the model's reading (log entry 136). -/
def Obligations.UnitsAreTested : Prop :=
  ∀ (s : State) (kind i : Nat), Awake s → okTestUnit kind i = true →
    (mayTest s kind = true → (servingUnits s kind).contains i = true → (unitOf s kind i).wanted = false → s.pool.txs = [] →
      (unitBusy s kind i = false → Causes (.selftestStart kind i) s fun t => (unitOf t kind i).st = 2 ∧ (unitOf t kind i).wanted = false ∧
        (∀ k j, (k, j) ≠ (kind, i) → unitOf t k j = unitOf s k j) ∧ Only [.cfg] s t) ∧
      (unitBusy s kind i = true → Causes (.selftestStart kind i) s fun t => (unitOf t kind i).wanted = true ∧
        (unitOf t kind i).st = (unitOf s kind i).st ∧ Only [.cfg] s t)) ∧
    ((unitOf s kind i).st = 2 → (unitOf s kind i).faulty = false → (unitOf s kind i).returning = false → Causes (.selftestEnd kind i true) s fun t =>
      (unitOf t kind i).st = 0 ∧ (unitOf t kind i).tested = s.pwr.uptime ∧ Counted s t Reg.rasSelftestPassLo 1 ∧
        (∀ k j, (k, j) ≠ (kind, i) → unitOf t k j = unitOf s k j) ∧ Only [.cfg, .ctr] s t) ∧
    ((unitOf s kind i).st = 2 → Causes (.selftestEnd kind i false) s fun t => (unitOf t kind i).st = 3 ∧
      evtBit t Reg.rasEventStatus 8 = true ∧ Safety.same .mem s t) ∧
    (faultKinds.contains kind = true → (unitOf s kind i).st = 0 → Causes (.unitFault kind i) s fun t => (unitOf t kind i).st = 2 ∧
      (unitOf t kind i).faulty = true ∧ evtBit t Reg.rasEventStatus 0 = true ∧ Safety.same .mem s t) ∧
    ((unitOf s kind i).st = 3 → Causes (.unitFault kind i) s fun t => t = s) ∧
    ∀ source tag x op m, source < 1048576 → tag < 65536 → s.pool.txs = [x] → x.work = .req op m → op = Op.gather ∨ op = Op.sieve →
      x.source = source → x.tag = tag → needsUnit x = true → x.unit = none → servingUnits s (unitKind op) = [] → s.til.invs = [] →
      (s.cfg.units.any fun u => u.1.1 == unitKind op && u.2.st == 2) = true → Causes (.selftestWaitExpiry source tag) s fun t =>
        t.pool.txs.map Tx.status = [some St.busy] ∧ t.pool.txs.map Tx.reply = [gatherReply 0 0 false] ∧
          Counted s t Reg.rasSelftestBusyLo 1 ∧ Only [.pool, .ctr] s t

/-- HBM (R167, R559, R562, R570): an uncorrectable error poisons the pinned line it took and its row is repaired; a window of corrected errors is counted,
and above the limit repairs the row; a repaired row is recorded for good; a retired pseudo-channel's lines have moved; the poison table is copied.
Which lines an error takes comes with the command, and the counts are the model's reading (log entries 127, 130). -/
def Obligations.MemoryIsRepaired : Prop :=
  ∀ (s : State) (pc row : Nat) (p : Pc), Awake s → pc < 512 → p = pcOf s pc →
    (∀ l, pcServes s pc = true → p.spare ≠ 0 → row ∉ p.repairing → p.ueRows = [] → 1 ≤ coatFld s Reg.rasCfg 0 12 6 → isPinned s l = true →
      s.coh.slots = [] → Causes (.hbmUe pc row [l]) s fun t => isPoisoned t l = true ∧ Counted s t Reg.rasHbmUeLo 1 ∧
        row ∈ (pcOf t pc).repairing ∧ (pcOf t pc).spare = p.spare - 1 ∧ (pcOf t pc).st = p.st ∧ (∀ k, k ≠ pc → pcOf t k = pcOf s k) ∧
        Safety.same .mem s t) ∧
    (∀ count, ¬(pcServes s pc = true ∧ coatFld s Reg.rasCfg 0 0 12 < count) → Causes (.hbmCeWindow pc count row []) s fun t =>
      Counted s t Reg.rasHbmCeLo count ∧ (pcOf t pc).ceLast = min count 4095 ∧ (pcOf t pc).repairing = p.repairing ∧ Only [.ras, .ctr] s t) ∧
    (∀ count, pcServes s pc = true → coatFld s Reg.rasCfg 0 0 12 < count → p.spare ≠ 0 → row ∉ p.repairing → Causes (.hbmCeWindow pc count row []) s fun t =>
      Counted s t Reg.rasHbmCeLo count ∧ row ∈ (pcOf t pc).repairing ∧ (pcOf t pc).spare = p.spare - 1 ∧ Only [.ras, .ctr] s t) ∧
    (row ∈ p.repairing → Causes (.hbmRowRepaired pc row) s fun t => row ∉ (pcOf t pc).repairing ∧ t.nv.repaired = s.nv.repaired ++ [(pc, row)] ∧
      evtBit t Reg.rasEventStatus 2 = true ∧ Only ([.ras, .nv] ++ eventParts) s t) ∧
    (Causes (.pcMoveDone pc) s fun t => (pcOf t pc).st = (if p.st = 1 then 2 else p.st) ∧ (∀ k, k ≠ pc → pcOf t k = pcOf s k) ∧ Only [.ras] s t) ∧
    ((coat s).pool.trays ≠ [] → Does .poisonTableCopy s fun t => t.nv.poison = s.coh.poison ∧ t.coh = s.coh ∧ Only [.nv] s t) ∧
    ((coat s).pool.trays = [] → Does .poisonTableCopy s fun t => t = s)

/-- Frost (R563 to R568): a notice of a home listed for the job puts it in frost, one of another home is refused; a THAW under the operator's signature,
with the serial of the frost, of a job that is swept waits for its slot; at its slot the job leaves frost, where nothing has come between.
What a thaw clears of the job's status is the model's choice (log entry 128). -/
def Obligations.JobsFreezeAndThaw : Prop :=
  ∀ s : State, Awake s →
    (∀ (m : Msg) job, Accepted s Op.frostNotice m → job = beAt m.body 0 2 →
      ((((coat s).pool.homes.lookup job).getD []).contains m.src = true → (jobSt s job).frost = false → s.coh.slots = [] → m.src ≠ selfEp s →
        Does (.frostNotice m) s fun t => Completed s t m St.ok [] ∧ (jobSt t job).frost = true ∧ (jobSt t job).remote = true ∧
          (jobSt t job).cause = beAt m.body 2 1 ∧ (jobSt t job).origin = m.src ∧ (jobSt t job).serial = ((jobSt s job).serial + 1) % two32 ∧
          evtBit t Reg.rasEventStatus 4 = true ∧ (∀ k, k ≠ job → jobSt t k = jobSt s k) ∧ Safety.same .mem s t) ∧
      ((((coat s).pool.homes.lookup job).getD []).contains m.src = false → Does (.frostNotice m) s fun t =>
        Answered s t m St.accessDenied [] ∧ Only [.pool, .out, .ctr] s t)) ∧
    (∀ (m : Msg) job, Accepted s Op.thaw m → job = beAt m.body 0 2 →
      ((jobSt s job).frost = false → Does (.thaw m) s fun t => Answered s t m St.malformed [] ∧ Only [.pool, .out, .ctr] s t) ∧
      ((jobSt s job).frost = true → Does (.thaw m) s fun t => Answered s t m (thawStatus s m) [] ∧ Only [.ras, .pool, .out, .ctr] s t ∧
        (Config.ecdsaVerify (coat s).pubkey (Config.sha384 (m.body.take 8)) (slice m.body 8 96) = false → thawStatus s m = St.accessDenied) ∧
        (thawStatus s m ≠ St.ok → t.ras = s.ras) ∧
        (thawStatus s m = St.ok → (jobSt t job).thaw = some (jobSt s job).serial ∧ (jobSt t job).frost = true))) ∧
    ∀ job n, job < 65536 → (jobSt s job).thaw = some n →
      ((jobSt s job).frost = true → n = (jobSt s job).serial → Causes (.thawApply job) s fun t => (jobSt t job).frost = false ∧
        (jobSt t job).thaw = none ∧ evtBit t Reg.rasEventStatus 6 = true ∧ (∀ k, k ≠ job → jobSt t k = jobSt s k) ∧
        Only ([.ras, .trw] ++ eventParts) s t) ∧
      ((jobSt s job).frost = true → n ≠ (jobSt s job).serial → Causes (.thawApply job) s fun t => (jobSt t job).frost = true ∧
        (jobSt t job).thaw = none ∧ (∃ e ∈ t.tel.log, e.block = 16 ∧ e.code = 35) ∧ Only (.ras :: eventParts) s t)

/-- Snapshots (R601, R602): in a slot whose number is a multiple of SNAP_PERIOD one is taken, where they are enabled; one that falls due while the last is still being sent is skipped; each send takes the
next frame of at most 339 records, and after the last the snapshot is finished.
One frame a command is the model's choice (log entry 191). -/
def Obligations.SnapshotsAreSent : Prop :=
  ∀ s : State, Awake s →
    (snapDueNow s = true → s.tel.snap = none → Does .snapshot s fun t =>
      t.tel.snap = some (now s, (coat s).serial, 0, snapRecords s) ∧ t.tel.snapSeq = (s.tel.snapSeq + 1) % two32 ∧ Only [.tel] s t) ∧
    (snapDueNow s = true → s.tel.snap.isSome = true → Does .snapshot s fun t => t.tel.snap = s.tel.snap ∧
      Counted s t Reg.telSnapSkippedLo 1 ∧ evtBit t Reg.telEventStatus 1 = true ∧ Only eventParts s t) ∧
    (bit (coatReg s Reg.telCfg 0) 20 = false ∨ s.alm.time / 1024 % coatFld s Reg.telCfg 0 0 20 ≠ 0 → Does .snapshot s fun t => t = s) ∧
    (∀ time serial frame recs, s.tel.snap = some (time, serial, frame, recs) → Does .snapshotSend s fun t =>
      (∃ f : PmtOut, t.out = s.out ++ [.pmt f] ∧ f.opcode = Op.telSnapshot ∧ f.dest = coatFld s Reg.telSnapDest 0 0 20 ∧
        f.payload = snapPayload s time serial frame recs) ∧
      t.tel.snap = (if recs.length ≤ 339 * (frame + 1) then none else some (time, serial, frame + 1, recs)) ∧ Only [.tel, .pool, .out] s t) ∧
    (s.tel.snap = none → Does .snapshotSend s fun t => t = s)

/-! ### Registers (spec/21) -/

/-- REG_READ and REG_WRITE of one word, and a word written by a path (R464, R593, R607, R611, R614): a register that shows neither the pool nor
a counter reads as it stands, and the _LO of a pair keeps the upper half for its _HI; a selection is the path's own; a one written to an
event bit clears it; a write to nothing is ignored, counted and logged. The PCIe path (R593, R608 to R610): a counter read there keeps its
upper half for the next read of its _HI; a doorbell submits the request area, whose completion then stands in the response area; without
BAR0 a read gives zero.
The class of the log entry of an ignored write is the model's reading (log entry 185). -/
def Obligations.RegistersAreAccessed : Prop :=
  (∀ s : State, Awake s →
    (∀ (m : Msg) a, Accepted s Op.regRead m → a = m.address.toNat → beAt m.body 0 2 = 1 → regSecure (seen s) a = false → (seen s).scr.role = 0 →
      (∀ u, Only [.pool, .out, .ctr] s u → ownVal (seen u) (.source m.src) a = ownVal (seen s) (.source m.src) a) →
      (∀ n, regAccess (seen s) a ≠ none → ownVal (seen s) (.source m.src) a = some (.word n) → a ≠ Reg.glbEventSummary → Does (.regRead m) s fun t =>
        Answered s t m St.ok (beBytes 4 (n % two32)) ∧ Only [.pool, .out, .ctr] s t) ∧
      (∀ n, regAccess (seen s) a ≠ none → ownVal (seen s) (.source m.src) a = some (.wide n) → Does (.regRead m) s fun t =>
        Answered s t m St.ok (beBytes 4 (n % two32)) ∧ alGet t.mgmt.latches (.source m.src, a) = some (BitVec.ofNat 32 (n / two32)) ∧
          Only [.mgmt, .pool, .out, .ctr] s t) ∧
      (regAccess (seen s) a = none → Does (.regRead m) s fun t => Answered s t m St.ok [0, 0, 0, 0] ∧ Only [.pool, .out, .ctr] s t)) ∧
    (∀ (m : Msg) a v, Accepted s Op.regWrite m → a = m.address.toNat → m.body.length = 4 → v = beAt m.body 0 4 → regSecure s a = false → underOld s = s →
      (∀ k, regAccess s a = some (.rw k) → Does (.regWrite m) s fun t => Answered s t m St.ok [0, 0, 0, 0] ∧
        alGet t.mgmt.sels (.source m.src, a) = some (BitVec.ofNat 32 (v &&& k)) ∧ Only [.mgmt, .pool, .out, .ctr] s t) ∧
      (regAccess s a = none → Does (.regWrite m) s fun t => Completed s t m St.ok [0, 1, 0, 0] ∧ Counted s t Reg.glbIgnoredLo 1 ∧
        t.mgmt = s.mgmt ∧ t.cfg = s.cfg ∧ Safety.same .mem s t)) ∧
    ∀ (path : Path) (a v : BitVec 32), underOld s = s → pathOpen s path = true → (regSecure s a.toNat && !pathSecure path) = false →
      (∀ k, regAccess s a.toNat = some (.rw k) → Does (.registerWrite path a v) s fun t =>
        selOf t path a.toNat = (BitVec.ofNat 32 (v.toNat &&& k)).toNat ∧ (∀ q b, (q, b) ≠ (path, a.toNat) → selOf t q b = selOf s q b) ∧
          Only [.mgmt] s t) ∧
      (∀ k, regAccess s a.toNat = some (.rw1c k) → s.scr.role = 0 → Does (.registerWrite path a v) s fun t => Only [.evt, .out] s t ∧
        (∀ i, i < 32 → evtBit t a.toNat i = (evtBit s a.toNat i && !(v.toNat &&& k).testBit i)) ∧
        ∀ r i, r ≠ a.toNat → evtBit t r i = evtBit s r i) ∧
      (regAccess s a.toNat = some .ro → Does (.registerWrite path a v) s fun t => Counted s t Reg.glbIgnoredLo 1 ∧
        (∃ e ∈ t.tel.log, e.code = 32) ∧ Only eventParts s t)) ∧
  (∀ s : State, Awake s →
    (∀ (path : Path) (a : BitVec 32) n, underOld s = s → pathOpen s path = true → regAccess (seen s) a.toNat ≠ none → (regSecure (seen s) a.toNat && !pathSecure path) = false →
      farReg (seen s) path a.toNat = false → ownVal (seen s) path a.toNat = some (.wide n) → Does (.loReadLatch path a) s fun t =>
        t.out = s.out ++ [.regValue path a.toNat (n % two32)] ∧ Only [.mgmt, .out] s t ∧
          alGet t.mgmt.latches (path, a.toNat) = some (BitVec.ofNat 32 (n / two32))) ∧
    (∀ (path : Path) (a : BitVec 32) w, underOld s = s → pathOpen s path = true → regAccess (seen s) a.toNat ≠ none → (regSecure (seen s) a.toNat && !pathSecure path) = false →
      farReg (seen s) path a.toNat = false → ownVal (seen s) path a.toNat = none → alGet s.mgmt.latches (path, a.toNat - 4) = some w →
      Does (.loReadLatch path a) s fun t => t.out = s.out ++ [.regValue path a.toNat w.toNat] ∧
        alGet t.mgmt.latches (path, a.toNat - 4) = none ∧ Only [.mgmt, .out] s t) ∧
    (∀ a : BitVec 32, s.mgmt.pcieUp = true → underOld s = s → barOn s = false → Does (.loReadLatch .pcie a) s fun t =>
      t.out = s.out ++ [.regValue .pcie a.toNat 0] ∧ Only [.out] s t) ∧
    (∀ (op : BitVec 8) (m : Msg) p, m.port ≤ 1024 → s.mgmt.pcieUp = true → s.mgmt.mbxBusy = false → mailboxHeader m = true →
      op.toNat = Op.coatWrite → coatFormat Op.coatWrite m = true → s.cfg.staging = none → Causes (.mbxDoorbell 1 op m p) s fun t =>
        t.mgmt.mbxDone = true ∧ (∃ c, t.mgmt.mbxResponse = some c ∧ c.status = St.ok ∧ t.out = s.out ++ [.mailbox c]) ∧
          t.cfg.staging = some { source := .pcie, chunks := [(beAt m.body 0 4, m.body.drop 8)], tick := tickNow s } ∧ Only [.mgmt, .cfg, .out] s t) ∧
    (∀ (op : BitVec 8) (m : Msg) p, m.port ≤ 1024 → s.mgmt.pcieUp = true → s.mgmt.mbxBusy = false → mailboxHeader m = false →
      Causes (.mbxDoorbell 1 op m p) s fun t => t.mgmt.mbxDone = true ∧
        (∃ c, t.mgmt.mbxResponse = some c ∧ c.status = St.malformed ∧ t.out = s.out ++ [.mailbox c]) ∧ Only [.mgmt, .out, .ctr] s t) ∧
    ∀ (v : BitVec 32) (op : BitVec 8) (m : Msg) p, m.port ≤ 1024 → v ≠ 1 → Causes (.mbxDoorbell v op m p) s fun t => t = s)
end

