-- ==== Sys2Proof/Laws/Lists.lean ====
section
/-! SUPPORT. Keyed lists: what is read after a key was set, changed or erased. -/

namespace Sys2Proof.Machine

variable {κ α : Type} [DecidableEq κ]

@[simp] theorem alGet_nil (k : κ) : alGet ([] : List (κ × α)) k = none := rfl

@[simp] theorem alGet_alSet_self (l : List (κ × α)) (k : κ) (v : α) : alGet (alSet l k v) k = some v := by
  induction l with
  | nil => simp [alSet, alGet]
  | cons p r ih =>
    by_cases h : p.1 = k
    · simp [alSet, alGet, h]
    · simp [alSet, alGet, h, ih]

theorem alGet_alSet_ne (l : List (κ × α)) {k j : κ} (v : α) (h : j ≠ k) : alGet (alSet l k v) j = alGet l j := by
  induction l with
  | nil => simp [alSet, alGet, Ne.symm h]
  | cons p r ih =>
    by_cases e : p.1 = k
    · simp [alSet, alGet, e, Ne.symm h]
    · simp [alSet, alGet, e, ih]

@[simp] theorem alGetD_alSet_self (l : List (κ × α)) (k : κ) (v d : α) : alGetD (alSet l k v) k d = v := by simp [alGetD]

theorem alGetD_alSet_ne (l : List (κ × α)) {k j : κ} (v d : α) (h : j ≠ k) : alGetD (alSet l k v) j d = alGetD l j d := by
  simp [alGetD, alGet_alSet_ne l v h]

@[simp] theorem alGetD_alMod_self (l : List (κ × α)) (k : κ) (d : α) (f : α → α) : alGetD (alMod l k d f) k d = f (alGetD l k d) := by
  simp [alMod]

theorem alGetD_alMod_ne (l : List (κ × α)) {k j : κ} (d : α) (f : α → α) (h : j ≠ k) : alGetD (alMod l k d f) j d = alGetD l j d := by
  simp [alMod, alGetD_alSet_ne l _ d h]

@[simp] theorem alGet_alErase_self (l : List (κ × α)) (k : κ) : alGet (alErase l k) k = none := by
  induction l with
  | nil => rfl
  | cons p r ih =>
    by_cases h : p.1 = k
    · simpa [alErase, h] using ih
    · simpa [alErase, alGet, h] using ih

theorem alGet_alErase_ne (l : List (κ × α)) {k j : κ} (h : j ≠ k) : alGet (alErase l k) j = alGet l j := by
  induction l with
  | nil => rfl
  | cons p r ih =>
    unfold alErase at ih ⊢
    by_cases e : p.1 = k
    · rw [List.filter_cons_of_neg (by simp [e]), ih]
      simp [alGet, e, Ne.symm h]
    · rw [List.filter_cons_of_pos (by simp [e])]
      by_cases q : p.1 = j
      · simp [alGet, q]
      · simp only [alGet, q, if_false, ih]

@[simp] theorem mem_addOnce (l : List κ) (x y : κ) : y ∈ addOnce l x ↔ y ∈ l ∨ y = x := by
  unfold addOnce
  split
  · constructor
    · exact .inl
    · rintro (h | rfl) <;> assumption
  · simp

@[simp] theorem mem_without (l : List κ) (x y : κ) : y ∈ without l x ↔ y ∈ l ∧ y ≠ x := by simp [without]

end Sys2Proof.Machine
end

