-- ==== Sys2Proof/Laws/Memory.lean ====
section
/-! SUPPORT. One byte of a memory written: what is read after, and the canonical form kept; reset's memory has it. -/

namespace Sys2Proof.Machine

/-- A memory whose addresses lie at or above a bound lies above any lower one. -/
theorem memAbove_mono {m : Mem} {lo hi : Nat} (h : lo ≤ hi) (k : memAbove hi m = true) : memAbove lo m = true := by
  cases m with
  | nil => rfl
  | cons p r =>
    simp only [memAbove, Bool.and_eq_true, decide_eq_true_eq] at k ⊢
    exact ⟨⟨Nat.le_trans h k.1.1, k.1.2⟩, k.2⟩

/-- A cell placed where none of its address stands reads back. -/
theorem alGet_memPlace_self {m : Mem} {c : Host.Cell} (h : alGet m c.1 = none) : alGet (memPlace m c) c.1 = some c.2 := by
  induction m with
  | nil => simp [memPlace, alGet]
  | cons p r ih =>
    unfold memPlace
    split
    · simp [alGet]
    · by_cases e : p.1 = c.1
      · simp [alGet, e] at h
      · simp only [alGet, e, if_false] at h ⊢
        exact ih h

/-- Every other address reads as before. -/
theorem alGet_memPlace_ne (m : Mem) {c : Host.Cell} {a : Nat} (h : a ≠ c.1) : alGet (memPlace m c) a = alGet m a := by
  induction m with
  | nil => simp [memPlace, alGet, Ne.symm h]
  | cons p r ih =>
    unfold memPlace
    split
    · simp [alGet, Ne.symm h]
    · simp only [alGet, ih]

/-- The byte written reads back. -/
@[simp] theorem memByte_memPut_self (m : Mem) (a : Nat) (b : Byte) : memByte (memPut m a b) a = b := by
  unfold memByte memPut alGetD
  split
  · simp_all
  · simp [alGet_memPlace_self (c := (a, b)) (alGet_alErase_self m a)]

/-- Every other byte reads as before. -/
theorem memByte_memPut_ne (m : Mem) {a c : Nat} (b : Byte) (h : c ≠ a) : memByte (memPut m a b) c = memByte m c := by
  unfold memByte memPut alGetD
  split
  · rw [alGet_alErase_ne m h]
  · rw [alGet_memPlace_ne _ (c := (a, b)) h, alGet_alErase_ne m h]

/-- A byte erased keeps the canonical form. -/
theorem memAbove_alErase {m : Mem} {lo : Nat} (a : Nat) (k : memAbove lo m = true) : memAbove lo (alErase m a) = true := by
  induction m generalizing lo with
  | nil => rfl
  | cons p r ih =>
    simp only [memAbove, Bool.and_eq_true, decide_eq_true_eq] at k
    unfold alErase at ih ⊢
    by_cases e : p.1 = a
    · rw [List.filter_cons_of_neg (by simp [e])]
      exact ih (memAbove_mono (Nat.le_succ_of_le k.1.1) k.2)
    · rw [List.filter_cons_of_pos (by simp [e])]
      simpa [memAbove, k.1] using ih k.2

/-- A cell placed where none of its address stands keeps the canonical form. -/
theorem memAbove_memPlace {m : Mem} {lo : Nat} {c : Host.Cell} (k : memAbove lo m = true) (h : lo ≤ c.1) (e : c.2 ≠ blankByte)
    (n : alGet m c.1 = none) : memAbove lo (memPlace m c) = true := by
  induction m generalizing lo with
  | nil => simp [memPlace, memAbove, h, e]
  | cons p r ih =>
    simp only [memAbove, Bool.and_eq_true, decide_eq_true_eq] at k
    by_cases z : p.1 = c.1
    · simp [alGet, z] at n
    · simp only [alGet, z, if_false] at n
      unfold memPlace
      split
      · rename_i q
        simp [memAbove, h, e, k, Nat.succ_le_of_lt q]
      · rename_i q
        simp [memAbove, k.1, ih k.2 (by omega) n]

/-- A byte written keeps the canonical form. -/
theorem memAbove_memPut {m : Mem} {lo a : Nat} (b : Byte) (k : memAbove lo m = true) (h : lo ≤ a) : memAbove lo (memPut m a b) = true := by
  unfold memPut
  split
  · exact memAbove_alErase a k
  · rename_i e
    exact memAbove_memPlace (memAbove_alErase a k) h e (alGet_alErase_self m a)

/-- Bytes written keep the canonical form. -/
theorem memAbove_memWrite {m : Mem} (a : Nat) (bs : List Byte) (k : memAbove 0 m = true) : memAbove 0 (memWrite m a bs) = true := by
  induction bs generalizing m a with
  | nil => exact k
  | cons b r ih => exact ih (a + 1) (memAbove_memPut b k (Nat.zero_le a))

/-- The memory after reset has the canonical form. -/
theorem reset_mem_wf : Memory.wf State.reset.mem := rfl

end Sys2Proof.Machine
end

