-- ==== Sys2Proof/Laws/State.lean ====
section
/-! SUPPORT. Every operation that writes one part of the state leaves each other part as it was: one lemma per part, true by
definition, so that no proof unfolds a record update. -/

namespace Sys2Proof.Machine

/-! `setAlm` writes `alm` alone. -/

@[simp] theorem setAlm_fc (s : State) (f : Alm → Alm) : (setAlm s f).fc = s.fc := rfl
@[simp] theorem setAlm_lnk (s : State) (f : Alm → Alm) : (setAlm s f).lnk = s.lnk := rfl
@[simp] theorem setAlm_swc (s : State) (f : Alm → Alm) : (setAlm s f).swc = s.swc := rfl
@[simp] theorem setAlm_sch (s : State) (f : Alm → Alm) : (setAlm s f).sch = s.sch := rfl
@[simp] theorem setAlm_mem (s : State) (f : Alm → Alm) : (setAlm s f).mem = s.mem := rfl
@[simp] theorem setAlm_pool (s : State) (f : Alm → Alm) : (setAlm s f).pool = s.pool := rfl
@[simp] theorem setAlm_coh (s : State) (f : Alm → Alm) : (setAlm s f).coh = s.coh := rfl
@[simp] theorem setAlm_dns (s : State) (f : Alm → Alm) : (setAlm s f).dns = s.dns := rfl
@[simp] theorem setAlm_trw (s : State) (f : Alm → Alm) : (setAlm s f).trw = s.trw := rfl
@[simp] theorem setAlm_til (s : State) (f : Alm → Alm) : (setAlm s f).til = s.til := rfl
@[simp] theorem setAlm_cor (s : State) (f : Alm → Alm) : (setAlm s f).cor = s.cor := rfl
@[simp] theorem setAlm_cfg (s : State) (f : Alm → Alm) : (setAlm s f).cfg = s.cfg := rfl
@[simp] theorem setAlm_nv (s : State) (f : Alm → Alm) : (setAlm s f).nv = s.nv := rfl
@[simp] theorem setAlm_sec (s : State) (f : Alm → Alm) : (setAlm s f).sec = s.sec := rfl
@[simp] theorem setAlm_scr (s : State) (f : Alm → Alm) : (setAlm s f).scr = s.scr := rfl
@[simp] theorem setAlm_ras (s : State) (f : Alm → Alm) : (setAlm s f).ras = s.ras := rfl
@[simp] theorem setAlm_tel (s : State) (f : Alm → Alm) : (setAlm s f).tel = s.tel := rfl
@[simp] theorem setAlm_mgmt (s : State) (f : Alm → Alm) : (setAlm s f).mgmt = s.mgmt := rfl
@[simp] theorem setAlm_pwr (s : State) (f : Alm → Alm) : (setAlm s f).pwr = s.pwr := rfl
@[simp] theorem setAlm_ctr (s : State) (f : Alm → Alm) : (setAlm s f).ctr = s.ctr := rfl
@[simp] theorem setAlm_evt (s : State) (f : Alm → Alm) : (setAlm s f).evt = s.evt := rfl
@[simp] theorem setAlm_out (s : State) (f : Alm → Alm) : (setAlm s f).out = s.out := rfl
@[simp] theorem setAlm_freeCtr (s : State) (f : Alm → Alm) : (setAlm s f).freeCtr = s.freeCtr := rfl
@[simp] theorem setAlm_hooks (s : State) (f : Alm → Alm) : (setAlm s f).hooks = s.hooks := rfl
@[simp] theorem setAlm_shot (s : State) (f : Alm → Alm) : (setAlm s f).shot = s.shot := rfl
@[simp] theorem setAlm_pending (s : State) (f : Alm → Alm) : (setAlm s f).pending = s.pending := rfl

/-! `setFc` writes `fc` alone. -/

@[simp] theorem setFc_alm (s : State) (g : Nat) (f : FcGrp → FcGrp) : (setFc s g f).alm = s.alm := rfl
@[simp] theorem setFc_lnk (s : State) (g : Nat) (f : FcGrp → FcGrp) : (setFc s g f).lnk = s.lnk := rfl
@[simp] theorem setFc_swc (s : State) (g : Nat) (f : FcGrp → FcGrp) : (setFc s g f).swc = s.swc := rfl
@[simp] theorem setFc_sch (s : State) (g : Nat) (f : FcGrp → FcGrp) : (setFc s g f).sch = s.sch := rfl
@[simp] theorem setFc_mem (s : State) (g : Nat) (f : FcGrp → FcGrp) : (setFc s g f).mem = s.mem := rfl
@[simp] theorem setFc_pool (s : State) (g : Nat) (f : FcGrp → FcGrp) : (setFc s g f).pool = s.pool := rfl
@[simp] theorem setFc_coh (s : State) (g : Nat) (f : FcGrp → FcGrp) : (setFc s g f).coh = s.coh := rfl
@[simp] theorem setFc_dns (s : State) (g : Nat) (f : FcGrp → FcGrp) : (setFc s g f).dns = s.dns := rfl
@[simp] theorem setFc_trw (s : State) (g : Nat) (f : FcGrp → FcGrp) : (setFc s g f).trw = s.trw := rfl
@[simp] theorem setFc_til (s : State) (g : Nat) (f : FcGrp → FcGrp) : (setFc s g f).til = s.til := rfl
@[simp] theorem setFc_cor (s : State) (g : Nat) (f : FcGrp → FcGrp) : (setFc s g f).cor = s.cor := rfl
@[simp] theorem setFc_cfg (s : State) (g : Nat) (f : FcGrp → FcGrp) : (setFc s g f).cfg = s.cfg := rfl
@[simp] theorem setFc_nv (s : State) (g : Nat) (f : FcGrp → FcGrp) : (setFc s g f).nv = s.nv := rfl
@[simp] theorem setFc_sec (s : State) (g : Nat) (f : FcGrp → FcGrp) : (setFc s g f).sec = s.sec := rfl
@[simp] theorem setFc_scr (s : State) (g : Nat) (f : FcGrp → FcGrp) : (setFc s g f).scr = s.scr := rfl
@[simp] theorem setFc_ras (s : State) (g : Nat) (f : FcGrp → FcGrp) : (setFc s g f).ras = s.ras := rfl
@[simp] theorem setFc_tel (s : State) (g : Nat) (f : FcGrp → FcGrp) : (setFc s g f).tel = s.tel := rfl
@[simp] theorem setFc_mgmt (s : State) (g : Nat) (f : FcGrp → FcGrp) : (setFc s g f).mgmt = s.mgmt := rfl
@[simp] theorem setFc_pwr (s : State) (g : Nat) (f : FcGrp → FcGrp) : (setFc s g f).pwr = s.pwr := rfl
@[simp] theorem setFc_ctr (s : State) (g : Nat) (f : FcGrp → FcGrp) : (setFc s g f).ctr = s.ctr := rfl
@[simp] theorem setFc_evt (s : State) (g : Nat) (f : FcGrp → FcGrp) : (setFc s g f).evt = s.evt := rfl
@[simp] theorem setFc_out (s : State) (g : Nat) (f : FcGrp → FcGrp) : (setFc s g f).out = s.out := rfl
@[simp] theorem setFc_freeCtr (s : State) (g : Nat) (f : FcGrp → FcGrp) : (setFc s g f).freeCtr = s.freeCtr := rfl
@[simp] theorem setFc_hooks (s : State) (g : Nat) (f : FcGrp → FcGrp) : (setFc s g f).hooks = s.hooks := rfl
@[simp] theorem setFc_shot (s : State) (g : Nat) (f : FcGrp → FcGrp) : (setFc s g f).shot = s.shot := rfl
@[simp] theorem setFc_pending (s : State) (g : Nat) (f : FcGrp → FcGrp) : (setFc s g f).pending = s.pending := rfl

/-! `setQueue` writes `swc` alone. -/

@[simp] theorem setQueue_alm (s : State) (port cls : Nat) (f : Queue → Queue) : (setQueue s port cls f).alm = s.alm := rfl
@[simp] theorem setQueue_fc (s : State) (port cls : Nat) (f : Queue → Queue) : (setQueue s port cls f).fc = s.fc := rfl
@[simp] theorem setQueue_lnk (s : State) (port cls : Nat) (f : Queue → Queue) : (setQueue s port cls f).lnk = s.lnk := rfl
@[simp] theorem setQueue_sch (s : State) (port cls : Nat) (f : Queue → Queue) : (setQueue s port cls f).sch = s.sch := rfl
@[simp] theorem setQueue_mem (s : State) (port cls : Nat) (f : Queue → Queue) : (setQueue s port cls f).mem = s.mem := rfl
@[simp] theorem setQueue_pool (s : State) (port cls : Nat) (f : Queue → Queue) : (setQueue s port cls f).pool = s.pool := rfl
@[simp] theorem setQueue_coh (s : State) (port cls : Nat) (f : Queue → Queue) : (setQueue s port cls f).coh = s.coh := rfl
@[simp] theorem setQueue_dns (s : State) (port cls : Nat) (f : Queue → Queue) : (setQueue s port cls f).dns = s.dns := rfl
@[simp] theorem setQueue_trw (s : State) (port cls : Nat) (f : Queue → Queue) : (setQueue s port cls f).trw = s.trw := rfl
@[simp] theorem setQueue_til (s : State) (port cls : Nat) (f : Queue → Queue) : (setQueue s port cls f).til = s.til := rfl
@[simp] theorem setQueue_cor (s : State) (port cls : Nat) (f : Queue → Queue) : (setQueue s port cls f).cor = s.cor := rfl
@[simp] theorem setQueue_cfg (s : State) (port cls : Nat) (f : Queue → Queue) : (setQueue s port cls f).cfg = s.cfg := rfl
@[simp] theorem setQueue_nv (s : State) (port cls : Nat) (f : Queue → Queue) : (setQueue s port cls f).nv = s.nv := rfl
@[simp] theorem setQueue_sec (s : State) (port cls : Nat) (f : Queue → Queue) : (setQueue s port cls f).sec = s.sec := rfl
@[simp] theorem setQueue_scr (s : State) (port cls : Nat) (f : Queue → Queue) : (setQueue s port cls f).scr = s.scr := rfl
@[simp] theorem setQueue_ras (s : State) (port cls : Nat) (f : Queue → Queue) : (setQueue s port cls f).ras = s.ras := rfl
@[simp] theorem setQueue_tel (s : State) (port cls : Nat) (f : Queue → Queue) : (setQueue s port cls f).tel = s.tel := rfl
@[simp] theorem setQueue_mgmt (s : State) (port cls : Nat) (f : Queue → Queue) : (setQueue s port cls f).mgmt = s.mgmt := rfl
@[simp] theorem setQueue_pwr (s : State) (port cls : Nat) (f : Queue → Queue) : (setQueue s port cls f).pwr = s.pwr := rfl
@[simp] theorem setQueue_ctr (s : State) (port cls : Nat) (f : Queue → Queue) : (setQueue s port cls f).ctr = s.ctr := rfl
@[simp] theorem setQueue_evt (s : State) (port cls : Nat) (f : Queue → Queue) : (setQueue s port cls f).evt = s.evt := rfl
@[simp] theorem setQueue_out (s : State) (port cls : Nat) (f : Queue → Queue) : (setQueue s port cls f).out = s.out := rfl
@[simp] theorem setQueue_freeCtr (s : State) (port cls : Nat) (f : Queue → Queue) : (setQueue s port cls f).freeCtr = s.freeCtr := rfl
@[simp] theorem setQueue_hooks (s : State) (port cls : Nat) (f : Queue → Queue) : (setQueue s port cls f).hooks = s.hooks := rfl
@[simp] theorem setQueue_shot (s : State) (port cls : Nat) (f : Queue → Queue) : (setQueue s port cls f).shot = s.shot := rfl
@[simp] theorem setQueue_pending (s : State) (port cls : Nat) (f : Queue → Queue) : (setQueue s port cls f).pending = s.pending := rfl

/-! `setAccount` writes `swc` alone. -/

@[simp] theorem setAccount_alm (s : State) (port prio : Nat) (f : Account → Account) : (setAccount s port prio f).alm = s.alm := rfl
@[simp] theorem setAccount_fc (s : State) (port prio : Nat) (f : Account → Account) : (setAccount s port prio f).fc = s.fc := rfl
@[simp] theorem setAccount_lnk (s : State) (port prio : Nat) (f : Account → Account) : (setAccount s port prio f).lnk = s.lnk := rfl
@[simp] theorem setAccount_sch (s : State) (port prio : Nat) (f : Account → Account) : (setAccount s port prio f).sch = s.sch := rfl
@[simp] theorem setAccount_mem (s : State) (port prio : Nat) (f : Account → Account) : (setAccount s port prio f).mem = s.mem := rfl
@[simp] theorem setAccount_pool (s : State) (port prio : Nat) (f : Account → Account) : (setAccount s port prio f).pool = s.pool := rfl
@[simp] theorem setAccount_coh (s : State) (port prio : Nat) (f : Account → Account) : (setAccount s port prio f).coh = s.coh := rfl
@[simp] theorem setAccount_dns (s : State) (port prio : Nat) (f : Account → Account) : (setAccount s port prio f).dns = s.dns := rfl
@[simp] theorem setAccount_trw (s : State) (port prio : Nat) (f : Account → Account) : (setAccount s port prio f).trw = s.trw := rfl
@[simp] theorem setAccount_til (s : State) (port prio : Nat) (f : Account → Account) : (setAccount s port prio f).til = s.til := rfl
@[simp] theorem setAccount_cor (s : State) (port prio : Nat) (f : Account → Account) : (setAccount s port prio f).cor = s.cor := rfl
@[simp] theorem setAccount_cfg (s : State) (port prio : Nat) (f : Account → Account) : (setAccount s port prio f).cfg = s.cfg := rfl
@[simp] theorem setAccount_nv (s : State) (port prio : Nat) (f : Account → Account) : (setAccount s port prio f).nv = s.nv := rfl
@[simp] theorem setAccount_sec (s : State) (port prio : Nat) (f : Account → Account) : (setAccount s port prio f).sec = s.sec := rfl
@[simp] theorem setAccount_scr (s : State) (port prio : Nat) (f : Account → Account) : (setAccount s port prio f).scr = s.scr := rfl
@[simp] theorem setAccount_ras (s : State) (port prio : Nat) (f : Account → Account) : (setAccount s port prio f).ras = s.ras := rfl
@[simp] theorem setAccount_tel (s : State) (port prio : Nat) (f : Account → Account) : (setAccount s port prio f).tel = s.tel := rfl
@[simp] theorem setAccount_mgmt (s : State) (port prio : Nat) (f : Account → Account) : (setAccount s port prio f).mgmt = s.mgmt := rfl
@[simp] theorem setAccount_pwr (s : State) (port prio : Nat) (f : Account → Account) : (setAccount s port prio f).pwr = s.pwr := rfl
@[simp] theorem setAccount_ctr (s : State) (port prio : Nat) (f : Account → Account) : (setAccount s port prio f).ctr = s.ctr := rfl
@[simp] theorem setAccount_evt (s : State) (port prio : Nat) (f : Account → Account) : (setAccount s port prio f).evt = s.evt := rfl
@[simp] theorem setAccount_out (s : State) (port prio : Nat) (f : Account → Account) : (setAccount s port prio f).out = s.out := rfl
@[simp] theorem setAccount_freeCtr (s : State) (port prio : Nat) (f : Account → Account) : (setAccount s port prio f).freeCtr = s.freeCtr := rfl
@[simp] theorem setAccount_hooks (s : State) (port prio : Nat) (f : Account → Account) : (setAccount s port prio f).hooks = s.hooks := rfl
@[simp] theorem setAccount_shot (s : State) (port prio : Nat) (f : Account → Account) : (setAccount s port prio f).shot = s.shot := rfl
@[simp] theorem setAccount_pending (s : State) (port prio : Nat) (f : Account → Account) : (setAccount s port prio f).pending = s.pending := rfl

/-! `setBufFrame` writes `swc` alone. -/

@[simp] theorem setBufFrame_alm (s : State) (id : Nat) (f : BufFrame → BufFrame) : (setBufFrame s id f).alm = s.alm := rfl
@[simp] theorem setBufFrame_fc (s : State) (id : Nat) (f : BufFrame → BufFrame) : (setBufFrame s id f).fc = s.fc := rfl
@[simp] theorem setBufFrame_lnk (s : State) (id : Nat) (f : BufFrame → BufFrame) : (setBufFrame s id f).lnk = s.lnk := rfl
@[simp] theorem setBufFrame_sch (s : State) (id : Nat) (f : BufFrame → BufFrame) : (setBufFrame s id f).sch = s.sch := rfl
@[simp] theorem setBufFrame_mem (s : State) (id : Nat) (f : BufFrame → BufFrame) : (setBufFrame s id f).mem = s.mem := rfl
@[simp] theorem setBufFrame_pool (s : State) (id : Nat) (f : BufFrame → BufFrame) : (setBufFrame s id f).pool = s.pool := rfl
@[simp] theorem setBufFrame_coh (s : State) (id : Nat) (f : BufFrame → BufFrame) : (setBufFrame s id f).coh = s.coh := rfl
@[simp] theorem setBufFrame_dns (s : State) (id : Nat) (f : BufFrame → BufFrame) : (setBufFrame s id f).dns = s.dns := rfl
@[simp] theorem setBufFrame_trw (s : State) (id : Nat) (f : BufFrame → BufFrame) : (setBufFrame s id f).trw = s.trw := rfl
@[simp] theorem setBufFrame_til (s : State) (id : Nat) (f : BufFrame → BufFrame) : (setBufFrame s id f).til = s.til := rfl
@[simp] theorem setBufFrame_cor (s : State) (id : Nat) (f : BufFrame → BufFrame) : (setBufFrame s id f).cor = s.cor := rfl
@[simp] theorem setBufFrame_cfg (s : State) (id : Nat) (f : BufFrame → BufFrame) : (setBufFrame s id f).cfg = s.cfg := rfl
@[simp] theorem setBufFrame_nv (s : State) (id : Nat) (f : BufFrame → BufFrame) : (setBufFrame s id f).nv = s.nv := rfl
@[simp] theorem setBufFrame_sec (s : State) (id : Nat) (f : BufFrame → BufFrame) : (setBufFrame s id f).sec = s.sec := rfl
@[simp] theorem setBufFrame_scr (s : State) (id : Nat) (f : BufFrame → BufFrame) : (setBufFrame s id f).scr = s.scr := rfl
@[simp] theorem setBufFrame_ras (s : State) (id : Nat) (f : BufFrame → BufFrame) : (setBufFrame s id f).ras = s.ras := rfl
@[simp] theorem setBufFrame_tel (s : State) (id : Nat) (f : BufFrame → BufFrame) : (setBufFrame s id f).tel = s.tel := rfl
@[simp] theorem setBufFrame_mgmt (s : State) (id : Nat) (f : BufFrame → BufFrame) : (setBufFrame s id f).mgmt = s.mgmt := rfl
@[simp] theorem setBufFrame_pwr (s : State) (id : Nat) (f : BufFrame → BufFrame) : (setBufFrame s id f).pwr = s.pwr := rfl
@[simp] theorem setBufFrame_ctr (s : State) (id : Nat) (f : BufFrame → BufFrame) : (setBufFrame s id f).ctr = s.ctr := rfl
@[simp] theorem setBufFrame_evt (s : State) (id : Nat) (f : BufFrame → BufFrame) : (setBufFrame s id f).evt = s.evt := rfl
@[simp] theorem setBufFrame_out (s : State) (id : Nat) (f : BufFrame → BufFrame) : (setBufFrame s id f).out = s.out := rfl
@[simp] theorem setBufFrame_freeCtr (s : State) (id : Nat) (f : BufFrame → BufFrame) : (setBufFrame s id f).freeCtr = s.freeCtr := rfl
@[simp] theorem setBufFrame_hooks (s : State) (id : Nat) (f : BufFrame → BufFrame) : (setBufFrame s id f).hooks = s.hooks := rfl
@[simp] theorem setBufFrame_shot (s : State) (id : Nat) (f : BufFrame → BufFrame) : (setBufFrame s id f).shot = s.shot := rfl
@[simp] theorem setBufFrame_pending (s : State) (id : Nat) (f : BufFrame → BufFrame) : (setBufFrame s id f).pending = s.pending := rfl

/-! `setPause` writes `swc` alone. -/

@[simp] theorem setPause_alm (s : State) (port prio : Nat) (f : Pause → Pause) : (setPause s port prio f).alm = s.alm := rfl
@[simp] theorem setPause_fc (s : State) (port prio : Nat) (f : Pause → Pause) : (setPause s port prio f).fc = s.fc := rfl
@[simp] theorem setPause_lnk (s : State) (port prio : Nat) (f : Pause → Pause) : (setPause s port prio f).lnk = s.lnk := rfl
@[simp] theorem setPause_sch (s : State) (port prio : Nat) (f : Pause → Pause) : (setPause s port prio f).sch = s.sch := rfl
@[simp] theorem setPause_mem (s : State) (port prio : Nat) (f : Pause → Pause) : (setPause s port prio f).mem = s.mem := rfl
@[simp] theorem setPause_pool (s : State) (port prio : Nat) (f : Pause → Pause) : (setPause s port prio f).pool = s.pool := rfl
@[simp] theorem setPause_coh (s : State) (port prio : Nat) (f : Pause → Pause) : (setPause s port prio f).coh = s.coh := rfl
@[simp] theorem setPause_dns (s : State) (port prio : Nat) (f : Pause → Pause) : (setPause s port prio f).dns = s.dns := rfl
@[simp] theorem setPause_trw (s : State) (port prio : Nat) (f : Pause → Pause) : (setPause s port prio f).trw = s.trw := rfl
@[simp] theorem setPause_til (s : State) (port prio : Nat) (f : Pause → Pause) : (setPause s port prio f).til = s.til := rfl
@[simp] theorem setPause_cor (s : State) (port prio : Nat) (f : Pause → Pause) : (setPause s port prio f).cor = s.cor := rfl
@[simp] theorem setPause_cfg (s : State) (port prio : Nat) (f : Pause → Pause) : (setPause s port prio f).cfg = s.cfg := rfl
@[simp] theorem setPause_nv (s : State) (port prio : Nat) (f : Pause → Pause) : (setPause s port prio f).nv = s.nv := rfl
@[simp] theorem setPause_sec (s : State) (port prio : Nat) (f : Pause → Pause) : (setPause s port prio f).sec = s.sec := rfl
@[simp] theorem setPause_scr (s : State) (port prio : Nat) (f : Pause → Pause) : (setPause s port prio f).scr = s.scr := rfl
@[simp] theorem setPause_ras (s : State) (port prio : Nat) (f : Pause → Pause) : (setPause s port prio f).ras = s.ras := rfl
@[simp] theorem setPause_tel (s : State) (port prio : Nat) (f : Pause → Pause) : (setPause s port prio f).tel = s.tel := rfl
@[simp] theorem setPause_mgmt (s : State) (port prio : Nat) (f : Pause → Pause) : (setPause s port prio f).mgmt = s.mgmt := rfl
@[simp] theorem setPause_pwr (s : State) (port prio : Nat) (f : Pause → Pause) : (setPause s port prio f).pwr = s.pwr := rfl
@[simp] theorem setPause_ctr (s : State) (port prio : Nat) (f : Pause → Pause) : (setPause s port prio f).ctr = s.ctr := rfl
@[simp] theorem setPause_evt (s : State) (port prio : Nat) (f : Pause → Pause) : (setPause s port prio f).evt = s.evt := rfl
@[simp] theorem setPause_out (s : State) (port prio : Nat) (f : Pause → Pause) : (setPause s port prio f).out = s.out := rfl
@[simp] theorem setPause_freeCtr (s : State) (port prio : Nat) (f : Pause → Pause) : (setPause s port prio f).freeCtr = s.freeCtr := rfl
@[simp] theorem setPause_hooks (s : State) (port prio : Nat) (f : Pause → Pause) : (setPause s port prio f).hooks = s.hooks := rfl
@[simp] theorem setPause_shot (s : State) (port prio : Nat) (f : Pause → Pause) : (setPause s port prio f).shot = s.shot := rfl
@[simp] theorem setPause_pending (s : State) (port prio : Nat) (f : Pause → Pause) : (setPause s port prio f).pending = s.pending := rfl

/-! `setChain` writes `nv` alone. -/

@[simp] theorem setChain_alm (s : State) (i : Nat) (f : Chain → Chain) : (setChain s i f).alm = s.alm := rfl
@[simp] theorem setChain_fc (s : State) (i : Nat) (f : Chain → Chain) : (setChain s i f).fc = s.fc := rfl
@[simp] theorem setChain_lnk (s : State) (i : Nat) (f : Chain → Chain) : (setChain s i f).lnk = s.lnk := rfl
@[simp] theorem setChain_swc (s : State) (i : Nat) (f : Chain → Chain) : (setChain s i f).swc = s.swc := rfl
@[simp] theorem setChain_sch (s : State) (i : Nat) (f : Chain → Chain) : (setChain s i f).sch = s.sch := rfl
@[simp] theorem setChain_mem (s : State) (i : Nat) (f : Chain → Chain) : (setChain s i f).mem = s.mem := rfl
@[simp] theorem setChain_pool (s : State) (i : Nat) (f : Chain → Chain) : (setChain s i f).pool = s.pool := rfl
@[simp] theorem setChain_coh (s : State) (i : Nat) (f : Chain → Chain) : (setChain s i f).coh = s.coh := rfl
@[simp] theorem setChain_dns (s : State) (i : Nat) (f : Chain → Chain) : (setChain s i f).dns = s.dns := rfl
@[simp] theorem setChain_trw (s : State) (i : Nat) (f : Chain → Chain) : (setChain s i f).trw = s.trw := rfl
@[simp] theorem setChain_til (s : State) (i : Nat) (f : Chain → Chain) : (setChain s i f).til = s.til := rfl
@[simp] theorem setChain_cor (s : State) (i : Nat) (f : Chain → Chain) : (setChain s i f).cor = s.cor := rfl
@[simp] theorem setChain_cfg (s : State) (i : Nat) (f : Chain → Chain) : (setChain s i f).cfg = s.cfg := rfl
@[simp] theorem setChain_sec (s : State) (i : Nat) (f : Chain → Chain) : (setChain s i f).sec = s.sec := rfl
@[simp] theorem setChain_scr (s : State) (i : Nat) (f : Chain → Chain) : (setChain s i f).scr = s.scr := rfl
@[simp] theorem setChain_ras (s : State) (i : Nat) (f : Chain → Chain) : (setChain s i f).ras = s.ras := rfl
@[simp] theorem setChain_tel (s : State) (i : Nat) (f : Chain → Chain) : (setChain s i f).tel = s.tel := rfl
@[simp] theorem setChain_mgmt (s : State) (i : Nat) (f : Chain → Chain) : (setChain s i f).mgmt = s.mgmt := rfl
@[simp] theorem setChain_pwr (s : State) (i : Nat) (f : Chain → Chain) : (setChain s i f).pwr = s.pwr := rfl
@[simp] theorem setChain_ctr (s : State) (i : Nat) (f : Chain → Chain) : (setChain s i f).ctr = s.ctr := rfl
@[simp] theorem setChain_evt (s : State) (i : Nat) (f : Chain → Chain) : (setChain s i f).evt = s.evt := rfl
@[simp] theorem setChain_out (s : State) (i : Nat) (f : Chain → Chain) : (setChain s i f).out = s.out := rfl
@[simp] theorem setChain_freeCtr (s : State) (i : Nat) (f : Chain → Chain) : (setChain s i f).freeCtr = s.freeCtr := rfl
@[simp] theorem setChain_hooks (s : State) (i : Nat) (f : Chain → Chain) : (setChain s i f).hooks = s.hooks := rfl
@[simp] theorem setChain_shot (s : State) (i : Nat) (f : Chain → Chain) : (setChain s i f).shot = s.shot := rfl
@[simp] theorem setChain_pending (s : State) (i : Nat) (f : Chain → Chain) : (setChain s i f).pending = s.pending := rfl

/-! `setCfg` writes `cfg` alone. -/

@[simp] theorem setCfg_alm (s : State) (f : Cfg → Cfg) : (setCfg s f).alm = s.alm := rfl
@[simp] theorem setCfg_fc (s : State) (f : Cfg → Cfg) : (setCfg s f).fc = s.fc := rfl
@[simp] theorem setCfg_lnk (s : State) (f : Cfg → Cfg) : (setCfg s f).lnk = s.lnk := rfl
@[simp] theorem setCfg_swc (s : State) (f : Cfg → Cfg) : (setCfg s f).swc = s.swc := rfl
@[simp] theorem setCfg_sch (s : State) (f : Cfg → Cfg) : (setCfg s f).sch = s.sch := rfl
@[simp] theorem setCfg_mem (s : State) (f : Cfg → Cfg) : (setCfg s f).mem = s.mem := rfl
@[simp] theorem setCfg_pool (s : State) (f : Cfg → Cfg) : (setCfg s f).pool = s.pool := rfl
@[simp] theorem setCfg_coh (s : State) (f : Cfg → Cfg) : (setCfg s f).coh = s.coh := rfl
@[simp] theorem setCfg_dns (s : State) (f : Cfg → Cfg) : (setCfg s f).dns = s.dns := rfl
@[simp] theorem setCfg_trw (s : State) (f : Cfg → Cfg) : (setCfg s f).trw = s.trw := rfl
@[simp] theorem setCfg_til (s : State) (f : Cfg → Cfg) : (setCfg s f).til = s.til := rfl
@[simp] theorem setCfg_cor (s : State) (f : Cfg → Cfg) : (setCfg s f).cor = s.cor := rfl
@[simp] theorem setCfg_nv (s : State) (f : Cfg → Cfg) : (setCfg s f).nv = s.nv := rfl
@[simp] theorem setCfg_sec (s : State) (f : Cfg → Cfg) : (setCfg s f).sec = s.sec := rfl
@[simp] theorem setCfg_scr (s : State) (f : Cfg → Cfg) : (setCfg s f).scr = s.scr := rfl
@[simp] theorem setCfg_ras (s : State) (f : Cfg → Cfg) : (setCfg s f).ras = s.ras := rfl
@[simp] theorem setCfg_tel (s : State) (f : Cfg → Cfg) : (setCfg s f).tel = s.tel := rfl
@[simp] theorem setCfg_mgmt (s : State) (f : Cfg → Cfg) : (setCfg s f).mgmt = s.mgmt := rfl
@[simp] theorem setCfg_pwr (s : State) (f : Cfg → Cfg) : (setCfg s f).pwr = s.pwr := rfl
@[simp] theorem setCfg_ctr (s : State) (f : Cfg → Cfg) : (setCfg s f).ctr = s.ctr := rfl
@[simp] theorem setCfg_evt (s : State) (f : Cfg → Cfg) : (setCfg s f).evt = s.evt := rfl
@[simp] theorem setCfg_out (s : State) (f : Cfg → Cfg) : (setCfg s f).out = s.out := rfl
@[simp] theorem setCfg_freeCtr (s : State) (f : Cfg → Cfg) : (setCfg s f).freeCtr = s.freeCtr := rfl
@[simp] theorem setCfg_hooks (s : State) (f : Cfg → Cfg) : (setCfg s f).hooks = s.hooks := rfl
@[simp] theorem setCfg_shot (s : State) (f : Cfg → Cfg) : (setCfg s f).shot = s.shot := rfl
@[simp] theorem setCfg_pending (s : State) (f : Cfg → Cfg) : (setCfg s f).pending = s.pending := rfl

/-! `setSlot` writes `coh` alone. -/

@[simp] theorem setSlot_alm (s : State) (i : Nat) (f : Slot → Slot) : (setSlot s i f).alm = s.alm := rfl
@[simp] theorem setSlot_fc (s : State) (i : Nat) (f : Slot → Slot) : (setSlot s i f).fc = s.fc := rfl
@[simp] theorem setSlot_lnk (s : State) (i : Nat) (f : Slot → Slot) : (setSlot s i f).lnk = s.lnk := rfl
@[simp] theorem setSlot_swc (s : State) (i : Nat) (f : Slot → Slot) : (setSlot s i f).swc = s.swc := rfl
@[simp] theorem setSlot_sch (s : State) (i : Nat) (f : Slot → Slot) : (setSlot s i f).sch = s.sch := rfl
@[simp] theorem setSlot_mem (s : State) (i : Nat) (f : Slot → Slot) : (setSlot s i f).mem = s.mem := rfl
@[simp] theorem setSlot_pool (s : State) (i : Nat) (f : Slot → Slot) : (setSlot s i f).pool = s.pool := rfl
@[simp] theorem setSlot_dns (s : State) (i : Nat) (f : Slot → Slot) : (setSlot s i f).dns = s.dns := rfl
@[simp] theorem setSlot_trw (s : State) (i : Nat) (f : Slot → Slot) : (setSlot s i f).trw = s.trw := rfl
@[simp] theorem setSlot_til (s : State) (i : Nat) (f : Slot → Slot) : (setSlot s i f).til = s.til := rfl
@[simp] theorem setSlot_cor (s : State) (i : Nat) (f : Slot → Slot) : (setSlot s i f).cor = s.cor := rfl
@[simp] theorem setSlot_cfg (s : State) (i : Nat) (f : Slot → Slot) : (setSlot s i f).cfg = s.cfg := rfl
@[simp] theorem setSlot_nv (s : State) (i : Nat) (f : Slot → Slot) : (setSlot s i f).nv = s.nv := rfl
@[simp] theorem setSlot_sec (s : State) (i : Nat) (f : Slot → Slot) : (setSlot s i f).sec = s.sec := rfl
@[simp] theorem setSlot_scr (s : State) (i : Nat) (f : Slot → Slot) : (setSlot s i f).scr = s.scr := rfl
@[simp] theorem setSlot_ras (s : State) (i : Nat) (f : Slot → Slot) : (setSlot s i f).ras = s.ras := rfl
@[simp] theorem setSlot_tel (s : State) (i : Nat) (f : Slot → Slot) : (setSlot s i f).tel = s.tel := rfl
@[simp] theorem setSlot_mgmt (s : State) (i : Nat) (f : Slot → Slot) : (setSlot s i f).mgmt = s.mgmt := rfl
@[simp] theorem setSlot_pwr (s : State) (i : Nat) (f : Slot → Slot) : (setSlot s i f).pwr = s.pwr := rfl
@[simp] theorem setSlot_ctr (s : State) (i : Nat) (f : Slot → Slot) : (setSlot s i f).ctr = s.ctr := rfl
@[simp] theorem setSlot_evt (s : State) (i : Nat) (f : Slot → Slot) : (setSlot s i f).evt = s.evt := rfl
@[simp] theorem setSlot_out (s : State) (i : Nat) (f : Slot → Slot) : (setSlot s i f).out = s.out := rfl
@[simp] theorem setSlot_freeCtr (s : State) (i : Nat) (f : Slot → Slot) : (setSlot s i f).freeCtr = s.freeCtr := rfl
@[simp] theorem setSlot_hooks (s : State) (i : Nat) (f : Slot → Slot) : (setSlot s i f).hooks = s.hooks := rfl
@[simp] theorem setSlot_shot (s : State) (i : Nat) (f : Slot → Slot) : (setSlot s i f).shot = s.shot := rfl
@[simp] theorem setSlot_pending (s : State) (i : Nat) (f : Slot → Slot) : (setSlot s i f).pending = s.pending := rfl

/-! `setWin` writes `pool` alone. -/

@[simp] theorem setWin_alm (s : State) (w : Nat) (f : WinSt → WinSt) : (setWin s w f).alm = s.alm := rfl
@[simp] theorem setWin_fc (s : State) (w : Nat) (f : WinSt → WinSt) : (setWin s w f).fc = s.fc := rfl
@[simp] theorem setWin_lnk (s : State) (w : Nat) (f : WinSt → WinSt) : (setWin s w f).lnk = s.lnk := rfl
@[simp] theorem setWin_swc (s : State) (w : Nat) (f : WinSt → WinSt) : (setWin s w f).swc = s.swc := rfl
@[simp] theorem setWin_sch (s : State) (w : Nat) (f : WinSt → WinSt) : (setWin s w f).sch = s.sch := rfl
@[simp] theorem setWin_mem (s : State) (w : Nat) (f : WinSt → WinSt) : (setWin s w f).mem = s.mem := rfl
@[simp] theorem setWin_coh (s : State) (w : Nat) (f : WinSt → WinSt) : (setWin s w f).coh = s.coh := rfl
@[simp] theorem setWin_dns (s : State) (w : Nat) (f : WinSt → WinSt) : (setWin s w f).dns = s.dns := rfl
@[simp] theorem setWin_trw (s : State) (w : Nat) (f : WinSt → WinSt) : (setWin s w f).trw = s.trw := rfl
@[simp] theorem setWin_til (s : State) (w : Nat) (f : WinSt → WinSt) : (setWin s w f).til = s.til := rfl
@[simp] theorem setWin_cor (s : State) (w : Nat) (f : WinSt → WinSt) : (setWin s w f).cor = s.cor := rfl
@[simp] theorem setWin_cfg (s : State) (w : Nat) (f : WinSt → WinSt) : (setWin s w f).cfg = s.cfg := rfl
@[simp] theorem setWin_nv (s : State) (w : Nat) (f : WinSt → WinSt) : (setWin s w f).nv = s.nv := rfl
@[simp] theorem setWin_sec (s : State) (w : Nat) (f : WinSt → WinSt) : (setWin s w f).sec = s.sec := rfl
@[simp] theorem setWin_scr (s : State) (w : Nat) (f : WinSt → WinSt) : (setWin s w f).scr = s.scr := rfl
@[simp] theorem setWin_ras (s : State) (w : Nat) (f : WinSt → WinSt) : (setWin s w f).ras = s.ras := rfl
@[simp] theorem setWin_tel (s : State) (w : Nat) (f : WinSt → WinSt) : (setWin s w f).tel = s.tel := rfl
@[simp] theorem setWin_mgmt (s : State) (w : Nat) (f : WinSt → WinSt) : (setWin s w f).mgmt = s.mgmt := rfl
@[simp] theorem setWin_pwr (s : State) (w : Nat) (f : WinSt → WinSt) : (setWin s w f).pwr = s.pwr := rfl
@[simp] theorem setWin_ctr (s : State) (w : Nat) (f : WinSt → WinSt) : (setWin s w f).ctr = s.ctr := rfl
@[simp] theorem setWin_evt (s : State) (w : Nat) (f : WinSt → WinSt) : (setWin s w f).evt = s.evt := rfl
@[simp] theorem setWin_out (s : State) (w : Nat) (f : WinSt → WinSt) : (setWin s w f).out = s.out := rfl
@[simp] theorem setWin_freeCtr (s : State) (w : Nat) (f : WinSt → WinSt) : (setWin s w f).freeCtr = s.freeCtr := rfl
@[simp] theorem setWin_hooks (s : State) (w : Nat) (f : WinSt → WinSt) : (setWin s w f).hooks = s.hooks := rfl
@[simp] theorem setWin_shot (s : State) (w : Nat) (f : WinSt → WinSt) : (setWin s w f).shot = s.shot := rfl
@[simp] theorem setWin_pending (s : State) (w : Nat) (f : WinSt → WinSt) : (setWin s w f).pending = s.pending := rfl

/-! `setRes` writes `cor` alone. -/

@[simp] theorem setRes_alm (s : State) (slot : Nat) (f : Res → Res) : (setRes s slot f).alm = s.alm := rfl
@[simp] theorem setRes_fc (s : State) (slot : Nat) (f : Res → Res) : (setRes s slot f).fc = s.fc := rfl
@[simp] theorem setRes_lnk (s : State) (slot : Nat) (f : Res → Res) : (setRes s slot f).lnk = s.lnk := rfl
@[simp] theorem setRes_swc (s : State) (slot : Nat) (f : Res → Res) : (setRes s slot f).swc = s.swc := rfl
@[simp] theorem setRes_sch (s : State) (slot : Nat) (f : Res → Res) : (setRes s slot f).sch = s.sch := rfl
@[simp] theorem setRes_mem (s : State) (slot : Nat) (f : Res → Res) : (setRes s slot f).mem = s.mem := rfl
@[simp] theorem setRes_pool (s : State) (slot : Nat) (f : Res → Res) : (setRes s slot f).pool = s.pool := rfl
@[simp] theorem setRes_coh (s : State) (slot : Nat) (f : Res → Res) : (setRes s slot f).coh = s.coh := rfl
@[simp] theorem setRes_dns (s : State) (slot : Nat) (f : Res → Res) : (setRes s slot f).dns = s.dns := rfl
@[simp] theorem setRes_trw (s : State) (slot : Nat) (f : Res → Res) : (setRes s slot f).trw = s.trw := rfl
@[simp] theorem setRes_til (s : State) (slot : Nat) (f : Res → Res) : (setRes s slot f).til = s.til := rfl
@[simp] theorem setRes_cfg (s : State) (slot : Nat) (f : Res → Res) : (setRes s slot f).cfg = s.cfg := rfl
@[simp] theorem setRes_nv (s : State) (slot : Nat) (f : Res → Res) : (setRes s slot f).nv = s.nv := rfl
@[simp] theorem setRes_sec (s : State) (slot : Nat) (f : Res → Res) : (setRes s slot f).sec = s.sec := rfl
@[simp] theorem setRes_scr (s : State) (slot : Nat) (f : Res → Res) : (setRes s slot f).scr = s.scr := rfl
@[simp] theorem setRes_ras (s : State) (slot : Nat) (f : Res → Res) : (setRes s slot f).ras = s.ras := rfl
@[simp] theorem setRes_tel (s : State) (slot : Nat) (f : Res → Res) : (setRes s slot f).tel = s.tel := rfl
@[simp] theorem setRes_mgmt (s : State) (slot : Nat) (f : Res → Res) : (setRes s slot f).mgmt = s.mgmt := rfl
@[simp] theorem setRes_pwr (s : State) (slot : Nat) (f : Res → Res) : (setRes s slot f).pwr = s.pwr := rfl
@[simp] theorem setRes_ctr (s : State) (slot : Nat) (f : Res → Res) : (setRes s slot f).ctr = s.ctr := rfl
@[simp] theorem setRes_evt (s : State) (slot : Nat) (f : Res → Res) : (setRes s slot f).evt = s.evt := rfl
@[simp] theorem setRes_out (s : State) (slot : Nat) (f : Res → Res) : (setRes s slot f).out = s.out := rfl
@[simp] theorem setRes_freeCtr (s : State) (slot : Nat) (f : Res → Res) : (setRes s slot f).freeCtr = s.freeCtr := rfl
@[simp] theorem setRes_hooks (s : State) (slot : Nat) (f : Res → Res) : (setRes s slot f).hooks = s.hooks := rfl
@[simp] theorem setRes_shot (s : State) (slot : Nat) (f : Res → Res) : (setRes s slot f).shot = s.shot := rfl
@[simp] theorem setRes_pending (s : State) (slot : Nat) (f : Res → Res) : (setRes s slot f).pending = s.pending := rfl

/-! `setDTray` writes `dns` alone. -/

@[simp] theorem setDTray_alm (s : State) (i : Nat) (f : DTray → DTray) : (setDTray s i f).alm = s.alm := rfl
@[simp] theorem setDTray_fc (s : State) (i : Nat) (f : DTray → DTray) : (setDTray s i f).fc = s.fc := rfl
@[simp] theorem setDTray_lnk (s : State) (i : Nat) (f : DTray → DTray) : (setDTray s i f).lnk = s.lnk := rfl
@[simp] theorem setDTray_swc (s : State) (i : Nat) (f : DTray → DTray) : (setDTray s i f).swc = s.swc := rfl
@[simp] theorem setDTray_sch (s : State) (i : Nat) (f : DTray → DTray) : (setDTray s i f).sch = s.sch := rfl
@[simp] theorem setDTray_mem (s : State) (i : Nat) (f : DTray → DTray) : (setDTray s i f).mem = s.mem := rfl
@[simp] theorem setDTray_pool (s : State) (i : Nat) (f : DTray → DTray) : (setDTray s i f).pool = s.pool := rfl
@[simp] theorem setDTray_coh (s : State) (i : Nat) (f : DTray → DTray) : (setDTray s i f).coh = s.coh := rfl
@[simp] theorem setDTray_trw (s : State) (i : Nat) (f : DTray → DTray) : (setDTray s i f).trw = s.trw := rfl
@[simp] theorem setDTray_til (s : State) (i : Nat) (f : DTray → DTray) : (setDTray s i f).til = s.til := rfl
@[simp] theorem setDTray_cor (s : State) (i : Nat) (f : DTray → DTray) : (setDTray s i f).cor = s.cor := rfl
@[simp] theorem setDTray_cfg (s : State) (i : Nat) (f : DTray → DTray) : (setDTray s i f).cfg = s.cfg := rfl
@[simp] theorem setDTray_nv (s : State) (i : Nat) (f : DTray → DTray) : (setDTray s i f).nv = s.nv := rfl
@[simp] theorem setDTray_sec (s : State) (i : Nat) (f : DTray → DTray) : (setDTray s i f).sec = s.sec := rfl
@[simp] theorem setDTray_scr (s : State) (i : Nat) (f : DTray → DTray) : (setDTray s i f).scr = s.scr := rfl
@[simp] theorem setDTray_ras (s : State) (i : Nat) (f : DTray → DTray) : (setDTray s i f).ras = s.ras := rfl
@[simp] theorem setDTray_tel (s : State) (i : Nat) (f : DTray → DTray) : (setDTray s i f).tel = s.tel := rfl
@[simp] theorem setDTray_mgmt (s : State) (i : Nat) (f : DTray → DTray) : (setDTray s i f).mgmt = s.mgmt := rfl
@[simp] theorem setDTray_pwr (s : State) (i : Nat) (f : DTray → DTray) : (setDTray s i f).pwr = s.pwr := rfl
@[simp] theorem setDTray_ctr (s : State) (i : Nat) (f : DTray → DTray) : (setDTray s i f).ctr = s.ctr := rfl
@[simp] theorem setDTray_evt (s : State) (i : Nat) (f : DTray → DTray) : (setDTray s i f).evt = s.evt := rfl
@[simp] theorem setDTray_out (s : State) (i : Nat) (f : DTray → DTray) : (setDTray s i f).out = s.out := rfl
@[simp] theorem setDTray_freeCtr (s : State) (i : Nat) (f : DTray → DTray) : (setDTray s i f).freeCtr = s.freeCtr := rfl
@[simp] theorem setDTray_hooks (s : State) (i : Nat) (f : DTray → DTray) : (setDTray s i f).hooks = s.hooks := rfl
@[simp] theorem setDTray_shot (s : State) (i : Nat) (f : DTray → DTray) : (setDTray s i f).shot = s.shot := rfl
@[simp] theorem setDTray_pending (s : State) (i : Nat) (f : DTray → DTray) : (setDTray s i f).pending = s.pending := rfl

/-! `setJob` writes `dns` alone. -/

@[simp] theorem setJob_alm (s : State) (j : Nat) (m : Media) : (setJob s j m).alm = s.alm := rfl
@[simp] theorem setJob_fc (s : State) (j : Nat) (m : Media) : (setJob s j m).fc = s.fc := rfl
@[simp] theorem setJob_lnk (s : State) (j : Nat) (m : Media) : (setJob s j m).lnk = s.lnk := rfl
@[simp] theorem setJob_swc (s : State) (j : Nat) (m : Media) : (setJob s j m).swc = s.swc := rfl
@[simp] theorem setJob_sch (s : State) (j : Nat) (m : Media) : (setJob s j m).sch = s.sch := rfl
@[simp] theorem setJob_mem (s : State) (j : Nat) (m : Media) : (setJob s j m).mem = s.mem := rfl
@[simp] theorem setJob_pool (s : State) (j : Nat) (m : Media) : (setJob s j m).pool = s.pool := rfl
@[simp] theorem setJob_coh (s : State) (j : Nat) (m : Media) : (setJob s j m).coh = s.coh := rfl
@[simp] theorem setJob_trw (s : State) (j : Nat) (m : Media) : (setJob s j m).trw = s.trw := rfl
@[simp] theorem setJob_til (s : State) (j : Nat) (m : Media) : (setJob s j m).til = s.til := rfl
@[simp] theorem setJob_cor (s : State) (j : Nat) (m : Media) : (setJob s j m).cor = s.cor := rfl
@[simp] theorem setJob_cfg (s : State) (j : Nat) (m : Media) : (setJob s j m).cfg = s.cfg := rfl
@[simp] theorem setJob_nv (s : State) (j : Nat) (m : Media) : (setJob s j m).nv = s.nv := rfl
@[simp] theorem setJob_sec (s : State) (j : Nat) (m : Media) : (setJob s j m).sec = s.sec := rfl
@[simp] theorem setJob_scr (s : State) (j : Nat) (m : Media) : (setJob s j m).scr = s.scr := rfl
@[simp] theorem setJob_ras (s : State) (j : Nat) (m : Media) : (setJob s j m).ras = s.ras := rfl
@[simp] theorem setJob_tel (s : State) (j : Nat) (m : Media) : (setJob s j m).tel = s.tel := rfl
@[simp] theorem setJob_mgmt (s : State) (j : Nat) (m : Media) : (setJob s j m).mgmt = s.mgmt := rfl
@[simp] theorem setJob_pwr (s : State) (j : Nat) (m : Media) : (setJob s j m).pwr = s.pwr := rfl
@[simp] theorem setJob_ctr (s : State) (j : Nat) (m : Media) : (setJob s j m).ctr = s.ctr := rfl
@[simp] theorem setJob_evt (s : State) (j : Nat) (m : Media) : (setJob s j m).evt = s.evt := rfl
@[simp] theorem setJob_out (s : State) (j : Nat) (m : Media) : (setJob s j m).out = s.out := rfl
@[simp] theorem setJob_freeCtr (s : State) (j : Nat) (m : Media) : (setJob s j m).freeCtr = s.freeCtr := rfl
@[simp] theorem setJob_hooks (s : State) (j : Nat) (m : Media) : (setJob s j m).hooks = s.hooks := rfl
@[simp] theorem setJob_shot (s : State) (j : Nat) (m : Media) : (setJob s j m).shot = s.shot := rfl
@[simp] theorem setJob_pending (s : State) (j : Nat) (m : Media) : (setJob s j m).pending = s.pending := rfl

/-! `dropJob` writes `dns` alone. -/

@[simp] theorem dropJob_alm (s : State) (j : Nat) : (dropJob s j).alm = s.alm := rfl
@[simp] theorem dropJob_fc (s : State) (j : Nat) : (dropJob s j).fc = s.fc := rfl
@[simp] theorem dropJob_lnk (s : State) (j : Nat) : (dropJob s j).lnk = s.lnk := rfl
@[simp] theorem dropJob_swc (s : State) (j : Nat) : (dropJob s j).swc = s.swc := rfl
@[simp] theorem dropJob_sch (s : State) (j : Nat) : (dropJob s j).sch = s.sch := rfl
@[simp] theorem dropJob_mem (s : State) (j : Nat) : (dropJob s j).mem = s.mem := rfl
@[simp] theorem dropJob_pool (s : State) (j : Nat) : (dropJob s j).pool = s.pool := rfl
@[simp] theorem dropJob_coh (s : State) (j : Nat) : (dropJob s j).coh = s.coh := rfl
@[simp] theorem dropJob_trw (s : State) (j : Nat) : (dropJob s j).trw = s.trw := rfl
@[simp] theorem dropJob_til (s : State) (j : Nat) : (dropJob s j).til = s.til := rfl
@[simp] theorem dropJob_cor (s : State) (j : Nat) : (dropJob s j).cor = s.cor := rfl
@[simp] theorem dropJob_cfg (s : State) (j : Nat) : (dropJob s j).cfg = s.cfg := rfl
@[simp] theorem dropJob_nv (s : State) (j : Nat) : (dropJob s j).nv = s.nv := rfl
@[simp] theorem dropJob_sec (s : State) (j : Nat) : (dropJob s j).sec = s.sec := rfl
@[simp] theorem dropJob_scr (s : State) (j : Nat) : (dropJob s j).scr = s.scr := rfl
@[simp] theorem dropJob_ras (s : State) (j : Nat) : (dropJob s j).ras = s.ras := rfl
@[simp] theorem dropJob_tel (s : State) (j : Nat) : (dropJob s j).tel = s.tel := rfl
@[simp] theorem dropJob_mgmt (s : State) (j : Nat) : (dropJob s j).mgmt = s.mgmt := rfl
@[simp] theorem dropJob_pwr (s : State) (j : Nat) : (dropJob s j).pwr = s.pwr := rfl
@[simp] theorem dropJob_ctr (s : State) (j : Nat) : (dropJob s j).ctr = s.ctr := rfl
@[simp] theorem dropJob_evt (s : State) (j : Nat) : (dropJob s j).evt = s.evt := rfl
@[simp] theorem dropJob_out (s : State) (j : Nat) : (dropJob s j).out = s.out := rfl
@[simp] theorem dropJob_freeCtr (s : State) (j : Nat) : (dropJob s j).freeCtr = s.freeCtr := rfl
@[simp] theorem dropJob_hooks (s : State) (j : Nat) : (dropJob s j).hooks = s.hooks := rfl
@[simp] theorem dropJob_shot (s : State) (j : Nat) : (dropJob s j).shot = s.shot := rfl
@[simp] theorem dropJob_pending (s : State) (j : Nat) : (dropJob s j).pending = s.pending := rfl

/-! `setStripe` writes `dns` alone. -/

@[simp] theorem setStripe_alm (s : State) (i : Nat) (x : Stripe) : (setStripe s i x).alm = s.alm := rfl
@[simp] theorem setStripe_fc (s : State) (i : Nat) (x : Stripe) : (setStripe s i x).fc = s.fc := rfl
@[simp] theorem setStripe_lnk (s : State) (i : Nat) (x : Stripe) : (setStripe s i x).lnk = s.lnk := rfl
@[simp] theorem setStripe_swc (s : State) (i : Nat) (x : Stripe) : (setStripe s i x).swc = s.swc := rfl
@[simp] theorem setStripe_sch (s : State) (i : Nat) (x : Stripe) : (setStripe s i x).sch = s.sch := rfl
@[simp] theorem setStripe_mem (s : State) (i : Nat) (x : Stripe) : (setStripe s i x).mem = s.mem := rfl
@[simp] theorem setStripe_pool (s : State) (i : Nat) (x : Stripe) : (setStripe s i x).pool = s.pool := rfl
@[simp] theorem setStripe_coh (s : State) (i : Nat) (x : Stripe) : (setStripe s i x).coh = s.coh := rfl
@[simp] theorem setStripe_trw (s : State) (i : Nat) (x : Stripe) : (setStripe s i x).trw = s.trw := rfl
@[simp] theorem setStripe_til (s : State) (i : Nat) (x : Stripe) : (setStripe s i x).til = s.til := rfl
@[simp] theorem setStripe_cor (s : State) (i : Nat) (x : Stripe) : (setStripe s i x).cor = s.cor := rfl
@[simp] theorem setStripe_cfg (s : State) (i : Nat) (x : Stripe) : (setStripe s i x).cfg = s.cfg := rfl
@[simp] theorem setStripe_nv (s : State) (i : Nat) (x : Stripe) : (setStripe s i x).nv = s.nv := rfl
@[simp] theorem setStripe_sec (s : State) (i : Nat) (x : Stripe) : (setStripe s i x).sec = s.sec := rfl
@[simp] theorem setStripe_scr (s : State) (i : Nat) (x : Stripe) : (setStripe s i x).scr = s.scr := rfl
@[simp] theorem setStripe_ras (s : State) (i : Nat) (x : Stripe) : (setStripe s i x).ras = s.ras := rfl
@[simp] theorem setStripe_tel (s : State) (i : Nat) (x : Stripe) : (setStripe s i x).tel = s.tel := rfl
@[simp] theorem setStripe_mgmt (s : State) (i : Nat) (x : Stripe) : (setStripe s i x).mgmt = s.mgmt := rfl
@[simp] theorem setStripe_pwr (s : State) (i : Nat) (x : Stripe) : (setStripe s i x).pwr = s.pwr := rfl
@[simp] theorem setStripe_ctr (s : State) (i : Nat) (x : Stripe) : (setStripe s i x).ctr = s.ctr := rfl
@[simp] theorem setStripe_evt (s : State) (i : Nat) (x : Stripe) : (setStripe s i x).evt = s.evt := rfl
@[simp] theorem setStripe_out (s : State) (i : Nat) (x : Stripe) : (setStripe s i x).out = s.out := rfl
@[simp] theorem setStripe_freeCtr (s : State) (i : Nat) (x : Stripe) : (setStripe s i x).freeCtr = s.freeCtr := rfl
@[simp] theorem setStripe_hooks (s : State) (i : Nat) (x : Stripe) : (setStripe s i x).hooks = s.hooks := rfl
@[simp] theorem setStripe_shot (s : State) (i : Nat) (x : Stripe) : (setStripe s i x).shot = s.shot := rfl
@[simp] theorem setStripe_pending (s : State) (i : Nat) (x : Stripe) : (setStripe s i x).pending = s.pending := rfl

/-! `setJobSt` writes `ras` alone. -/

@[simp] theorem setJobSt_alm (s : State) (job : Nat) (f : Job → Job) : (setJobSt s job f).alm = s.alm := rfl
@[simp] theorem setJobSt_fc (s : State) (job : Nat) (f : Job → Job) : (setJobSt s job f).fc = s.fc := rfl
@[simp] theorem setJobSt_lnk (s : State) (job : Nat) (f : Job → Job) : (setJobSt s job f).lnk = s.lnk := rfl
@[simp] theorem setJobSt_swc (s : State) (job : Nat) (f : Job → Job) : (setJobSt s job f).swc = s.swc := rfl
@[simp] theorem setJobSt_sch (s : State) (job : Nat) (f : Job → Job) : (setJobSt s job f).sch = s.sch := rfl
@[simp] theorem setJobSt_mem (s : State) (job : Nat) (f : Job → Job) : (setJobSt s job f).mem = s.mem := rfl
@[simp] theorem setJobSt_pool (s : State) (job : Nat) (f : Job → Job) : (setJobSt s job f).pool = s.pool := rfl
@[simp] theorem setJobSt_coh (s : State) (job : Nat) (f : Job → Job) : (setJobSt s job f).coh = s.coh := rfl
@[simp] theorem setJobSt_dns (s : State) (job : Nat) (f : Job → Job) : (setJobSt s job f).dns = s.dns := rfl
@[simp] theorem setJobSt_trw (s : State) (job : Nat) (f : Job → Job) : (setJobSt s job f).trw = s.trw := rfl
@[simp] theorem setJobSt_til (s : State) (job : Nat) (f : Job → Job) : (setJobSt s job f).til = s.til := rfl
@[simp] theorem setJobSt_cor (s : State) (job : Nat) (f : Job → Job) : (setJobSt s job f).cor = s.cor := rfl
@[simp] theorem setJobSt_cfg (s : State) (job : Nat) (f : Job → Job) : (setJobSt s job f).cfg = s.cfg := rfl
@[simp] theorem setJobSt_nv (s : State) (job : Nat) (f : Job → Job) : (setJobSt s job f).nv = s.nv := rfl
@[simp] theorem setJobSt_sec (s : State) (job : Nat) (f : Job → Job) : (setJobSt s job f).sec = s.sec := rfl
@[simp] theorem setJobSt_scr (s : State) (job : Nat) (f : Job → Job) : (setJobSt s job f).scr = s.scr := rfl
@[simp] theorem setJobSt_tel (s : State) (job : Nat) (f : Job → Job) : (setJobSt s job f).tel = s.tel := rfl
@[simp] theorem setJobSt_mgmt (s : State) (job : Nat) (f : Job → Job) : (setJobSt s job f).mgmt = s.mgmt := rfl
@[simp] theorem setJobSt_pwr (s : State) (job : Nat) (f : Job → Job) : (setJobSt s job f).pwr = s.pwr := rfl
@[simp] theorem setJobSt_ctr (s : State) (job : Nat) (f : Job → Job) : (setJobSt s job f).ctr = s.ctr := rfl
@[simp] theorem setJobSt_evt (s : State) (job : Nat) (f : Job → Job) : (setJobSt s job f).evt = s.evt := rfl
@[simp] theorem setJobSt_out (s : State) (job : Nat) (f : Job → Job) : (setJobSt s job f).out = s.out := rfl
@[simp] theorem setJobSt_freeCtr (s : State) (job : Nat) (f : Job → Job) : (setJobSt s job f).freeCtr = s.freeCtr := rfl
@[simp] theorem setJobSt_hooks (s : State) (job : Nat) (f : Job → Job) : (setJobSt s job f).hooks = s.hooks := rfl
@[simp] theorem setJobSt_shot (s : State) (job : Nat) (f : Job → Job) : (setJobSt s job f).shot = s.shot := rfl
@[simp] theorem setJobSt_pending (s : State) (job : Nat) (f : Job → Job) : (setJobSt s job f).pending = s.pending := rfl

/-! `setCage` writes `lnk` alone. -/

@[simp] theorem setCage_alm (s : State) (g : Nat) (b : Bool) (f : Cage → Cage) : (setCage s g b f).alm = s.alm := rfl
@[simp] theorem setCage_fc (s : State) (g : Nat) (b : Bool) (f : Cage → Cage) : (setCage s g b f).fc = s.fc := rfl
@[simp] theorem setCage_swc (s : State) (g : Nat) (b : Bool) (f : Cage → Cage) : (setCage s g b f).swc = s.swc := rfl
@[simp] theorem setCage_sch (s : State) (g : Nat) (b : Bool) (f : Cage → Cage) : (setCage s g b f).sch = s.sch := rfl
@[simp] theorem setCage_mem (s : State) (g : Nat) (b : Bool) (f : Cage → Cage) : (setCage s g b f).mem = s.mem := rfl
@[simp] theorem setCage_pool (s : State) (g : Nat) (b : Bool) (f : Cage → Cage) : (setCage s g b f).pool = s.pool := rfl
@[simp] theorem setCage_coh (s : State) (g : Nat) (b : Bool) (f : Cage → Cage) : (setCage s g b f).coh = s.coh := rfl
@[simp] theorem setCage_dns (s : State) (g : Nat) (b : Bool) (f : Cage → Cage) : (setCage s g b f).dns = s.dns := rfl
@[simp] theorem setCage_trw (s : State) (g : Nat) (b : Bool) (f : Cage → Cage) : (setCage s g b f).trw = s.trw := rfl
@[simp] theorem setCage_til (s : State) (g : Nat) (b : Bool) (f : Cage → Cage) : (setCage s g b f).til = s.til := rfl
@[simp] theorem setCage_cor (s : State) (g : Nat) (b : Bool) (f : Cage → Cage) : (setCage s g b f).cor = s.cor := rfl
@[simp] theorem setCage_cfg (s : State) (g : Nat) (b : Bool) (f : Cage → Cage) : (setCage s g b f).cfg = s.cfg := rfl
@[simp] theorem setCage_nv (s : State) (g : Nat) (b : Bool) (f : Cage → Cage) : (setCage s g b f).nv = s.nv := rfl
@[simp] theorem setCage_sec (s : State) (g : Nat) (b : Bool) (f : Cage → Cage) : (setCage s g b f).sec = s.sec := rfl
@[simp] theorem setCage_scr (s : State) (g : Nat) (b : Bool) (f : Cage → Cage) : (setCage s g b f).scr = s.scr := rfl
@[simp] theorem setCage_ras (s : State) (g : Nat) (b : Bool) (f : Cage → Cage) : (setCage s g b f).ras = s.ras := rfl
@[simp] theorem setCage_tel (s : State) (g : Nat) (b : Bool) (f : Cage → Cage) : (setCage s g b f).tel = s.tel := rfl
@[simp] theorem setCage_mgmt (s : State) (g : Nat) (b : Bool) (f : Cage → Cage) : (setCage s g b f).mgmt = s.mgmt := rfl
@[simp] theorem setCage_pwr (s : State) (g : Nat) (b : Bool) (f : Cage → Cage) : (setCage s g b f).pwr = s.pwr := rfl
@[simp] theorem setCage_ctr (s : State) (g : Nat) (b : Bool) (f : Cage → Cage) : (setCage s g b f).ctr = s.ctr := rfl
@[simp] theorem setCage_evt (s : State) (g : Nat) (b : Bool) (f : Cage → Cage) : (setCage s g b f).evt = s.evt := rfl
@[simp] theorem setCage_out (s : State) (g : Nat) (b : Bool) (f : Cage → Cage) : (setCage s g b f).out = s.out := rfl
@[simp] theorem setCage_freeCtr (s : State) (g : Nat) (b : Bool) (f : Cage → Cage) : (setCage s g b f).freeCtr = s.freeCtr := rfl
@[simp] theorem setCage_hooks (s : State) (g : Nat) (b : Bool) (f : Cage → Cage) : (setCage s g b f).hooks = s.hooks := rfl
@[simp] theorem setCage_shot (s : State) (g : Nat) (b : Bool) (f : Cage → Cage) : (setCage s g b f).shot = s.shot := rfl
@[simp] theorem setCage_pending (s : State) (g : Nat) (b : Bool) (f : Cage → Cage) : (setCage s g b f).pending = s.pending := rfl

/-! `setSrc` writes `pool` alone. -/

@[simp] theorem setSrc_alm (s : State) (ep : Nat) (f : Src → Src) : (setSrc s ep f).alm = s.alm := rfl
@[simp] theorem setSrc_fc (s : State) (ep : Nat) (f : Src → Src) : (setSrc s ep f).fc = s.fc := rfl
@[simp] theorem setSrc_lnk (s : State) (ep : Nat) (f : Src → Src) : (setSrc s ep f).lnk = s.lnk := rfl
@[simp] theorem setSrc_swc (s : State) (ep : Nat) (f : Src → Src) : (setSrc s ep f).swc = s.swc := rfl
@[simp] theorem setSrc_sch (s : State) (ep : Nat) (f : Src → Src) : (setSrc s ep f).sch = s.sch := rfl
@[simp] theorem setSrc_mem (s : State) (ep : Nat) (f : Src → Src) : (setSrc s ep f).mem = s.mem := rfl
@[simp] theorem setSrc_coh (s : State) (ep : Nat) (f : Src → Src) : (setSrc s ep f).coh = s.coh := rfl
@[simp] theorem setSrc_dns (s : State) (ep : Nat) (f : Src → Src) : (setSrc s ep f).dns = s.dns := rfl
@[simp] theorem setSrc_trw (s : State) (ep : Nat) (f : Src → Src) : (setSrc s ep f).trw = s.trw := rfl
@[simp] theorem setSrc_til (s : State) (ep : Nat) (f : Src → Src) : (setSrc s ep f).til = s.til := rfl
@[simp] theorem setSrc_cor (s : State) (ep : Nat) (f : Src → Src) : (setSrc s ep f).cor = s.cor := rfl
@[simp] theorem setSrc_cfg (s : State) (ep : Nat) (f : Src → Src) : (setSrc s ep f).cfg = s.cfg := rfl
@[simp] theorem setSrc_nv (s : State) (ep : Nat) (f : Src → Src) : (setSrc s ep f).nv = s.nv := rfl
@[simp] theorem setSrc_sec (s : State) (ep : Nat) (f : Src → Src) : (setSrc s ep f).sec = s.sec := rfl
@[simp] theorem setSrc_scr (s : State) (ep : Nat) (f : Src → Src) : (setSrc s ep f).scr = s.scr := rfl
@[simp] theorem setSrc_ras (s : State) (ep : Nat) (f : Src → Src) : (setSrc s ep f).ras = s.ras := rfl
@[simp] theorem setSrc_tel (s : State) (ep : Nat) (f : Src → Src) : (setSrc s ep f).tel = s.tel := rfl
@[simp] theorem setSrc_mgmt (s : State) (ep : Nat) (f : Src → Src) : (setSrc s ep f).mgmt = s.mgmt := rfl
@[simp] theorem setSrc_pwr (s : State) (ep : Nat) (f : Src → Src) : (setSrc s ep f).pwr = s.pwr := rfl
@[simp] theorem setSrc_ctr (s : State) (ep : Nat) (f : Src → Src) : (setSrc s ep f).ctr = s.ctr := rfl
@[simp] theorem setSrc_evt (s : State) (ep : Nat) (f : Src → Src) : (setSrc s ep f).evt = s.evt := rfl
@[simp] theorem setSrc_out (s : State) (ep : Nat) (f : Src → Src) : (setSrc s ep f).out = s.out := rfl
@[simp] theorem setSrc_freeCtr (s : State) (ep : Nat) (f : Src → Src) : (setSrc s ep f).freeCtr = s.freeCtr := rfl
@[simp] theorem setSrc_hooks (s : State) (ep : Nat) (f : Src → Src) : (setSrc s ep f).hooks = s.hooks := rfl
@[simp] theorem setSrc_shot (s : State) (ep : Nat) (f : Src → Src) : (setSrc s ep f).shot = s.shot := rfl
@[simp] theorem setSrc_pending (s : State) (ep : Nat) (f : Src → Src) : (setSrc s ep f).pending = s.pending := rfl

/-! `setOut` writes `pool` alone. -/

@[simp] theorem setOut_alm (s : State) (target tag : Nat) (f : OutReq → OutReq) : (setOut s target tag f).alm = s.alm := rfl
@[simp] theorem setOut_fc (s : State) (target tag : Nat) (f : OutReq → OutReq) : (setOut s target tag f).fc = s.fc := rfl
@[simp] theorem setOut_lnk (s : State) (target tag : Nat) (f : OutReq → OutReq) : (setOut s target tag f).lnk = s.lnk := rfl
@[simp] theorem setOut_swc (s : State) (target tag : Nat) (f : OutReq → OutReq) : (setOut s target tag f).swc = s.swc := rfl
@[simp] theorem setOut_sch (s : State) (target tag : Nat) (f : OutReq → OutReq) : (setOut s target tag f).sch = s.sch := rfl
@[simp] theorem setOut_mem (s : State) (target tag : Nat) (f : OutReq → OutReq) : (setOut s target tag f).mem = s.mem := rfl
@[simp] theorem setOut_coh (s : State) (target tag : Nat) (f : OutReq → OutReq) : (setOut s target tag f).coh = s.coh := rfl
@[simp] theorem setOut_dns (s : State) (target tag : Nat) (f : OutReq → OutReq) : (setOut s target tag f).dns = s.dns := rfl
@[simp] theorem setOut_trw (s : State) (target tag : Nat) (f : OutReq → OutReq) : (setOut s target tag f).trw = s.trw := rfl
@[simp] theorem setOut_til (s : State) (target tag : Nat) (f : OutReq → OutReq) : (setOut s target tag f).til = s.til := rfl
@[simp] theorem setOut_cor (s : State) (target tag : Nat) (f : OutReq → OutReq) : (setOut s target tag f).cor = s.cor := rfl
@[simp] theorem setOut_cfg (s : State) (target tag : Nat) (f : OutReq → OutReq) : (setOut s target tag f).cfg = s.cfg := rfl
@[simp] theorem setOut_nv (s : State) (target tag : Nat) (f : OutReq → OutReq) : (setOut s target tag f).nv = s.nv := rfl
@[simp] theorem setOut_sec (s : State) (target tag : Nat) (f : OutReq → OutReq) : (setOut s target tag f).sec = s.sec := rfl
@[simp] theorem setOut_scr (s : State) (target tag : Nat) (f : OutReq → OutReq) : (setOut s target tag f).scr = s.scr := rfl
@[simp] theorem setOut_ras (s : State) (target tag : Nat) (f : OutReq → OutReq) : (setOut s target tag f).ras = s.ras := rfl
@[simp] theorem setOut_tel (s : State) (target tag : Nat) (f : OutReq → OutReq) : (setOut s target tag f).tel = s.tel := rfl
@[simp] theorem setOut_mgmt (s : State) (target tag : Nat) (f : OutReq → OutReq) : (setOut s target tag f).mgmt = s.mgmt := rfl
@[simp] theorem setOut_pwr (s : State) (target tag : Nat) (f : OutReq → OutReq) : (setOut s target tag f).pwr = s.pwr := rfl
@[simp] theorem setOut_ctr (s : State) (target tag : Nat) (f : OutReq → OutReq) : (setOut s target tag f).ctr = s.ctr := rfl
@[simp] theorem setOut_evt (s : State) (target tag : Nat) (f : OutReq → OutReq) : (setOut s target tag f).evt = s.evt := rfl
@[simp] theorem setOut_out (s : State) (target tag : Nat) (f : OutReq → OutReq) : (setOut s target tag f).out = s.out := rfl
@[simp] theorem setOut_freeCtr (s : State) (target tag : Nat) (f : OutReq → OutReq) : (setOut s target tag f).freeCtr = s.freeCtr := rfl
@[simp] theorem setOut_hooks (s : State) (target tag : Nat) (f : OutReq → OutReq) : (setOut s target tag f).hooks = s.hooks := rfl
@[simp] theorem setOut_shot (s : State) (target tag : Nat) (f : OutReq → OutReq) : (setOut s target tag f).shot = s.shot := rfl
@[simp] theorem setOut_pending (s : State) (target tag : Nat) (f : OutReq → OutReq) : (setOut s target tag f).pending = s.pending := rfl

/-! `setTx` writes `pool` alone. -/

@[simp] theorem setTx_alm (s : State) (id : Nat) (f : Tx → Tx) : (setTx s id f).alm = s.alm := rfl
@[simp] theorem setTx_fc (s : State) (id : Nat) (f : Tx → Tx) : (setTx s id f).fc = s.fc := rfl
@[simp] theorem setTx_lnk (s : State) (id : Nat) (f : Tx → Tx) : (setTx s id f).lnk = s.lnk := rfl
@[simp] theorem setTx_swc (s : State) (id : Nat) (f : Tx → Tx) : (setTx s id f).swc = s.swc := rfl
@[simp] theorem setTx_sch (s : State) (id : Nat) (f : Tx → Tx) : (setTx s id f).sch = s.sch := rfl
@[simp] theorem setTx_mem (s : State) (id : Nat) (f : Tx → Tx) : (setTx s id f).mem = s.mem := rfl
@[simp] theorem setTx_coh (s : State) (id : Nat) (f : Tx → Tx) : (setTx s id f).coh = s.coh := rfl
@[simp] theorem setTx_dns (s : State) (id : Nat) (f : Tx → Tx) : (setTx s id f).dns = s.dns := rfl
@[simp] theorem setTx_trw (s : State) (id : Nat) (f : Tx → Tx) : (setTx s id f).trw = s.trw := rfl
@[simp] theorem setTx_til (s : State) (id : Nat) (f : Tx → Tx) : (setTx s id f).til = s.til := rfl
@[simp] theorem setTx_cor (s : State) (id : Nat) (f : Tx → Tx) : (setTx s id f).cor = s.cor := rfl
@[simp] theorem setTx_cfg (s : State) (id : Nat) (f : Tx → Tx) : (setTx s id f).cfg = s.cfg := rfl
@[simp] theorem setTx_nv (s : State) (id : Nat) (f : Tx → Tx) : (setTx s id f).nv = s.nv := rfl
@[simp] theorem setTx_sec (s : State) (id : Nat) (f : Tx → Tx) : (setTx s id f).sec = s.sec := rfl
@[simp] theorem setTx_scr (s : State) (id : Nat) (f : Tx → Tx) : (setTx s id f).scr = s.scr := rfl
@[simp] theorem setTx_ras (s : State) (id : Nat) (f : Tx → Tx) : (setTx s id f).ras = s.ras := rfl
@[simp] theorem setTx_tel (s : State) (id : Nat) (f : Tx → Tx) : (setTx s id f).tel = s.tel := rfl
@[simp] theorem setTx_mgmt (s : State) (id : Nat) (f : Tx → Tx) : (setTx s id f).mgmt = s.mgmt := rfl
@[simp] theorem setTx_pwr (s : State) (id : Nat) (f : Tx → Tx) : (setTx s id f).pwr = s.pwr := rfl
@[simp] theorem setTx_ctr (s : State) (id : Nat) (f : Tx → Tx) : (setTx s id f).ctr = s.ctr := rfl
@[simp] theorem setTx_evt (s : State) (id : Nat) (f : Tx → Tx) : (setTx s id f).evt = s.evt := rfl
@[simp] theorem setTx_out (s : State) (id : Nat) (f : Tx → Tx) : (setTx s id f).out = s.out := rfl
@[simp] theorem setTx_freeCtr (s : State) (id : Nat) (f : Tx → Tx) : (setTx s id f).freeCtr = s.freeCtr := rfl
@[simp] theorem setTx_hooks (s : State) (id : Nat) (f : Tx → Tx) : (setTx s id f).hooks = s.hooks := rfl
@[simp] theorem setTx_shot (s : State) (id : Nat) (f : Tx → Tx) : (setTx s id f).shot = s.shot := rfl
@[simp] theorem setTx_pending (s : State) (id : Nat) (f : Tx → Tx) : (setTx s id f).pending = s.pending := rfl

/-! `setPort` writes `lnk` alone. -/

@[simp] theorem setPort_alm (s : State) (p : Nat) (f : Port → Port) : (setPort s p f).alm = s.alm := rfl
@[simp] theorem setPort_fc (s : State) (p : Nat) (f : Port → Port) : (setPort s p f).fc = s.fc := rfl
@[simp] theorem setPort_swc (s : State) (p : Nat) (f : Port → Port) : (setPort s p f).swc = s.swc := rfl
@[simp] theorem setPort_sch (s : State) (p : Nat) (f : Port → Port) : (setPort s p f).sch = s.sch := rfl
@[simp] theorem setPort_mem (s : State) (p : Nat) (f : Port → Port) : (setPort s p f).mem = s.mem := rfl
@[simp] theorem setPort_pool (s : State) (p : Nat) (f : Port → Port) : (setPort s p f).pool = s.pool := rfl
@[simp] theorem setPort_coh (s : State) (p : Nat) (f : Port → Port) : (setPort s p f).coh = s.coh := rfl
@[simp] theorem setPort_dns (s : State) (p : Nat) (f : Port → Port) : (setPort s p f).dns = s.dns := rfl
@[simp] theorem setPort_trw (s : State) (p : Nat) (f : Port → Port) : (setPort s p f).trw = s.trw := rfl
@[simp] theorem setPort_til (s : State) (p : Nat) (f : Port → Port) : (setPort s p f).til = s.til := rfl
@[simp] theorem setPort_cor (s : State) (p : Nat) (f : Port → Port) : (setPort s p f).cor = s.cor := rfl
@[simp] theorem setPort_cfg (s : State) (p : Nat) (f : Port → Port) : (setPort s p f).cfg = s.cfg := rfl
@[simp] theorem setPort_nv (s : State) (p : Nat) (f : Port → Port) : (setPort s p f).nv = s.nv := rfl
@[simp] theorem setPort_sec (s : State) (p : Nat) (f : Port → Port) : (setPort s p f).sec = s.sec := rfl
@[simp] theorem setPort_scr (s : State) (p : Nat) (f : Port → Port) : (setPort s p f).scr = s.scr := rfl
@[simp] theorem setPort_ras (s : State) (p : Nat) (f : Port → Port) : (setPort s p f).ras = s.ras := rfl
@[simp] theorem setPort_tel (s : State) (p : Nat) (f : Port → Port) : (setPort s p f).tel = s.tel := rfl
@[simp] theorem setPort_mgmt (s : State) (p : Nat) (f : Port → Port) : (setPort s p f).mgmt = s.mgmt := rfl
@[simp] theorem setPort_pwr (s : State) (p : Nat) (f : Port → Port) : (setPort s p f).pwr = s.pwr := rfl
@[simp] theorem setPort_ctr (s : State) (p : Nat) (f : Port → Port) : (setPort s p f).ctr = s.ctr := rfl
@[simp] theorem setPort_evt (s : State) (p : Nat) (f : Port → Port) : (setPort s p f).evt = s.evt := rfl
@[simp] theorem setPort_out (s : State) (p : Nat) (f : Port → Port) : (setPort s p f).out = s.out := rfl
@[simp] theorem setPort_freeCtr (s : State) (p : Nat) (f : Port → Port) : (setPort s p f).freeCtr = s.freeCtr := rfl
@[simp] theorem setPort_hooks (s : State) (p : Nat) (f : Port → Port) : (setPort s p f).hooks = s.hooks := rfl
@[simp] theorem setPort_shot (s : State) (p : Nat) (f : Port → Port) : (setPort s p f).shot = s.shot := rfl
@[simp] theorem setPort_pending (s : State) (p : Nat) (f : Port → Port) : (setPort s p f).pending = s.pending := rfl

/-! `setLane` writes `lnk` alone. -/

@[simp] theorem setLane_alm (s : State) (n : Nat) (f : Lane → Lane) : (setLane s n f).alm = s.alm := rfl
@[simp] theorem setLane_fc (s : State) (n : Nat) (f : Lane → Lane) : (setLane s n f).fc = s.fc := rfl
@[simp] theorem setLane_swc (s : State) (n : Nat) (f : Lane → Lane) : (setLane s n f).swc = s.swc := rfl
@[simp] theorem setLane_sch (s : State) (n : Nat) (f : Lane → Lane) : (setLane s n f).sch = s.sch := rfl
@[simp] theorem setLane_mem (s : State) (n : Nat) (f : Lane → Lane) : (setLane s n f).mem = s.mem := rfl
@[simp] theorem setLane_pool (s : State) (n : Nat) (f : Lane → Lane) : (setLane s n f).pool = s.pool := rfl
@[simp] theorem setLane_coh (s : State) (n : Nat) (f : Lane → Lane) : (setLane s n f).coh = s.coh := rfl
@[simp] theorem setLane_dns (s : State) (n : Nat) (f : Lane → Lane) : (setLane s n f).dns = s.dns := rfl
@[simp] theorem setLane_trw (s : State) (n : Nat) (f : Lane → Lane) : (setLane s n f).trw = s.trw := rfl
@[simp] theorem setLane_til (s : State) (n : Nat) (f : Lane → Lane) : (setLane s n f).til = s.til := rfl
@[simp] theorem setLane_cor (s : State) (n : Nat) (f : Lane → Lane) : (setLane s n f).cor = s.cor := rfl
@[simp] theorem setLane_cfg (s : State) (n : Nat) (f : Lane → Lane) : (setLane s n f).cfg = s.cfg := rfl
@[simp] theorem setLane_nv (s : State) (n : Nat) (f : Lane → Lane) : (setLane s n f).nv = s.nv := rfl
@[simp] theorem setLane_sec (s : State) (n : Nat) (f : Lane → Lane) : (setLane s n f).sec = s.sec := rfl
@[simp] theorem setLane_scr (s : State) (n : Nat) (f : Lane → Lane) : (setLane s n f).scr = s.scr := rfl
@[simp] theorem setLane_ras (s : State) (n : Nat) (f : Lane → Lane) : (setLane s n f).ras = s.ras := rfl
@[simp] theorem setLane_tel (s : State) (n : Nat) (f : Lane → Lane) : (setLane s n f).tel = s.tel := rfl
@[simp] theorem setLane_mgmt (s : State) (n : Nat) (f : Lane → Lane) : (setLane s n f).mgmt = s.mgmt := rfl
@[simp] theorem setLane_pwr (s : State) (n : Nat) (f : Lane → Lane) : (setLane s n f).pwr = s.pwr := rfl
@[simp] theorem setLane_ctr (s : State) (n : Nat) (f : Lane → Lane) : (setLane s n f).ctr = s.ctr := rfl
@[simp] theorem setLane_evt (s : State) (n : Nat) (f : Lane → Lane) : (setLane s n f).evt = s.evt := rfl
@[simp] theorem setLane_out (s : State) (n : Nat) (f : Lane → Lane) : (setLane s n f).out = s.out := rfl
@[simp] theorem setLane_freeCtr (s : State) (n : Nat) (f : Lane → Lane) : (setLane s n f).freeCtr = s.freeCtr := rfl
@[simp] theorem setLane_hooks (s : State) (n : Nat) (f : Lane → Lane) : (setLane s n f).hooks = s.hooks := rfl
@[simp] theorem setLane_shot (s : State) (n : Nat) (f : Lane → Lane) : (setLane s n f).shot = s.shot := rfl
@[simp] theorem setLane_pending (s : State) (n : Nat) (f : Lane → Lane) : (setLane s n f).pending = s.pending := rfl

/-! `setPwr` writes `pwr` alone. -/

@[simp] theorem setPwr_alm (s : State) (f : Pwr → Pwr) : (setPwr s f).alm = s.alm := rfl
@[simp] theorem setPwr_fc (s : State) (f : Pwr → Pwr) : (setPwr s f).fc = s.fc := rfl
@[simp] theorem setPwr_lnk (s : State) (f : Pwr → Pwr) : (setPwr s f).lnk = s.lnk := rfl
@[simp] theorem setPwr_swc (s : State) (f : Pwr → Pwr) : (setPwr s f).swc = s.swc := rfl
@[simp] theorem setPwr_sch (s : State) (f : Pwr → Pwr) : (setPwr s f).sch = s.sch := rfl
@[simp] theorem setPwr_mem (s : State) (f : Pwr → Pwr) : (setPwr s f).mem = s.mem := rfl
@[simp] theorem setPwr_pool (s : State) (f : Pwr → Pwr) : (setPwr s f).pool = s.pool := rfl
@[simp] theorem setPwr_coh (s : State) (f : Pwr → Pwr) : (setPwr s f).coh = s.coh := rfl
@[simp] theorem setPwr_dns (s : State) (f : Pwr → Pwr) : (setPwr s f).dns = s.dns := rfl
@[simp] theorem setPwr_trw (s : State) (f : Pwr → Pwr) : (setPwr s f).trw = s.trw := rfl
@[simp] theorem setPwr_til (s : State) (f : Pwr → Pwr) : (setPwr s f).til = s.til := rfl
@[simp] theorem setPwr_cor (s : State) (f : Pwr → Pwr) : (setPwr s f).cor = s.cor := rfl
@[simp] theorem setPwr_cfg (s : State) (f : Pwr → Pwr) : (setPwr s f).cfg = s.cfg := rfl
@[simp] theorem setPwr_nv (s : State) (f : Pwr → Pwr) : (setPwr s f).nv = s.nv := rfl
@[simp] theorem setPwr_sec (s : State) (f : Pwr → Pwr) : (setPwr s f).sec = s.sec := rfl
@[simp] theorem setPwr_scr (s : State) (f : Pwr → Pwr) : (setPwr s f).scr = s.scr := rfl
@[simp] theorem setPwr_ras (s : State) (f : Pwr → Pwr) : (setPwr s f).ras = s.ras := rfl
@[simp] theorem setPwr_tel (s : State) (f : Pwr → Pwr) : (setPwr s f).tel = s.tel := rfl
@[simp] theorem setPwr_mgmt (s : State) (f : Pwr → Pwr) : (setPwr s f).mgmt = s.mgmt := rfl
@[simp] theorem setPwr_ctr (s : State) (f : Pwr → Pwr) : (setPwr s f).ctr = s.ctr := rfl
@[simp] theorem setPwr_evt (s : State) (f : Pwr → Pwr) : (setPwr s f).evt = s.evt := rfl
@[simp] theorem setPwr_out (s : State) (f : Pwr → Pwr) : (setPwr s f).out = s.out := rfl
@[simp] theorem setPwr_freeCtr (s : State) (f : Pwr → Pwr) : (setPwr s f).freeCtr = s.freeCtr := rfl
@[simp] theorem setPwr_hooks (s : State) (f : Pwr → Pwr) : (setPwr s f).hooks = s.hooks := rfl
@[simp] theorem setPwr_shot (s : State) (f : Pwr → Pwr) : (setPwr s f).shot = s.shot := rfl
@[simp] theorem setPwr_pending (s : State) (f : Pwr → Pwr) : (setPwr s f).pending = s.pending := rfl

/-! `setPc` writes `ras` alone. -/

@[simp] theorem setPc_alm (s : State) (pc : Nat) (f : Pc → Pc) : (setPc s pc f).alm = s.alm := rfl
@[simp] theorem setPc_fc (s : State) (pc : Nat) (f : Pc → Pc) : (setPc s pc f).fc = s.fc := rfl
@[simp] theorem setPc_lnk (s : State) (pc : Nat) (f : Pc → Pc) : (setPc s pc f).lnk = s.lnk := rfl
@[simp] theorem setPc_swc (s : State) (pc : Nat) (f : Pc → Pc) : (setPc s pc f).swc = s.swc := rfl
@[simp] theorem setPc_sch (s : State) (pc : Nat) (f : Pc → Pc) : (setPc s pc f).sch = s.sch := rfl
@[simp] theorem setPc_mem (s : State) (pc : Nat) (f : Pc → Pc) : (setPc s pc f).mem = s.mem := rfl
@[simp] theorem setPc_pool (s : State) (pc : Nat) (f : Pc → Pc) : (setPc s pc f).pool = s.pool := rfl
@[simp] theorem setPc_coh (s : State) (pc : Nat) (f : Pc → Pc) : (setPc s pc f).coh = s.coh := rfl
@[simp] theorem setPc_dns (s : State) (pc : Nat) (f : Pc → Pc) : (setPc s pc f).dns = s.dns := rfl
@[simp] theorem setPc_trw (s : State) (pc : Nat) (f : Pc → Pc) : (setPc s pc f).trw = s.trw := rfl
@[simp] theorem setPc_til (s : State) (pc : Nat) (f : Pc → Pc) : (setPc s pc f).til = s.til := rfl
@[simp] theorem setPc_cor (s : State) (pc : Nat) (f : Pc → Pc) : (setPc s pc f).cor = s.cor := rfl
@[simp] theorem setPc_cfg (s : State) (pc : Nat) (f : Pc → Pc) : (setPc s pc f).cfg = s.cfg := rfl
@[simp] theorem setPc_nv (s : State) (pc : Nat) (f : Pc → Pc) : (setPc s pc f).nv = s.nv := rfl
@[simp] theorem setPc_sec (s : State) (pc : Nat) (f : Pc → Pc) : (setPc s pc f).sec = s.sec := rfl
@[simp] theorem setPc_scr (s : State) (pc : Nat) (f : Pc → Pc) : (setPc s pc f).scr = s.scr := rfl
@[simp] theorem setPc_tel (s : State) (pc : Nat) (f : Pc → Pc) : (setPc s pc f).tel = s.tel := rfl
@[simp] theorem setPc_mgmt (s : State) (pc : Nat) (f : Pc → Pc) : (setPc s pc f).mgmt = s.mgmt := rfl
@[simp] theorem setPc_pwr (s : State) (pc : Nat) (f : Pc → Pc) : (setPc s pc f).pwr = s.pwr := rfl
@[simp] theorem setPc_ctr (s : State) (pc : Nat) (f : Pc → Pc) : (setPc s pc f).ctr = s.ctr := rfl
@[simp] theorem setPc_evt (s : State) (pc : Nat) (f : Pc → Pc) : (setPc s pc f).evt = s.evt := rfl
@[simp] theorem setPc_out (s : State) (pc : Nat) (f : Pc → Pc) : (setPc s pc f).out = s.out := rfl
@[simp] theorem setPc_freeCtr (s : State) (pc : Nat) (f : Pc → Pc) : (setPc s pc f).freeCtr = s.freeCtr := rfl
@[simp] theorem setPc_hooks (s : State) (pc : Nat) (f : Pc → Pc) : (setPc s pc f).hooks = s.hooks := rfl
@[simp] theorem setPc_shot (s : State) (pc : Nat) (f : Pc → Pc) : (setPc s pc f).shot = s.shot := rfl
@[simp] theorem setPc_pending (s : State) (pc : Nat) (f : Pc → Pc) : (setPc s pc f).pending = s.pending := rfl

/-! `setScr` writes `scr` alone. -/

@[simp] theorem setScr_alm (s : State) (f : Scr → Scr) : (setScr s f).alm = s.alm := rfl
@[simp] theorem setScr_fc (s : State) (f : Scr → Scr) : (setScr s f).fc = s.fc := rfl
@[simp] theorem setScr_lnk (s : State) (f : Scr → Scr) : (setScr s f).lnk = s.lnk := rfl
@[simp] theorem setScr_swc (s : State) (f : Scr → Scr) : (setScr s f).swc = s.swc := rfl
@[simp] theorem setScr_sch (s : State) (f : Scr → Scr) : (setScr s f).sch = s.sch := rfl
@[simp] theorem setScr_mem (s : State) (f : Scr → Scr) : (setScr s f).mem = s.mem := rfl
@[simp] theorem setScr_pool (s : State) (f : Scr → Scr) : (setScr s f).pool = s.pool := rfl
@[simp] theorem setScr_coh (s : State) (f : Scr → Scr) : (setScr s f).coh = s.coh := rfl
@[simp] theorem setScr_dns (s : State) (f : Scr → Scr) : (setScr s f).dns = s.dns := rfl
@[simp] theorem setScr_trw (s : State) (f : Scr → Scr) : (setScr s f).trw = s.trw := rfl
@[simp] theorem setScr_til (s : State) (f : Scr → Scr) : (setScr s f).til = s.til := rfl
@[simp] theorem setScr_cor (s : State) (f : Scr → Scr) : (setScr s f).cor = s.cor := rfl
@[simp] theorem setScr_cfg (s : State) (f : Scr → Scr) : (setScr s f).cfg = s.cfg := rfl
@[simp] theorem setScr_nv (s : State) (f : Scr → Scr) : (setScr s f).nv = s.nv := rfl
@[simp] theorem setScr_sec (s : State) (f : Scr → Scr) : (setScr s f).sec = s.sec := rfl
@[simp] theorem setScr_ras (s : State) (f : Scr → Scr) : (setScr s f).ras = s.ras := rfl
@[simp] theorem setScr_tel (s : State) (f : Scr → Scr) : (setScr s f).tel = s.tel := rfl
@[simp] theorem setScr_mgmt (s : State) (f : Scr → Scr) : (setScr s f).mgmt = s.mgmt := rfl
@[simp] theorem setScr_pwr (s : State) (f : Scr → Scr) : (setScr s f).pwr = s.pwr := rfl
@[simp] theorem setScr_ctr (s : State) (f : Scr → Scr) : (setScr s f).ctr = s.ctr := rfl
@[simp] theorem setScr_evt (s : State) (f : Scr → Scr) : (setScr s f).evt = s.evt := rfl
@[simp] theorem setScr_out (s : State) (f : Scr → Scr) : (setScr s f).out = s.out := rfl
@[simp] theorem setScr_freeCtr (s : State) (f : Scr → Scr) : (setScr s f).freeCtr = s.freeCtr := rfl
@[simp] theorem setScr_hooks (s : State) (f : Scr → Scr) : (setScr s f).hooks = s.hooks := rfl
@[simp] theorem setScr_shot (s : State) (f : Scr → Scr) : (setScr s f).shot = s.shot := rfl
@[simp] theorem setScr_pending (s : State) (f : Scr → Scr) : (setScr s f).pending = s.pending := rfl

/-! `setSec` writes `sec` alone. -/

@[simp] theorem setSec_alm (s : State) (f : Sec → Sec) : (setSec s f).alm = s.alm := rfl
@[simp] theorem setSec_fc (s : State) (f : Sec → Sec) : (setSec s f).fc = s.fc := rfl
@[simp] theorem setSec_lnk (s : State) (f : Sec → Sec) : (setSec s f).lnk = s.lnk := rfl
@[simp] theorem setSec_swc (s : State) (f : Sec → Sec) : (setSec s f).swc = s.swc := rfl
@[simp] theorem setSec_sch (s : State) (f : Sec → Sec) : (setSec s f).sch = s.sch := rfl
@[simp] theorem setSec_mem (s : State) (f : Sec → Sec) : (setSec s f).mem = s.mem := rfl
@[simp] theorem setSec_pool (s : State) (f : Sec → Sec) : (setSec s f).pool = s.pool := rfl
@[simp] theorem setSec_coh (s : State) (f : Sec → Sec) : (setSec s f).coh = s.coh := rfl
@[simp] theorem setSec_dns (s : State) (f : Sec → Sec) : (setSec s f).dns = s.dns := rfl
@[simp] theorem setSec_trw (s : State) (f : Sec → Sec) : (setSec s f).trw = s.trw := rfl
@[simp] theorem setSec_til (s : State) (f : Sec → Sec) : (setSec s f).til = s.til := rfl
@[simp] theorem setSec_cor (s : State) (f : Sec → Sec) : (setSec s f).cor = s.cor := rfl
@[simp] theorem setSec_cfg (s : State) (f : Sec → Sec) : (setSec s f).cfg = s.cfg := rfl
@[simp] theorem setSec_nv (s : State) (f : Sec → Sec) : (setSec s f).nv = s.nv := rfl
@[simp] theorem setSec_scr (s : State) (f : Sec → Sec) : (setSec s f).scr = s.scr := rfl
@[simp] theorem setSec_ras (s : State) (f : Sec → Sec) : (setSec s f).ras = s.ras := rfl
@[simp] theorem setSec_tel (s : State) (f : Sec → Sec) : (setSec s f).tel = s.tel := rfl
@[simp] theorem setSec_mgmt (s : State) (f : Sec → Sec) : (setSec s f).mgmt = s.mgmt := rfl
@[simp] theorem setSec_pwr (s : State) (f : Sec → Sec) : (setSec s f).pwr = s.pwr := rfl
@[simp] theorem setSec_ctr (s : State) (f : Sec → Sec) : (setSec s f).ctr = s.ctr := rfl
@[simp] theorem setSec_evt (s : State) (f : Sec → Sec) : (setSec s f).evt = s.evt := rfl
@[simp] theorem setSec_out (s : State) (f : Sec → Sec) : (setSec s f).out = s.out := rfl
@[simp] theorem setSec_freeCtr (s : State) (f : Sec → Sec) : (setSec s f).freeCtr = s.freeCtr := rfl
@[simp] theorem setSec_hooks (s : State) (f : Sec → Sec) : (setSec s f).hooks = s.hooks := rfl
@[simp] theorem setSec_shot (s : State) (f : Sec → Sec) : (setSec s f).shot = s.shot := rfl
@[simp] theorem setSec_pending (s : State) (f : Sec → Sec) : (setSec s f).pending = s.pending := rfl

/-! `setMac` writes `lnk` alone. -/

@[simp] theorem setMac_alm (s : State) (p : Nat) (f : MacSec → MacSec) : (setMac s p f).alm = s.alm := rfl
@[simp] theorem setMac_fc (s : State) (p : Nat) (f : MacSec → MacSec) : (setMac s p f).fc = s.fc := rfl
@[simp] theorem setMac_swc (s : State) (p : Nat) (f : MacSec → MacSec) : (setMac s p f).swc = s.swc := rfl
@[simp] theorem setMac_sch (s : State) (p : Nat) (f : MacSec → MacSec) : (setMac s p f).sch = s.sch := rfl
@[simp] theorem setMac_mem (s : State) (p : Nat) (f : MacSec → MacSec) : (setMac s p f).mem = s.mem := rfl
@[simp] theorem setMac_pool (s : State) (p : Nat) (f : MacSec → MacSec) : (setMac s p f).pool = s.pool := rfl
@[simp] theorem setMac_coh (s : State) (p : Nat) (f : MacSec → MacSec) : (setMac s p f).coh = s.coh := rfl
@[simp] theorem setMac_dns (s : State) (p : Nat) (f : MacSec → MacSec) : (setMac s p f).dns = s.dns := rfl
@[simp] theorem setMac_trw (s : State) (p : Nat) (f : MacSec → MacSec) : (setMac s p f).trw = s.trw := rfl
@[simp] theorem setMac_til (s : State) (p : Nat) (f : MacSec → MacSec) : (setMac s p f).til = s.til := rfl
@[simp] theorem setMac_cor (s : State) (p : Nat) (f : MacSec → MacSec) : (setMac s p f).cor = s.cor := rfl
@[simp] theorem setMac_cfg (s : State) (p : Nat) (f : MacSec → MacSec) : (setMac s p f).cfg = s.cfg := rfl
@[simp] theorem setMac_nv (s : State) (p : Nat) (f : MacSec → MacSec) : (setMac s p f).nv = s.nv := rfl
@[simp] theorem setMac_sec (s : State) (p : Nat) (f : MacSec → MacSec) : (setMac s p f).sec = s.sec := rfl
@[simp] theorem setMac_scr (s : State) (p : Nat) (f : MacSec → MacSec) : (setMac s p f).scr = s.scr := rfl
@[simp] theorem setMac_ras (s : State) (p : Nat) (f : MacSec → MacSec) : (setMac s p f).ras = s.ras := rfl
@[simp] theorem setMac_tel (s : State) (p : Nat) (f : MacSec → MacSec) : (setMac s p f).tel = s.tel := rfl
@[simp] theorem setMac_mgmt (s : State) (p : Nat) (f : MacSec → MacSec) : (setMac s p f).mgmt = s.mgmt := rfl
@[simp] theorem setMac_pwr (s : State) (p : Nat) (f : MacSec → MacSec) : (setMac s p f).pwr = s.pwr := rfl
@[simp] theorem setMac_ctr (s : State) (p : Nat) (f : MacSec → MacSec) : (setMac s p f).ctr = s.ctr := rfl
@[simp] theorem setMac_evt (s : State) (p : Nat) (f : MacSec → MacSec) : (setMac s p f).evt = s.evt := rfl
@[simp] theorem setMac_out (s : State) (p : Nat) (f : MacSec → MacSec) : (setMac s p f).out = s.out := rfl
@[simp] theorem setMac_freeCtr (s : State) (p : Nat) (f : MacSec → MacSec) : (setMac s p f).freeCtr = s.freeCtr := rfl
@[simp] theorem setMac_hooks (s : State) (p : Nat) (f : MacSec → MacSec) : (setMac s p f).hooks = s.hooks := rfl
@[simp] theorem setMac_shot (s : State) (p : Nat) (f : MacSec → MacSec) : (setMac s p f).shot = s.shot := rfl
@[simp] theorem setMac_pending (s : State) (p : Nat) (f : MacSec → MacSec) : (setMac s p f).pending = s.pending := rfl

/-! `setCapTray` writes `pool` alone. -/

@[simp] theorem setCapTray_alm (s : State) (i : Nat) (f : CapTray → CapTray) : (setCapTray s i f).alm = s.alm := rfl
@[simp] theorem setCapTray_fc (s : State) (i : Nat) (f : CapTray → CapTray) : (setCapTray s i f).fc = s.fc := rfl
@[simp] theorem setCapTray_lnk (s : State) (i : Nat) (f : CapTray → CapTray) : (setCapTray s i f).lnk = s.lnk := rfl
@[simp] theorem setCapTray_swc (s : State) (i : Nat) (f : CapTray → CapTray) : (setCapTray s i f).swc = s.swc := rfl
@[simp] theorem setCapTray_sch (s : State) (i : Nat) (f : CapTray → CapTray) : (setCapTray s i f).sch = s.sch := rfl
@[simp] theorem setCapTray_mem (s : State) (i : Nat) (f : CapTray → CapTray) : (setCapTray s i f).mem = s.mem := rfl
@[simp] theorem setCapTray_coh (s : State) (i : Nat) (f : CapTray → CapTray) : (setCapTray s i f).coh = s.coh := rfl
@[simp] theorem setCapTray_dns (s : State) (i : Nat) (f : CapTray → CapTray) : (setCapTray s i f).dns = s.dns := rfl
@[simp] theorem setCapTray_trw (s : State) (i : Nat) (f : CapTray → CapTray) : (setCapTray s i f).trw = s.trw := rfl
@[simp] theorem setCapTray_til (s : State) (i : Nat) (f : CapTray → CapTray) : (setCapTray s i f).til = s.til := rfl
@[simp] theorem setCapTray_cor (s : State) (i : Nat) (f : CapTray → CapTray) : (setCapTray s i f).cor = s.cor := rfl
@[simp] theorem setCapTray_cfg (s : State) (i : Nat) (f : CapTray → CapTray) : (setCapTray s i f).cfg = s.cfg := rfl
@[simp] theorem setCapTray_nv (s : State) (i : Nat) (f : CapTray → CapTray) : (setCapTray s i f).nv = s.nv := rfl
@[simp] theorem setCapTray_sec (s : State) (i : Nat) (f : CapTray → CapTray) : (setCapTray s i f).sec = s.sec := rfl
@[simp] theorem setCapTray_scr (s : State) (i : Nat) (f : CapTray → CapTray) : (setCapTray s i f).scr = s.scr := rfl
@[simp] theorem setCapTray_ras (s : State) (i : Nat) (f : CapTray → CapTray) : (setCapTray s i f).ras = s.ras := rfl
@[simp] theorem setCapTray_tel (s : State) (i : Nat) (f : CapTray → CapTray) : (setCapTray s i f).tel = s.tel := rfl
@[simp] theorem setCapTray_mgmt (s : State) (i : Nat) (f : CapTray → CapTray) : (setCapTray s i f).mgmt = s.mgmt := rfl
@[simp] theorem setCapTray_pwr (s : State) (i : Nat) (f : CapTray → CapTray) : (setCapTray s i f).pwr = s.pwr := rfl
@[simp] theorem setCapTray_ctr (s : State) (i : Nat) (f : CapTray → CapTray) : (setCapTray s i f).ctr = s.ctr := rfl
@[simp] theorem setCapTray_evt (s : State) (i : Nat) (f : CapTray → CapTray) : (setCapTray s i f).evt = s.evt := rfl
@[simp] theorem setCapTray_out (s : State) (i : Nat) (f : CapTray → CapTray) : (setCapTray s i f).out = s.out := rfl
@[simp] theorem setCapTray_freeCtr (s : State) (i : Nat) (f : CapTray → CapTray) : (setCapTray s i f).freeCtr = s.freeCtr := rfl
@[simp] theorem setCapTray_hooks (s : State) (i : Nat) (f : CapTray → CapTray) : (setCapTray s i f).hooks = s.hooks := rfl
@[simp] theorem setCapTray_shot (s : State) (i : Nat) (f : CapTray → CapTray) : (setCapTray s i f).shot = s.shot := rfl
@[simp] theorem setCapTray_pending (s : State) (i : Nat) (f : CapTray → CapTray) : (setCapTray s i f).pending = s.pending := rfl

/-! `setCapUnit` writes `pool` alone. -/

@[simp] theorem setCapUnit_alm (s : State) (unit : Nat) (f : CapUnit → CapUnit) : (setCapUnit s unit f).alm = s.alm := rfl
@[simp] theorem setCapUnit_fc (s : State) (unit : Nat) (f : CapUnit → CapUnit) : (setCapUnit s unit f).fc = s.fc := rfl
@[simp] theorem setCapUnit_lnk (s : State) (unit : Nat) (f : CapUnit → CapUnit) : (setCapUnit s unit f).lnk = s.lnk := rfl
@[simp] theorem setCapUnit_swc (s : State) (unit : Nat) (f : CapUnit → CapUnit) : (setCapUnit s unit f).swc = s.swc := rfl
@[simp] theorem setCapUnit_sch (s : State) (unit : Nat) (f : CapUnit → CapUnit) : (setCapUnit s unit f).sch = s.sch := rfl
@[simp] theorem setCapUnit_mem (s : State) (unit : Nat) (f : CapUnit → CapUnit) : (setCapUnit s unit f).mem = s.mem := rfl
@[simp] theorem setCapUnit_coh (s : State) (unit : Nat) (f : CapUnit → CapUnit) : (setCapUnit s unit f).coh = s.coh := rfl
@[simp] theorem setCapUnit_dns (s : State) (unit : Nat) (f : CapUnit → CapUnit) : (setCapUnit s unit f).dns = s.dns := rfl
@[simp] theorem setCapUnit_trw (s : State) (unit : Nat) (f : CapUnit → CapUnit) : (setCapUnit s unit f).trw = s.trw := rfl
@[simp] theorem setCapUnit_til (s : State) (unit : Nat) (f : CapUnit → CapUnit) : (setCapUnit s unit f).til = s.til := rfl
@[simp] theorem setCapUnit_cor (s : State) (unit : Nat) (f : CapUnit → CapUnit) : (setCapUnit s unit f).cor = s.cor := rfl
@[simp] theorem setCapUnit_cfg (s : State) (unit : Nat) (f : CapUnit → CapUnit) : (setCapUnit s unit f).cfg = s.cfg := rfl
@[simp] theorem setCapUnit_nv (s : State) (unit : Nat) (f : CapUnit → CapUnit) : (setCapUnit s unit f).nv = s.nv := rfl
@[simp] theorem setCapUnit_sec (s : State) (unit : Nat) (f : CapUnit → CapUnit) : (setCapUnit s unit f).sec = s.sec := rfl
@[simp] theorem setCapUnit_scr (s : State) (unit : Nat) (f : CapUnit → CapUnit) : (setCapUnit s unit f).scr = s.scr := rfl
@[simp] theorem setCapUnit_ras (s : State) (unit : Nat) (f : CapUnit → CapUnit) : (setCapUnit s unit f).ras = s.ras := rfl
@[simp] theorem setCapUnit_tel (s : State) (unit : Nat) (f : CapUnit → CapUnit) : (setCapUnit s unit f).tel = s.tel := rfl
@[simp] theorem setCapUnit_mgmt (s : State) (unit : Nat) (f : CapUnit → CapUnit) : (setCapUnit s unit f).mgmt = s.mgmt := rfl
@[simp] theorem setCapUnit_pwr (s : State) (unit : Nat) (f : CapUnit → CapUnit) : (setCapUnit s unit f).pwr = s.pwr := rfl
@[simp] theorem setCapUnit_ctr (s : State) (unit : Nat) (f : CapUnit → CapUnit) : (setCapUnit s unit f).ctr = s.ctr := rfl
@[simp] theorem setCapUnit_evt (s : State) (unit : Nat) (f : CapUnit → CapUnit) : (setCapUnit s unit f).evt = s.evt := rfl
@[simp] theorem setCapUnit_out (s : State) (unit : Nat) (f : CapUnit → CapUnit) : (setCapUnit s unit f).out = s.out := rfl
@[simp] theorem setCapUnit_freeCtr (s : State) (unit : Nat) (f : CapUnit → CapUnit) : (setCapUnit s unit f).freeCtr = s.freeCtr := rfl
@[simp] theorem setCapUnit_hooks (s : State) (unit : Nat) (f : CapUnit → CapUnit) : (setCapUnit s unit f).hooks = s.hooks := rfl
@[simp] theorem setCapUnit_shot (s : State) (unit : Nat) (f : CapUnit → CapUnit) : (setCapUnit s unit f).shot = s.shot := rfl
@[simp] theorem setCapUnit_pending (s : State) (unit : Nat) (f : CapUnit → CapUnit) : (setCapUnit s unit f).pending = s.pending := rfl

/-! `setMap` writes `dns` and, of `pool`, the lines that read as zeros. -/

@[simp] theorem setMap_alm (s : State) (unit : Nat) (e : MapEnt) : (setMap s unit e).alm = s.alm := rfl
@[simp] theorem setMap_fc (s : State) (unit : Nat) (e : MapEnt) : (setMap s unit e).fc = s.fc := rfl
@[simp] theorem setMap_lnk (s : State) (unit : Nat) (e : MapEnt) : (setMap s unit e).lnk = s.lnk := rfl
@[simp] theorem setMap_swc (s : State) (unit : Nat) (e : MapEnt) : (setMap s unit e).swc = s.swc := rfl
@[simp] theorem setMap_sch (s : State) (unit : Nat) (e : MapEnt) : (setMap s unit e).sch = s.sch := rfl
@[simp] theorem setMap_mem (s : State) (unit : Nat) (e : MapEnt) : (setMap s unit e).mem = s.mem := rfl
@[simp] theorem setMap_txs (s : State) (unit : Nat) (e : MapEnt) : (setMap s unit e).pool.txs = s.pool.txs := rfl
@[simp] theorem setMap_outs (s : State) (unit : Nat) (e : MapEnt) : (setMap s unit e).pool.outs = s.pool.outs := rfl
@[simp] theorem setMap_cache (s : State) (unit : Nat) (e : MapEnt) : (setMap s unit e).pool.cache = s.pool.cache := rfl
@[simp] theorem setMap_capUnits (s : State) (unit : Nat) (e : MapEnt) : (setMap s unit e).pool.capUnits = s.pool.capUnits := rfl
@[simp] theorem setMap_wins (s : State) (unit : Nat) (e : MapEnt) : (setMap s unit e).pool.wins = s.pool.wins := rfl
@[simp] theorem setMap_coh (s : State) (unit : Nat) (e : MapEnt) : (setMap s unit e).coh = s.coh := rfl
@[simp] theorem setMap_trw (s : State) (unit : Nat) (e : MapEnt) : (setMap s unit e).trw = s.trw := rfl
@[simp] theorem setMap_til (s : State) (unit : Nat) (e : MapEnt) : (setMap s unit e).til = s.til := rfl
@[simp] theorem setMap_cor (s : State) (unit : Nat) (e : MapEnt) : (setMap s unit e).cor = s.cor := rfl
@[simp] theorem setMap_cfg (s : State) (unit : Nat) (e : MapEnt) : (setMap s unit e).cfg = s.cfg := rfl
@[simp] theorem setMap_nv (s : State) (unit : Nat) (e : MapEnt) : (setMap s unit e).nv = s.nv := rfl
@[simp] theorem setMap_sec (s : State) (unit : Nat) (e : MapEnt) : (setMap s unit e).sec = s.sec := rfl
@[simp] theorem setMap_scr (s : State) (unit : Nat) (e : MapEnt) : (setMap s unit e).scr = s.scr := rfl
@[simp] theorem setMap_ras (s : State) (unit : Nat) (e : MapEnt) : (setMap s unit e).ras = s.ras := rfl
@[simp] theorem setMap_tel (s : State) (unit : Nat) (e : MapEnt) : (setMap s unit e).tel = s.tel := rfl
@[simp] theorem setMap_mgmt (s : State) (unit : Nat) (e : MapEnt) : (setMap s unit e).mgmt = s.mgmt := rfl
@[simp] theorem setMap_pwr (s : State) (unit : Nat) (e : MapEnt) : (setMap s unit e).pwr = s.pwr := rfl
@[simp] theorem setMap_ctr (s : State) (unit : Nat) (e : MapEnt) : (setMap s unit e).ctr = s.ctr := rfl
@[simp] theorem setMap_evt (s : State) (unit : Nat) (e : MapEnt) : (setMap s unit e).evt = s.evt := rfl
@[simp] theorem setMap_out (s : State) (unit : Nat) (e : MapEnt) : (setMap s unit e).out = s.out := rfl
@[simp] theorem setMap_freeCtr (s : State) (unit : Nat) (e : MapEnt) : (setMap s unit e).freeCtr = s.freeCtr := rfl
@[simp] theorem setMap_hooks (s : State) (unit : Nat) (e : MapEnt) : (setMap s unit e).hooks = s.hooks := rfl
@[simp] theorem setMap_shot (s : State) (unit : Nat) (e : MapEnt) : (setMap s unit e).shot = s.shot := rfl
@[simp] theorem setMap_pending (s : State) (unit : Nat) (e : MapEnt) : (setMap s unit e).pending = s.pending := rfl

/-! `setProg` writes `til` alone. -/

@[simp] theorem setProg_alm (s : State) (slot : Nat) (p : ProgSt) : (setProg s slot p).alm = s.alm := rfl
@[simp] theorem setProg_fc (s : State) (slot : Nat) (p : ProgSt) : (setProg s slot p).fc = s.fc := rfl
@[simp] theorem setProg_lnk (s : State) (slot : Nat) (p : ProgSt) : (setProg s slot p).lnk = s.lnk := rfl
@[simp] theorem setProg_swc (s : State) (slot : Nat) (p : ProgSt) : (setProg s slot p).swc = s.swc := rfl
@[simp] theorem setProg_sch (s : State) (slot : Nat) (p : ProgSt) : (setProg s slot p).sch = s.sch := rfl
@[simp] theorem setProg_mem (s : State) (slot : Nat) (p : ProgSt) : (setProg s slot p).mem = s.mem := rfl
@[simp] theorem setProg_pool (s : State) (slot : Nat) (p : ProgSt) : (setProg s slot p).pool = s.pool := rfl
@[simp] theorem setProg_coh (s : State) (slot : Nat) (p : ProgSt) : (setProg s slot p).coh = s.coh := rfl
@[simp] theorem setProg_dns (s : State) (slot : Nat) (p : ProgSt) : (setProg s slot p).dns = s.dns := rfl
@[simp] theorem setProg_trw (s : State) (slot : Nat) (p : ProgSt) : (setProg s slot p).trw = s.trw := rfl
@[simp] theorem setProg_cor (s : State) (slot : Nat) (p : ProgSt) : (setProg s slot p).cor = s.cor := rfl
@[simp] theorem setProg_cfg (s : State) (slot : Nat) (p : ProgSt) : (setProg s slot p).cfg = s.cfg := rfl
@[simp] theorem setProg_nv (s : State) (slot : Nat) (p : ProgSt) : (setProg s slot p).nv = s.nv := rfl
@[simp] theorem setProg_sec (s : State) (slot : Nat) (p : ProgSt) : (setProg s slot p).sec = s.sec := rfl
@[simp] theorem setProg_scr (s : State) (slot : Nat) (p : ProgSt) : (setProg s slot p).scr = s.scr := rfl
@[simp] theorem setProg_ras (s : State) (slot : Nat) (p : ProgSt) : (setProg s slot p).ras = s.ras := rfl
@[simp] theorem setProg_tel (s : State) (slot : Nat) (p : ProgSt) : (setProg s slot p).tel = s.tel := rfl
@[simp] theorem setProg_mgmt (s : State) (slot : Nat) (p : ProgSt) : (setProg s slot p).mgmt = s.mgmt := rfl
@[simp] theorem setProg_pwr (s : State) (slot : Nat) (p : ProgSt) : (setProg s slot p).pwr = s.pwr := rfl
@[simp] theorem setProg_ctr (s : State) (slot : Nat) (p : ProgSt) : (setProg s slot p).ctr = s.ctr := rfl
@[simp] theorem setProg_evt (s : State) (slot : Nat) (p : ProgSt) : (setProg s slot p).evt = s.evt := rfl
@[simp] theorem setProg_out (s : State) (slot : Nat) (p : ProgSt) : (setProg s slot p).out = s.out := rfl
@[simp] theorem setProg_freeCtr (s : State) (slot : Nat) (p : ProgSt) : (setProg s slot p).freeCtr = s.freeCtr := rfl
@[simp] theorem setProg_hooks (s : State) (slot : Nat) (p : ProgSt) : (setProg s slot p).hooks = s.hooks := rfl
@[simp] theorem setProg_shot (s : State) (slot : Nat) (p : ProgSt) : (setProg s slot p).shot = s.shot := rfl
@[simp] theorem setProg_pending (s : State) (slot : Nat) (p : ProgSt) : (setProg s slot p).pending = s.pending := rfl

/-! `setInv` writes `til` alone. -/

@[simp] theorem setInv_alm (s : State) (tx : Nat) (f : Inv → Inv) : (setInv s tx f).alm = s.alm := rfl
@[simp] theorem setInv_fc (s : State) (tx : Nat) (f : Inv → Inv) : (setInv s tx f).fc = s.fc := rfl
@[simp] theorem setInv_lnk (s : State) (tx : Nat) (f : Inv → Inv) : (setInv s tx f).lnk = s.lnk := rfl
@[simp] theorem setInv_swc (s : State) (tx : Nat) (f : Inv → Inv) : (setInv s tx f).swc = s.swc := rfl
@[simp] theorem setInv_sch (s : State) (tx : Nat) (f : Inv → Inv) : (setInv s tx f).sch = s.sch := rfl
@[simp] theorem setInv_mem (s : State) (tx : Nat) (f : Inv → Inv) : (setInv s tx f).mem = s.mem := rfl
@[simp] theorem setInv_pool (s : State) (tx : Nat) (f : Inv → Inv) : (setInv s tx f).pool = s.pool := rfl
@[simp] theorem setInv_coh (s : State) (tx : Nat) (f : Inv → Inv) : (setInv s tx f).coh = s.coh := rfl
@[simp] theorem setInv_dns (s : State) (tx : Nat) (f : Inv → Inv) : (setInv s tx f).dns = s.dns := rfl
@[simp] theorem setInv_trw (s : State) (tx : Nat) (f : Inv → Inv) : (setInv s tx f).trw = s.trw := rfl
@[simp] theorem setInv_cor (s : State) (tx : Nat) (f : Inv → Inv) : (setInv s tx f).cor = s.cor := rfl
@[simp] theorem setInv_cfg (s : State) (tx : Nat) (f : Inv → Inv) : (setInv s tx f).cfg = s.cfg := rfl
@[simp] theorem setInv_nv (s : State) (tx : Nat) (f : Inv → Inv) : (setInv s tx f).nv = s.nv := rfl
@[simp] theorem setInv_sec (s : State) (tx : Nat) (f : Inv → Inv) : (setInv s tx f).sec = s.sec := rfl
@[simp] theorem setInv_scr (s : State) (tx : Nat) (f : Inv → Inv) : (setInv s tx f).scr = s.scr := rfl
@[simp] theorem setInv_ras (s : State) (tx : Nat) (f : Inv → Inv) : (setInv s tx f).ras = s.ras := rfl
@[simp] theorem setInv_tel (s : State) (tx : Nat) (f : Inv → Inv) : (setInv s tx f).tel = s.tel := rfl
@[simp] theorem setInv_mgmt (s : State) (tx : Nat) (f : Inv → Inv) : (setInv s tx f).mgmt = s.mgmt := rfl
@[simp] theorem setInv_pwr (s : State) (tx : Nat) (f : Inv → Inv) : (setInv s tx f).pwr = s.pwr := rfl
@[simp] theorem setInv_ctr (s : State) (tx : Nat) (f : Inv → Inv) : (setInv s tx f).ctr = s.ctr := rfl
@[simp] theorem setInv_evt (s : State) (tx : Nat) (f : Inv → Inv) : (setInv s tx f).evt = s.evt := rfl
@[simp] theorem setInv_out (s : State) (tx : Nat) (f : Inv → Inv) : (setInv s tx f).out = s.out := rfl
@[simp] theorem setInv_freeCtr (s : State) (tx : Nat) (f : Inv → Inv) : (setInv s tx f).freeCtr = s.freeCtr := rfl
@[simp] theorem setInv_hooks (s : State) (tx : Nat) (f : Inv → Inv) : (setInv s tx f).hooks = s.hooks := rfl
@[simp] theorem setInv_shot (s : State) (tx : Nat) (f : Inv → Inv) : (setInv s tx f).shot = s.shot := rfl
@[simp] theorem setInv_pending (s : State) (tx : Nat) (f : Inv → Inv) : (setInv s tx f).pending = s.pending := rfl

/-! `setNode` writes `sch` alone. -/

@[simp] theorem setNode_alm (s : State) (n : NodeId) (f : Node → Node) : (setNode s n f).alm = s.alm := rfl
@[simp] theorem setNode_fc (s : State) (n : NodeId) (f : Node → Node) : (setNode s n f).fc = s.fc := rfl
@[simp] theorem setNode_lnk (s : State) (n : NodeId) (f : Node → Node) : (setNode s n f).lnk = s.lnk := rfl
@[simp] theorem setNode_swc (s : State) (n : NodeId) (f : Node → Node) : (setNode s n f).swc = s.swc := rfl
@[simp] theorem setNode_mem (s : State) (n : NodeId) (f : Node → Node) : (setNode s n f).mem = s.mem := rfl
@[simp] theorem setNode_pool (s : State) (n : NodeId) (f : Node → Node) : (setNode s n f).pool = s.pool := rfl
@[simp] theorem setNode_coh (s : State) (n : NodeId) (f : Node → Node) : (setNode s n f).coh = s.coh := rfl
@[simp] theorem setNode_dns (s : State) (n : NodeId) (f : Node → Node) : (setNode s n f).dns = s.dns := rfl
@[simp] theorem setNode_trw (s : State) (n : NodeId) (f : Node → Node) : (setNode s n f).trw = s.trw := rfl
@[simp] theorem setNode_til (s : State) (n : NodeId) (f : Node → Node) : (setNode s n f).til = s.til := rfl
@[simp] theorem setNode_cor (s : State) (n : NodeId) (f : Node → Node) : (setNode s n f).cor = s.cor := rfl
@[simp] theorem setNode_cfg (s : State) (n : NodeId) (f : Node → Node) : (setNode s n f).cfg = s.cfg := rfl
@[simp] theorem setNode_nv (s : State) (n : NodeId) (f : Node → Node) : (setNode s n f).nv = s.nv := rfl
@[simp] theorem setNode_sec (s : State) (n : NodeId) (f : Node → Node) : (setNode s n f).sec = s.sec := rfl
@[simp] theorem setNode_scr (s : State) (n : NodeId) (f : Node → Node) : (setNode s n f).scr = s.scr := rfl
@[simp] theorem setNode_ras (s : State) (n : NodeId) (f : Node → Node) : (setNode s n f).ras = s.ras := rfl
@[simp] theorem setNode_tel (s : State) (n : NodeId) (f : Node → Node) : (setNode s n f).tel = s.tel := rfl
@[simp] theorem setNode_mgmt (s : State) (n : NodeId) (f : Node → Node) : (setNode s n f).mgmt = s.mgmt := rfl
@[simp] theorem setNode_pwr (s : State) (n : NodeId) (f : Node → Node) : (setNode s n f).pwr = s.pwr := rfl
@[simp] theorem setNode_ctr (s : State) (n : NodeId) (f : Node → Node) : (setNode s n f).ctr = s.ctr := rfl
@[simp] theorem setNode_evt (s : State) (n : NodeId) (f : Node → Node) : (setNode s n f).evt = s.evt := rfl
@[simp] theorem setNode_out (s : State) (n : NodeId) (f : Node → Node) : (setNode s n f).out = s.out := rfl
@[simp] theorem setNode_freeCtr (s : State) (n : NodeId) (f : Node → Node) : (setNode s n f).freeCtr = s.freeCtr := rfl
@[simp] theorem setNode_hooks (s : State) (n : NodeId) (f : Node → Node) : (setNode s n f).hooks = s.hooks := rfl
@[simp] theorem setNode_shot (s : State) (n : NodeId) (f : Node → Node) : (setNode s n f).shot = s.shot := rfl
@[simp] theorem setNode_pending (s : State) (n : NodeId) (f : Node → Node) : (setNode s n f).pending = s.pending := rfl

/-! `setLeaf` writes `sch` alone. -/

@[simp] theorem setLeaf_alm (s : State) (n : NodeId) (l : List QEnt) : (setLeaf s n l).alm = s.alm := rfl
@[simp] theorem setLeaf_fc (s : State) (n : NodeId) (l : List QEnt) : (setLeaf s n l).fc = s.fc := rfl
@[simp] theorem setLeaf_lnk (s : State) (n : NodeId) (l : List QEnt) : (setLeaf s n l).lnk = s.lnk := rfl
@[simp] theorem setLeaf_swc (s : State) (n : NodeId) (l : List QEnt) : (setLeaf s n l).swc = s.swc := rfl
@[simp] theorem setLeaf_mem (s : State) (n : NodeId) (l : List QEnt) : (setLeaf s n l).mem = s.mem := rfl
@[simp] theorem setLeaf_pool (s : State) (n : NodeId) (l : List QEnt) : (setLeaf s n l).pool = s.pool := rfl
@[simp] theorem setLeaf_coh (s : State) (n : NodeId) (l : List QEnt) : (setLeaf s n l).coh = s.coh := rfl
@[simp] theorem setLeaf_dns (s : State) (n : NodeId) (l : List QEnt) : (setLeaf s n l).dns = s.dns := rfl
@[simp] theorem setLeaf_trw (s : State) (n : NodeId) (l : List QEnt) : (setLeaf s n l).trw = s.trw := rfl
@[simp] theorem setLeaf_til (s : State) (n : NodeId) (l : List QEnt) : (setLeaf s n l).til = s.til := rfl
@[simp] theorem setLeaf_cor (s : State) (n : NodeId) (l : List QEnt) : (setLeaf s n l).cor = s.cor := rfl
@[simp] theorem setLeaf_cfg (s : State) (n : NodeId) (l : List QEnt) : (setLeaf s n l).cfg = s.cfg := rfl
@[simp] theorem setLeaf_nv (s : State) (n : NodeId) (l : List QEnt) : (setLeaf s n l).nv = s.nv := rfl
@[simp] theorem setLeaf_sec (s : State) (n : NodeId) (l : List QEnt) : (setLeaf s n l).sec = s.sec := rfl
@[simp] theorem setLeaf_scr (s : State) (n : NodeId) (l : List QEnt) : (setLeaf s n l).scr = s.scr := rfl
@[simp] theorem setLeaf_ras (s : State) (n : NodeId) (l : List QEnt) : (setLeaf s n l).ras = s.ras := rfl
@[simp] theorem setLeaf_tel (s : State) (n : NodeId) (l : List QEnt) : (setLeaf s n l).tel = s.tel := rfl
@[simp] theorem setLeaf_mgmt (s : State) (n : NodeId) (l : List QEnt) : (setLeaf s n l).mgmt = s.mgmt := rfl
@[simp] theorem setLeaf_pwr (s : State) (n : NodeId) (l : List QEnt) : (setLeaf s n l).pwr = s.pwr := rfl
@[simp] theorem setLeaf_ctr (s : State) (n : NodeId) (l : List QEnt) : (setLeaf s n l).ctr = s.ctr := rfl
@[simp] theorem setLeaf_evt (s : State) (n : NodeId) (l : List QEnt) : (setLeaf s n l).evt = s.evt := rfl
@[simp] theorem setLeaf_out (s : State) (n : NodeId) (l : List QEnt) : (setLeaf s n l).out = s.out := rfl
@[simp] theorem setLeaf_freeCtr (s : State) (n : NodeId) (l : List QEnt) : (setLeaf s n l).freeCtr = s.freeCtr := rfl
@[simp] theorem setLeaf_hooks (s : State) (n : NodeId) (l : List QEnt) : (setLeaf s n l).hooks = s.hooks := rfl
@[simp] theorem setLeaf_shot (s : State) (n : NodeId) (l : List QEnt) : (setLeaf s n l).shot = s.shot := rfl
@[simp] theorem setLeaf_pending (s : State) (n : NodeId) (l : List QEnt) : (setLeaf s n l).pending = s.pending := rfl

/-! `setGrp` writes `trw` alone. -/

@[simp] theorem setGrp_alm (s : State) (g : Nat) (f : GrpSt → GrpSt) : (setGrp s g f).alm = s.alm := rfl
@[simp] theorem setGrp_fc (s : State) (g : Nat) (f : GrpSt → GrpSt) : (setGrp s g f).fc = s.fc := rfl
@[simp] theorem setGrp_lnk (s : State) (g : Nat) (f : GrpSt → GrpSt) : (setGrp s g f).lnk = s.lnk := rfl
@[simp] theorem setGrp_swc (s : State) (g : Nat) (f : GrpSt → GrpSt) : (setGrp s g f).swc = s.swc := rfl
@[simp] theorem setGrp_sch (s : State) (g : Nat) (f : GrpSt → GrpSt) : (setGrp s g f).sch = s.sch := rfl
@[simp] theorem setGrp_mem (s : State) (g : Nat) (f : GrpSt → GrpSt) : (setGrp s g f).mem = s.mem := rfl
@[simp] theorem setGrp_pool (s : State) (g : Nat) (f : GrpSt → GrpSt) : (setGrp s g f).pool = s.pool := rfl
@[simp] theorem setGrp_coh (s : State) (g : Nat) (f : GrpSt → GrpSt) : (setGrp s g f).coh = s.coh := rfl
@[simp] theorem setGrp_dns (s : State) (g : Nat) (f : GrpSt → GrpSt) : (setGrp s g f).dns = s.dns := rfl
@[simp] theorem setGrp_til (s : State) (g : Nat) (f : GrpSt → GrpSt) : (setGrp s g f).til = s.til := rfl
@[simp] theorem setGrp_cor (s : State) (g : Nat) (f : GrpSt → GrpSt) : (setGrp s g f).cor = s.cor := rfl
@[simp] theorem setGrp_cfg (s : State) (g : Nat) (f : GrpSt → GrpSt) : (setGrp s g f).cfg = s.cfg := rfl
@[simp] theorem setGrp_nv (s : State) (g : Nat) (f : GrpSt → GrpSt) : (setGrp s g f).nv = s.nv := rfl
@[simp] theorem setGrp_sec (s : State) (g : Nat) (f : GrpSt → GrpSt) : (setGrp s g f).sec = s.sec := rfl
@[simp] theorem setGrp_scr (s : State) (g : Nat) (f : GrpSt → GrpSt) : (setGrp s g f).scr = s.scr := rfl
@[simp] theorem setGrp_ras (s : State) (g : Nat) (f : GrpSt → GrpSt) : (setGrp s g f).ras = s.ras := rfl
@[simp] theorem setGrp_tel (s : State) (g : Nat) (f : GrpSt → GrpSt) : (setGrp s g f).tel = s.tel := rfl
@[simp] theorem setGrp_mgmt (s : State) (g : Nat) (f : GrpSt → GrpSt) : (setGrp s g f).mgmt = s.mgmt := rfl
@[simp] theorem setGrp_pwr (s : State) (g : Nat) (f : GrpSt → GrpSt) : (setGrp s g f).pwr = s.pwr := rfl
@[simp] theorem setGrp_ctr (s : State) (g : Nat) (f : GrpSt → GrpSt) : (setGrp s g f).ctr = s.ctr := rfl
@[simp] theorem setGrp_evt (s : State) (g : Nat) (f : GrpSt → GrpSt) : (setGrp s g f).evt = s.evt := rfl
@[simp] theorem setGrp_out (s : State) (g : Nat) (f : GrpSt → GrpSt) : (setGrp s g f).out = s.out := rfl
@[simp] theorem setGrp_freeCtr (s : State) (g : Nat) (f : GrpSt → GrpSt) : (setGrp s g f).freeCtr = s.freeCtr := rfl
@[simp] theorem setGrp_hooks (s : State) (g : Nat) (f : GrpSt → GrpSt) : (setGrp s g f).hooks = s.hooks := rfl
@[simp] theorem setGrp_shot (s : State) (g : Nat) (f : GrpSt → GrpSt) : (setGrp s g f).shot = s.shot := rfl
@[simp] theorem setGrp_pending (s : State) (g : Nat) (f : GrpSt → GrpSt) : (setGrp s g f).pending = s.pending := rfl

/-! `setUnit` writes `cfg` alone. -/

@[simp] theorem setUnit_alm (s : State) (kind index : Nat) (f : UnitSt → UnitSt) : (setUnit s kind index f).alm = s.alm := rfl
@[simp] theorem setUnit_fc (s : State) (kind index : Nat) (f : UnitSt → UnitSt) : (setUnit s kind index f).fc = s.fc := rfl
@[simp] theorem setUnit_lnk (s : State) (kind index : Nat) (f : UnitSt → UnitSt) : (setUnit s kind index f).lnk = s.lnk := rfl
@[simp] theorem setUnit_swc (s : State) (kind index : Nat) (f : UnitSt → UnitSt) : (setUnit s kind index f).swc = s.swc := rfl
@[simp] theorem setUnit_sch (s : State) (kind index : Nat) (f : UnitSt → UnitSt) : (setUnit s kind index f).sch = s.sch := rfl
@[simp] theorem setUnit_mem (s : State) (kind index : Nat) (f : UnitSt → UnitSt) : (setUnit s kind index f).mem = s.mem := rfl
@[simp] theorem setUnit_pool (s : State) (kind index : Nat) (f : UnitSt → UnitSt) : (setUnit s kind index f).pool = s.pool := rfl
@[simp] theorem setUnit_coh (s : State) (kind index : Nat) (f : UnitSt → UnitSt) : (setUnit s kind index f).coh = s.coh := rfl
@[simp] theorem setUnit_dns (s : State) (kind index : Nat) (f : UnitSt → UnitSt) : (setUnit s kind index f).dns = s.dns := rfl
@[simp] theorem setUnit_trw (s : State) (kind index : Nat) (f : UnitSt → UnitSt) : (setUnit s kind index f).trw = s.trw := rfl
@[simp] theorem setUnit_til (s : State) (kind index : Nat) (f : UnitSt → UnitSt) : (setUnit s kind index f).til = s.til := rfl
@[simp] theorem setUnit_cor (s : State) (kind index : Nat) (f : UnitSt → UnitSt) : (setUnit s kind index f).cor = s.cor := rfl
@[simp] theorem setUnit_nv (s : State) (kind index : Nat) (f : UnitSt → UnitSt) : (setUnit s kind index f).nv = s.nv := rfl
@[simp] theorem setUnit_sec (s : State) (kind index : Nat) (f : UnitSt → UnitSt) : (setUnit s kind index f).sec = s.sec := rfl
@[simp] theorem setUnit_scr (s : State) (kind index : Nat) (f : UnitSt → UnitSt) : (setUnit s kind index f).scr = s.scr := rfl
@[simp] theorem setUnit_ras (s : State) (kind index : Nat) (f : UnitSt → UnitSt) : (setUnit s kind index f).ras = s.ras := rfl
@[simp] theorem setUnit_tel (s : State) (kind index : Nat) (f : UnitSt → UnitSt) : (setUnit s kind index f).tel = s.tel := rfl
@[simp] theorem setUnit_mgmt (s : State) (kind index : Nat) (f : UnitSt → UnitSt) : (setUnit s kind index f).mgmt = s.mgmt := rfl
@[simp] theorem setUnit_pwr (s : State) (kind index : Nat) (f : UnitSt → UnitSt) : (setUnit s kind index f).pwr = s.pwr := rfl
@[simp] theorem setUnit_ctr (s : State) (kind index : Nat) (f : UnitSt → UnitSt) : (setUnit s kind index f).ctr = s.ctr := rfl
@[simp] theorem setUnit_evt (s : State) (kind index : Nat) (f : UnitSt → UnitSt) : (setUnit s kind index f).evt = s.evt := rfl
@[simp] theorem setUnit_out (s : State) (kind index : Nat) (f : UnitSt → UnitSt) : (setUnit s kind index f).out = s.out := rfl
@[simp] theorem setUnit_freeCtr (s : State) (kind index : Nat) (f : UnitSt → UnitSt) : (setUnit s kind index f).freeCtr = s.freeCtr := rfl
@[simp] theorem setUnit_hooks (s : State) (kind index : Nat) (f : UnitSt → UnitSt) : (setUnit s kind index f).hooks = s.hooks := rfl
@[simp] theorem setUnit_shot (s : State) (kind index : Nat) (f : UnitSt → UnitSt) : (setUnit s kind index f).shot = s.shot := rfl
@[simp] theorem setUnit_pending (s : State) (kind index : Nat) (f : UnitSt → UnitSt) : (setUnit s kind index f).pending = s.pending := rfl

/-! `emit` writes `out` alone. -/

@[simp] theorem emit_alm (s : State) (o : Out) : (emit s o).alm = s.alm := rfl
@[simp] theorem emit_fc (s : State) (o : Out) : (emit s o).fc = s.fc := rfl
@[simp] theorem emit_lnk (s : State) (o : Out) : (emit s o).lnk = s.lnk := rfl
@[simp] theorem emit_swc (s : State) (o : Out) : (emit s o).swc = s.swc := rfl
@[simp] theorem emit_sch (s : State) (o : Out) : (emit s o).sch = s.sch := rfl
@[simp] theorem emit_mem (s : State) (o : Out) : (emit s o).mem = s.mem := rfl
@[simp] theorem emit_pool (s : State) (o : Out) : (emit s o).pool = s.pool := rfl
@[simp] theorem emit_coh (s : State) (o : Out) : (emit s o).coh = s.coh := rfl
@[simp] theorem emit_dns (s : State) (o : Out) : (emit s o).dns = s.dns := rfl
@[simp] theorem emit_trw (s : State) (o : Out) : (emit s o).trw = s.trw := rfl
@[simp] theorem emit_til (s : State) (o : Out) : (emit s o).til = s.til := rfl
@[simp] theorem emit_cor (s : State) (o : Out) : (emit s o).cor = s.cor := rfl
@[simp] theorem emit_cfg (s : State) (o : Out) : (emit s o).cfg = s.cfg := rfl
@[simp] theorem emit_nv (s : State) (o : Out) : (emit s o).nv = s.nv := rfl
@[simp] theorem emit_sec (s : State) (o : Out) : (emit s o).sec = s.sec := rfl
@[simp] theorem emit_scr (s : State) (o : Out) : (emit s o).scr = s.scr := rfl
@[simp] theorem emit_ras (s : State) (o : Out) : (emit s o).ras = s.ras := rfl
@[simp] theorem emit_tel (s : State) (o : Out) : (emit s o).tel = s.tel := rfl
@[simp] theorem emit_mgmt (s : State) (o : Out) : (emit s o).mgmt = s.mgmt := rfl
@[simp] theorem emit_pwr (s : State) (o : Out) : (emit s o).pwr = s.pwr := rfl
@[simp] theorem emit_ctr (s : State) (o : Out) : (emit s o).ctr = s.ctr := rfl
@[simp] theorem emit_evt (s : State) (o : Out) : (emit s o).evt = s.evt := rfl
@[simp] theorem emit_freeCtr (s : State) (o : Out) : (emit s o).freeCtr = s.freeCtr := rfl
@[simp] theorem emit_hooks (s : State) (o : Out) : (emit s o).hooks = s.hooks := rfl
@[simp] theorem emit_shot (s : State) (o : Out) : (emit s o).shot = s.shot := rfl
@[simp] theorem emit_pending (s : State) (o : Out) : (emit s o).pending = s.pending := rfl

/-! `emits` writes `out` alone. -/

@[simp] theorem emits_alm (s : State) (l : List Out) : (emits s l).alm = s.alm := rfl
@[simp] theorem emits_fc (s : State) (l : List Out) : (emits s l).fc = s.fc := rfl
@[simp] theorem emits_lnk (s : State) (l : List Out) : (emits s l).lnk = s.lnk := rfl
@[simp] theorem emits_swc (s : State) (l : List Out) : (emits s l).swc = s.swc := rfl
@[simp] theorem emits_sch (s : State) (l : List Out) : (emits s l).sch = s.sch := rfl
@[simp] theorem emits_mem (s : State) (l : List Out) : (emits s l).mem = s.mem := rfl
@[simp] theorem emits_pool (s : State) (l : List Out) : (emits s l).pool = s.pool := rfl
@[simp] theorem emits_coh (s : State) (l : List Out) : (emits s l).coh = s.coh := rfl
@[simp] theorem emits_dns (s : State) (l : List Out) : (emits s l).dns = s.dns := rfl
@[simp] theorem emits_trw (s : State) (l : List Out) : (emits s l).trw = s.trw := rfl
@[simp] theorem emits_til (s : State) (l : List Out) : (emits s l).til = s.til := rfl
@[simp] theorem emits_cor (s : State) (l : List Out) : (emits s l).cor = s.cor := rfl
@[simp] theorem emits_cfg (s : State) (l : List Out) : (emits s l).cfg = s.cfg := rfl
@[simp] theorem emits_nv (s : State) (l : List Out) : (emits s l).nv = s.nv := rfl
@[simp] theorem emits_sec (s : State) (l : List Out) : (emits s l).sec = s.sec := rfl
@[simp] theorem emits_scr (s : State) (l : List Out) : (emits s l).scr = s.scr := rfl
@[simp] theorem emits_ras (s : State) (l : List Out) : (emits s l).ras = s.ras := rfl
@[simp] theorem emits_tel (s : State) (l : List Out) : (emits s l).tel = s.tel := rfl
@[simp] theorem emits_mgmt (s : State) (l : List Out) : (emits s l).mgmt = s.mgmt := rfl
@[simp] theorem emits_pwr (s : State) (l : List Out) : (emits s l).pwr = s.pwr := rfl
@[simp] theorem emits_ctr (s : State) (l : List Out) : (emits s l).ctr = s.ctr := rfl
@[simp] theorem emits_evt (s : State) (l : List Out) : (emits s l).evt = s.evt := rfl
@[simp] theorem emits_freeCtr (s : State) (l : List Out) : (emits s l).freeCtr = s.freeCtr := rfl
@[simp] theorem emits_hooks (s : State) (l : List Out) : (emits s l).hooks = s.hooks := rfl
@[simp] theorem emits_shot (s : State) (l : List Out) : (emits s l).shot = s.shot := rfl
@[simp] theorem emits_pending (s : State) (l : List Out) : (emits s l).pending = s.pending := rfl

/-! `bumpSel` writes `ctr` alone. -/

@[simp] theorem bumpSel_alm (s : State) (reg sel n : Nat) : (bumpSel s reg sel n).alm = s.alm := rfl
@[simp] theorem bumpSel_fc (s : State) (reg sel n : Nat) : (bumpSel s reg sel n).fc = s.fc := rfl
@[simp] theorem bumpSel_lnk (s : State) (reg sel n : Nat) : (bumpSel s reg sel n).lnk = s.lnk := rfl
@[simp] theorem bumpSel_swc (s : State) (reg sel n : Nat) : (bumpSel s reg sel n).swc = s.swc := rfl
@[simp] theorem bumpSel_sch (s : State) (reg sel n : Nat) : (bumpSel s reg sel n).sch = s.sch := rfl
@[simp] theorem bumpSel_mem (s : State) (reg sel n : Nat) : (bumpSel s reg sel n).mem = s.mem := rfl
@[simp] theorem bumpSel_pool (s : State) (reg sel n : Nat) : (bumpSel s reg sel n).pool = s.pool := rfl
@[simp] theorem bumpSel_coh (s : State) (reg sel n : Nat) : (bumpSel s reg sel n).coh = s.coh := rfl
@[simp] theorem bumpSel_dns (s : State) (reg sel n : Nat) : (bumpSel s reg sel n).dns = s.dns := rfl
@[simp] theorem bumpSel_trw (s : State) (reg sel n : Nat) : (bumpSel s reg sel n).trw = s.trw := rfl
@[simp] theorem bumpSel_til (s : State) (reg sel n : Nat) : (bumpSel s reg sel n).til = s.til := rfl
@[simp] theorem bumpSel_cor (s : State) (reg sel n : Nat) : (bumpSel s reg sel n).cor = s.cor := rfl
@[simp] theorem bumpSel_cfg (s : State) (reg sel n : Nat) : (bumpSel s reg sel n).cfg = s.cfg := rfl
@[simp] theorem bumpSel_nv (s : State) (reg sel n : Nat) : (bumpSel s reg sel n).nv = s.nv := rfl
@[simp] theorem bumpSel_sec (s : State) (reg sel n : Nat) : (bumpSel s reg sel n).sec = s.sec := rfl
@[simp] theorem bumpSel_scr (s : State) (reg sel n : Nat) : (bumpSel s reg sel n).scr = s.scr := rfl
@[simp] theorem bumpSel_ras (s : State) (reg sel n : Nat) : (bumpSel s reg sel n).ras = s.ras := rfl
@[simp] theorem bumpSel_tel (s : State) (reg sel n : Nat) : (bumpSel s reg sel n).tel = s.tel := rfl
@[simp] theorem bumpSel_mgmt (s : State) (reg sel n : Nat) : (bumpSel s reg sel n).mgmt = s.mgmt := rfl
@[simp] theorem bumpSel_pwr (s : State) (reg sel n : Nat) : (bumpSel s reg sel n).pwr = s.pwr := rfl
@[simp] theorem bumpSel_evt (s : State) (reg sel n : Nat) : (bumpSel s reg sel n).evt = s.evt := rfl
@[simp] theorem bumpSel_out (s : State) (reg sel n : Nat) : (bumpSel s reg sel n).out = s.out := rfl
@[simp] theorem bumpSel_freeCtr (s : State) (reg sel n : Nat) : (bumpSel s reg sel n).freeCtr = s.freeCtr := rfl
@[simp] theorem bumpSel_hooks (s : State) (reg sel n : Nat) : (bumpSel s reg sel n).hooks = s.hooks := rfl
@[simp] theorem bumpSel_shot (s : State) (reg sel n : Nat) : (bumpSel s reg sel n).shot = s.shot := rfl
@[simp] theorem bumpSel_pending (s : State) (reg sel n : Nat) : (bumpSel s reg sel n).pending = s.pending := rfl

end Sys2Proof.Machine
end

