-- ==== Sys2Proof/Laws/Ops.lean ====
section
/-! SUPPORT. What the shared operations can do, said once each: the gate of every meaning, frames, counters, the event log. A later proof
cites these and unfolds none of them. -/

namespace Sys2Proof.Machine

open Safety

/-! ### The gate -/

/-- A meaning behind the gate always answers a next state: its effect, taken in by the switch core, where the command can arise and the
device is out of reset; else nothing changes. -/
theorem live_cases (ok : Bool) (s : State) (f : State → State) :
    (ok = true ∧ s.pwr.inReset = false ∧ live ok s f = .next (handOver (f s))) ∨
    ((ok = false ∨ s.pwr.inReset = true) ∧ live ok s f = .next s) := by
  cases ok <;> cases h : s.pwr.inReset <;> simp [live, h]

theorem live_awake {s : State} {f : State → State} (h : Awake s) : live true s f = .next (handOver (f s)) := by
  unfold Awake at h
  simp [live, h]

theorem live_reset {ok : Bool} {s : State} {f : State → State} (h : s.pwr.inReset = true) : live ok s f = .next s := by simp [live, h]

theorem live_illFormed (s : State) (f : State → State) : live false s f = .next s := rfl

@[simp] theorem always_wf (s : State) (f : State → State) : always true s f = .next (handOver (f s)) := rfl

theorem always_illFormed (s : State) (f : State → State) : always false s f = .next s := rfl

/-- Where nothing has been sent since the last time, handing over changes nothing but the mark of how far it has come. -/
theorem handOver_idle {s : State} (h : s.out.length ≤ s.swc.handed) :
    handOver s = { s with swc := { s.swc with handed := s.out.length } } := by
  simp [handOver, handPass, List.drop_eq_nil_of_le h]

/-! ### Register reads -/

/-- In the tick of reset a read sees the state as it is. -/
theorem seen_now {s : State} (h : s.shot = none) : seen s = s := by simp [seen, h]

/-- Afterwards it sees the state as the tick began: nothing that happens in the tick shows in a register (R592). -/
theorem seen_shot {s t : State} (h : t.shot = s.shot) (k : s.shot ≠ none) : shotOf (seen t) = shotOf (seen s) := by
  unfold seen
  rw [h]
  cases hs : s.shot with
  | none => exact absurd hs k
  | some x => rfl

/-! ### Frames -/

theorem same_refl (p : Part) (s : State) : same p s s := by cases p <;> simp [same]

theorem same_trans {p : Part} {s t u : State} (h : same p s t) (k : same p t u) : same p s u := by
  cases p <;> first | exact Eq.trans k h | exact fun a => (k a).trans (h a)

theorem only_refl (l : List Part) (s : State) : Only l s s := fun p _ => same_refl p s

theorem only_trans {l : List Part} {s t u : State} (h : Only l s t) (k : Only l t u) : Only l s u := fun p hp => same_trans (h p hp) (k p hp)

theorem only_mono {l m : List Part} {s t : State} (h : Only l s t) (k : ∀ p ∈ l, p ∈ m) : Only m s t := fun p hp => h p fun q => hp (k p q)

/-! ### What is sent, and counters -/

theorem emit_only (s : State) (o : Out) : Only [.out] s (emit s o) := by
  intro p h
  cases p <;> first | rfl | exact fun _ => rfl | simp at h

@[simp] theorem emit_out (s : State) (o : Out) : (emit s o).out = s.out ++ [o] := rfl
@[simp] theorem emits_out (s : State) (l : List Out) : (emits s l).out = s.out ++ l := rfl

theorem bumpSel_only (s : State) (reg sel n : Nat) : Only [.ctr] s (bumpSel s reg sel n) := by
  intro p h
  cases p <;> first | rfl | exact fun _ => rfl | simp at h

theorem bump_only (s : State) (reg n : Nat) : Only [.ctr] s (bump s reg n) := bumpSel_only s reg 0 n

@[simp] theorem ctrGet_bumpSel (s : State) (reg sel n : Nat) : ctrGet (bumpSel s reg sel n) reg sel = (ctrGet s reg sel + n) % two64 := by
  simp [ctrGet, bumpSel]

theorem ctrGet_bumpSel_ne (s : State) {reg sel a b : Nat} (n : Nat) (h : (a, b) ≠ (reg, sel)) : ctrGet (bumpSel s reg sel n) a b = ctrGet s a b := by
  simp [ctrGet, bumpSel, alGetD_alMod_ne _ _ _ h]

/-- A counter that grows says so. -/
theorem bump_counted (s : State) (reg n : Nat) : Counted s (bump s reg n) reg n := ctrGet_bumpSel s reg 0 n

theorem draw_only (s : State) : Only [.freeCtr] s (draw s).2 := by
  intro p h
  cases p <;> first | rfl | exact fun _ => rfl | simp at h

theorem correctedIn_only (s : State) (reg : Nat) : Only [.ctr, .freeCtr] s (correctedIn s reg) :=
  only_trans (only_mono (draw_only s) (by simp)) (only_trans (only_mono (bump_only _ _ _) (by simp)) (only_mono (bump_only _ _ _) (by simp)))

/-! ### The event log (R596 to R598) -/

/-- A state that differs in the parts that events write. -/
theorem eventParts_of {s t : State} {l : List Part} (h : Only l s t) (k : ∀ p ∈ l, p ∈ eventParts) : Only eventParts s t := only_mono h k

theorem writeLog_only (s : State) (block cls code unit : Nat) (detail : List Byte) : Only eventParts s (writeLog s block cls code unit detail) := by
  intro p h
  simp only [writeLog]
  split
  · cases p <;> first | rfl | exact fun _ => rfl | simp [eventParts] at h
  · by_cases f : logSize ≤ s.tel.log.length <;> simp only [f, if_true, if_false] <;> cases p <;>
      first | rfl | exact fun _ => rfl | simp [eventParts] at h

theorem setEvt_only (s : State) (reg bitNo : Nat) : Only eventParts s (setEvt s reg bitNo) := by
  intro p h
  simp only [setEvt]
  split <;> split <;> cases p <;> first | rfl | exact fun _ => rfl | simp [eventParts] at h

@[simp] theorem setEvt_evt (s : State) (reg bitNo : Nat) :
    (setEvt s reg bitNo).evt = alMod s.evt reg 0 fun w => w ||| BitVec.ofNat 32 (2 ^ bitNo) := by
  simp only [setEvt]
  split <;> split <;> rfl

@[simp] theorem setEvt_tel (s : State) (reg bitNo : Nat) : (setEvt s reg bitNo).tel = s.tel := by
  simp only [setEvt]
  split <;> split <;> rfl

@[simp] theorem writeLog_evt (s : State) (block cls code unit : Nat) (detail : List Byte) : (writeLog s block cls code unit detail).evt = s.evt := by
  simp only [writeLog]
  split
  · rfl
  · by_cases f : logSize ≤ s.tel.log.length <;> simp only [f, if_true, if_false] <;> rfl

theorem logEvent_only (s : State) (block cls code unit : Nat) (detail : List Byte) : Only eventParts s (logEvent s block cls code unit detail) := by
  simp only [logEvent]
  split
  · refine only_trans (writeLog_only s block cls code unit detail) (only_trans ?_ (writeLog_only _ 17 cls 0 noUnit []))
    refine only_trans ?_ (setEvt_only _ Reg.telEventStatus 0)
    intro p h
    cases p <;> first | rfl | exact fun _ => rfl | simp [eventParts] at h
  · exact writeLog_only s block cls code unit detail

end Sys2Proof.Machine
end

