-- ==== Sys2Proof/Laws/PerInstr.lean ====
section
/-! SUPPORT. The per-instruction family NoWord: the operation table gives no row bits, so the decoder reads a command from no
word. -/

namespace Sys2Proof.Laws.NoWord

open Sys2Proof

/-- No word of any width spells the command. -/
def Statement (i : Instr) : Prop := ∀ nbits w : Nat, decodeTableWord nbits w ≠ some i

theorem resetRelease : ∀ a0, Statement (.resetRelease a0) := fun _ _ _ h => nomatch h
theorem pcieReset : Statement .pcieReset := fun _ _ h => nomatch h
theorem tapReset : Statement .tapReset := fun _ _ h => nomatch h
theorem railFault : ∀ a0 a1, Statement (.railFault a0 a1) := fun _ _ _ _ h => nomatch h
theorem clockLost : Statement .clockLost := fun _ _ h => nomatch h
theorem thermtrip : Statement .thermtrip := fun _ _ h => nomatch h
theorem refclkSdsFail : ∀ a0, Statement (.refclkSdsFail a0) := fun _ _ _ h => nomatch h
theorem boot : Statement .boot := fun _ _ h => nomatch h
theorem almStart : Statement .almStart := fun _ _ h => nomatch h
theorem extRefEdge : ∀ a0 a1, Statement (.extRefEdge a0 a1) := fun _ _ _ _ h => nomatch h
theorem beaconRx : ∀ a0 a1 a2, Statement (.beaconRx a0 a1 a2) := fun _ _ _ _ _ h => nomatch h
theorem claimRx : ∀ a0 a1, Statement (.claimRx a0 a1) := fun _ _ _ _ h => nomatch h
theorem beaconWindowClose : Statement .beaconWindowClose := fun _ _ h => nomatch h
theorem holdoverLimitExpiry : Statement .holdoverLimitExpiry := fun _ _ h => nomatch h
theorem almanacStartTimeout : Statement .almanacStartTimeout := fun _ _ h => nomatch h
theorem islandGmTimeout : Statement .islandGmTimeout := fun _ _ h => nomatch h
theorem timeStepped : Statement .timeStepped := fun _ _ h => nomatch h
theorem beaconSend : Statement .beaconSend := fun _ _ h => nomatch h
theorem claimFlood : Statement .claimFlood := fun _ _ h => nomatch h
theorem pdelayMeasure : ∀ a0 a1, Statement (.pdelayMeasure a0 a1) := fun _ _ _ _ h => nomatch h
theorem pdelayReqRx : ∀ a0 a1, Statement (.pdelayReqRx a0 a1) := fun _ _ _ _ h => nomatch h
theorem ptpFrameRx : ∀ a0 a1, Statement (.ptpFrameRx a0 a1) := fun _ _ _ _ h => nomatch h
theorem synceSelect : ∀ a0, Statement (.synceSelect a0) := fun _ _ _ h => nomatch h
theorem twinTimeSync : ∀ a0 a1, Statement (.twinTimeSync a0 a1) := fun _ _ _ _ h => nomatch h
theorem forecastEntryStart : ∀ a0 a1, Statement (.forecastEntryStart a0 a1) := fun _ _ _ _ h => nomatch h
theorem forecastEntryEnd : ∀ a0 a1, Statement (.forecastEntryEnd a0 a1) := fun _ _ _ _ h => nomatch h
theorem forecastPeriodBoundary : ∀ a0, Statement (.forecastPeriodBoundary a0) := fun _ _ _ h => nomatch h
theorem slotAllowanceSet : ∀ a0, Statement (.slotAllowanceSet a0) := fun _ _ _ h => nomatch h
theorem redGrantSet : ∀ a0, Statement (.redGrantSet a0) := fun _ _ _ h => nomatch h
theorem shaperRefill : ∀ a0, Statement (.shaperRefill a0) := fun _ _ _ h => nomatch h
theorem policerRefill : ∀ a0, Statement (.policerRefill a0) := fun _ _ _ h => nomatch h
theorem portTrainDone : ∀ a0 a1, Statement (.portTrainDone a0 a1) := fun _ _ _ _ h => nomatch h
theorem degradeTimeout : ∀ a0, Statement (.degradeTimeout a0) := fun _ _ _ h => nomatch h
theorem llrInitRx : ∀ a0 a1, Statement (.llrInitRx a0 a1) := fun _ _ _ _ h => nomatch h
theorem llrInitTimeout : ∀ a0, Statement (.llrInitTimeout a0) := fun _ _ _ h => nomatch h
theorem llrDataRx : ∀ a0 a1 a2, Statement (.llrDataRx a0 a1 a2) := fun _ _ _ _ _ h => nomatch h
theorem llrAckTimer : ∀ a0, Statement (.llrAckTimer a0) := fun _ _ _ h => nomatch h
theorem llrAckRx : ∀ a0 a1, Statement (.llrAckRx a0 a1) := fun _ _ _ _ h => nomatch h
theorem llrNakRx : ∀ a0 a1, Statement (.llrNakRx a0 a1) := fun _ _ _ _ h => nomatch h
theorem llrReplayTimeout : ∀ a0, Statement (.llrReplayTimeout a0) := fun _ _ _ h => nomatch h
theorem losHoldExpiry : ∀ a0, Statement (.losHoldExpiry a0) := fun _ _ _ h => nomatch h
theorem linkErrorWindow : ∀ a0 a1 a2 a3, Statement (.linkErrorWindow a0 a1 a2 a3) := fun _ _ _ _ _ _ h => nomatch h
theorem spareReqRx : ∀ a0 a1 a2, Statement (.spareReqRx a0 a1 a2) := fun _ _ _ _ _ h => nomatch h
theorem spareAckRx : ∀ a0 a1, Statement (.spareAckRx a0 a1) := fun _ _ _ _ h => nomatch h
theorem spareAlignLock : ∀ a0, Statement (.spareAlignLock a0) := fun _ _ _ h => nomatch h
theorem spareDoneRx : ∀ a0 a1, Statement (.spareDoneRx a0 a1) := fun _ _ _ _ h => nomatch h
theorem spareLost : ∀ a0, Statement (.spareLost a0) := fun _ _ _ h => nomatch h
theorem cageRetryExpiry : ∀ a0 a1 a2, Statement (.cageRetryExpiry a0 a1 a2) := fun _ _ _ _ _ h => nomatch h
theorem cagePresenceChange : ∀ a0 a1 a2 a3, Statement (.cagePresenceChange a0 a1 a2 a3) := fun _ _ _ _ _ _ h => nomatch h
theorem cageProbe : ∀ a0 a1 a2, Statement (.cageProbe a0 a1 a2) := fun _ _ _ _ _ h => nomatch h
theorem mkaFrameRx : ∀ a0 a1, Statement (.mkaFrameRx a0 a1) := fun _ _ _ _ h => nomatch h
theorem frameArrival : ∀ a0 a1, Statement (.frameArrival a0 a1) := fun _ _ _ _ h => nomatch h
theorem macAgeOut : ∀ a0 a1, Statement (.macAgeOut a0 a1) := fun _ _ _ _ h => nomatch h
theorem pfcRx : ∀ a0 a1 a2, Statement (.pfcRx a0 a1 a2) := fun _ _ _ _ _ h => nomatch h
theorem pfcRefresh : ∀ a0 a1, Statement (.pfcRefresh a0 a1) := fun _ _ _ _ h => nomatch h
theorem pfcQuantaExpiry : ∀ a0 a1, Statement (.pfcQuantaExpiry a0 a1) := fun _ _ _ _ h => nomatch h
theorem pfcWdExpiry : ∀ a0 a1, Statement (.pfcWdExpiry a0 a1) := fun _ _ _ _ h => nomatch h
theorem schedSelect : ∀ a0, Statement (.schedSelect a0) := fun _ _ _ h => nomatch h
theorem reseqTimeout : ∀ a0 a1 a2 a3, Statement (.reseqTimeout a0 a1 a2 a3) := fun _ _ _ _ _ _ h => nomatch h
theorem bufUncorr : ∀ a0 a1, Statement (.bufUncorr a0 a1) := fun _ _ _ _ h => nomatch h
theorem read : ∀ a0, Statement (.read a0) := fun _ _ _ h => nomatch h
theorem write : ∀ a0, Statement (.write a0) := fun _ _ _ h => nomatch h
theorem writeMasked : ∀ a0, Statement (.writeMasked a0) := fun _ _ _ h => nomatch h
theorem flush : ∀ a0, Statement (.flush a0) := fun _ _ _ h => nomatch h
theorem discard : ∀ a0, Statement (.discard a0) := fun _ _ _ h => nomatch h
theorem atomic : ∀ a0, Statement (.atomic a0) := fun _ _ _ h => nomatch h
theorem mirrorWrite : ∀ a0, Statement (.mirrorWrite a0) := fun _ _ _ h => nomatch h
theorem mirrorMasked : ∀ a0, Statement (.mirrorMasked a0) := fun _ _ _ h => nomatch h
theorem mirrorDiscard : ∀ a0, Statement (.mirrorDiscard a0) := fun _ _ _ h => nomatch h
theorem mirrorFlush : ∀ a0, Statement (.mirrorFlush a0) := fun _ _ _ h => nomatch h
theorem mirrorRead : ∀ a0, Statement (.mirrorRead a0) := fun _ _ _ h => nomatch h
theorem pairReset : ∀ a0, Statement (.pairReset a0) := fun _ _ _ h => nomatch h
theorem completion : ∀ a0, Statement (.completion a0) := fun _ _ _ h => nomatch h
theorem poolTimeout : ∀ a0 a1, Statement (.poolTimeout a0 a1) := fun _ _ _ _ h => nomatch h
theorem trayBusyRetry : ∀ a0 a1, Statement (.trayBusyRetry a0 a1) := fun _ _ _ _ h => nomatch h
theorem holdExpiry : ∀ a0 a1, Statement (.holdExpiry a0 a1) := fun _ _ _ _ h => nomatch h
theorem shortWaitExpiry : ∀ a0 a1, Statement (.shortWaitExpiry a0 a1) := fun _ _ _ _ h => nomatch h
theorem unitMigrate : ∀ a0, Statement (.unitMigrate a0) := fun _ _ _ h => nomatch h
theorem pairRestore : ∀ a0, Statement (.pairRestore a0) := fun _ _ _ h => nomatch h
theorem mirrorResyncStep : ∀ a0, Statement (.mirrorResyncStep a0) := fun _ _ _ h => nomatch h
theorem rdShared : ∀ a0, Statement (.rdShared a0) := fun _ _ _ h => nomatch h
theorem rdAny : ∀ a0, Statement (.rdAny a0) := fun _ _ _ h => nomatch h
theorem rdOwn : ∀ a0, Statement (.rdOwn a0) := fun _ _ _ h => nomatch h
theorem upgrade : ∀ a0, Statement (.upgrade a0) := fun _ _ _ h => nomatch h
theorem wbDirty : ∀ a0, Statement (.wbDirty a0) := fun _ _ _ h => nomatch h
theorem evictClean : ∀ a0, Statement (.evictClean a0) := fun _ _ _ h => nomatch h
theorem register : ∀ a0, Statement (.register a0) := fun _ _ _ h => nomatch h
theorem deregister : ∀ a0, Statement (.deregister a0) := fun _ _ _ h => nomatch h
theorem snoopResponse : ∀ a0, Statement (.snoopResponse a0) := fun _ _ _ h => nomatch h
theorem recallTimeout : ∀ a0 a1, Statement (.recallTimeout a0 a1) := fun _ _ _ _ h => nomatch h
theorem lineFreeGrant : ∀ a0, Statement (.lineFreeGrant a0) := fun _ _ _ h => nomatch h
theorem poisonTableCopy : Statement .poisonTableCopy := fun _ _ h => nomatch h
theorem rollbackDrainEnd : Statement .rollbackDrainEnd := fun _ _ h => nomatch h
theorem brDone : ∀ a0, Statement (.brDone a0) := fun _ _ _ h => nomatch h
theorem brNotify : ∀ a0, Statement (.brNotify a0) := fun _ _ _ h => nomatch h
theorem mediaTimeout : ∀ a0 a1, Statement (.mediaTimeout a0 a1) := fun _ _ _ _ h => nomatch h
theorem bridgeBusyRetry : ∀ a0 a1, Statement (.bridgeBusyRetry a0 a1) := fun _ _ _ _ h => nomatch h
theorem gcStep : Statement .gcStep := fun _ _ h => nomatch h
theorem refresh : ∀ a0, Statement (.refresh a0) := fun _ _ _ h => nomatch h
theorem patrolStep : Statement .patrolStep := fun _ _ h => nomatch h
theorem rebuildStep : Statement .rebuildStep := fun _ _ h => nomatch h
theorem mapCheckpoint : Statement .mapCheckpoint := fun _ _ h => nomatch h
theorem denseRecovery : Statement .denseRecovery := fun _ _ h => nomatch h
theorem recoveryDone : Statement .recoveryDone := fun _ _ h => nomatch h
theorem redContrib : ∀ a0, Statement (.redContrib a0) := fun _ _ _ h => nomatch h
theorem spillReadback : ∀ a0 a1 a2, Statement (.spillReadback a0 a1 a2) := fun _ _ _ _ _ h => nomatch h
theorem stageWaitExpiry : ∀ a0 a1, Statement (.stageWaitExpiry a0 a1) := fun _ _ _ _ h => nomatch h
theorem lateExpiry : ∀ a0 a1 a2, Statement (.lateExpiry a0 a1 a2) := fun _ _ _ _ _ h => nomatch h
theorem failExpiry : ∀ a0 a1 a2, Statement (.failExpiry a0 a1 a2) := fun _ _ _ _ _ h => nomatch h
theorem gaugeInc : ∀ a0, Statement (.gaugeInc a0) := fun _ _ _ h => nomatch h
theorem gaugeRead : ∀ a0, Statement (.gaugeRead a0) := fun _ _ _ h => nomatch h
theorem unitRetired : ∀ a0, Statement (.unitRetired a0) := fun _ _ _ h => nomatch h
theorem stageUncorr : ∀ a0 a1 a2, Statement (.stageUncorr a0 a1 a2) := fun _ _ _ _ _ h => nomatch h
theorem gather : ∀ a0, Statement (.gather a0) := fun _ _ _ h => nomatch h
theorem sieve : ∀ a0, Statement (.sieve a0) := fun _ _ _ h => nomatch h
theorem gatherUnitRetired : ∀ a0 a1, Statement (.gatherUnitRetired a0 a1) := fun _ _ _ _ h => nomatch h
theorem rubUpdate : ∀ a0 a1, Statement (.rubUpdate a0 a1) := fun _ _ _ _ h => nomatch h
theorem tileInvoke : ∀ a0, Statement (.tileInvoke a0) := fun _ _ _ h => nomatch h
theorem lowerDone : ∀ a0, Statement (.lowerDone a0) := fun _ _ _ h => nomatch h
theorem partDispatch : ∀ a0, Statement (.partDispatch a0) := fun _ _ _ h => nomatch h
theorem tileOpEnd : ∀ a0, Statement (.tileOpEnd a0) := fun _ _ _ h => nomatch h
theorem tileRetired : ∀ a0, Statement (.tileRetired a0) := fun _ _ _ h => nomatch h
theorem noTileWaitExpiry : ∀ a0 a1, Statement (.noTileWaitExpiry a0 a1) := fun _ _ _ _ h => nomatch h
theorem hostOpRun : ∀ a0, Statement (.hostOpRun a0) := fun _ _ _ h => nomatch h
theorem residentStart : ∀ a0, Statement (.residentStart a0) := fun _ _ _ h => nomatch h
theorem exit : ∀ a0, Statement (.exit a0) := fun _ _ _ h => nomatch h
theorem poolRead : ∀ a0 a1 a2 a3 a4 a5, Statement (.poolRead a0 a1 a2 a3 a4 a5) := fun _ _ _ _ _ _ _ _ h => nomatch h
theorem poolWrite : ∀ a0 a1 a2 a3 a4, Statement (.poolWrite a0 a1 a2 a3 a4) := fun _ _ _ _ _ _ _ h => nomatch h
theorem poolAtomic : ∀ a0 a1 a2 a3, Statement (.poolAtomic a0 a1 a2 a3) := fun _ _ _ _ _ _ h => nomatch h
theorem poolFlush : ∀ a0 a1 a2 a3, Statement (.poolFlush a0 a1 a2 a3) := fun _ _ _ _ _ _ h => nomatch h
theorem ecallTileInvoke : ∀ a0 a1 a2, Statement (.ecallTileInvoke a0 a1 a2) := fun _ _ _ _ _ h => nomatch h
theorem mbxRecv : ∀ a0 a1, Statement (.mbxRecv a0 a1) := fun _ _ _ _ h => nomatch h
theorem mbxSend : ∀ a0 a1 a2 a3 a4, Statement (.mbxSend a0 a1 a2 a3 a4) := fun _ _ _ _ _ _ _ h => nomatch h
theorem time : ∀ a0, Statement (.time a0) := fun _ _ _ h => nomatch h
theorem random : ∀ a0 a1, Statement (.random a0 a1) := fun _ _ _ _ h => nomatch h
theorem ecallUnknown : ∀ a0 a1, Statement (.ecallUnknown a0 a1) := fun _ _ _ _ h => nomatch h
theorem mbxPost : ∀ a0, Statement (.mbxPost a0) := fun _ _ _ h => nomatch h
theorem resFaulted : ∀ a0 a1 a2, Statement (.resFaulted a0 a1 a2) := fun _ _ _ _ _ h => nomatch h
theorem firmwareCoreRetired : ∀ a0, Statement (.firmwareCoreRetired a0) := fun _ _ _ h => nomatch h
theorem hostCoreFault : ∀ a0, Statement (.hostCoreFault a0) := fun _ _ _ h => nomatch h
theorem spdmMsg : ∀ a0 a1, Statement (.spdmMsg a0 a1) := fun _ _ _ _ h => nomatch h
theorem keyLoad : ∀ a0 a1, Statement (.keyLoad a0 a1) := fun _ _ _ _ h => nomatch h
theorem keyErase : ∀ a0 a1, Statement (.keyErase a0 a1) := fun _ _ _ _ h => nomatch h
theorem linkCak : ∀ a0 a1, Statement (.linkCak a0 a1) := fun _ _ _ _ h => nomatch h
theorem keyApplied : ∀ a0, Statement (.keyApplied a0) := fun _ _ _ h => nomatch h
theorem rekeyStep : ∀ a0, Statement (.rekeyStep a0) := fun _ _ _ h => nomatch h
theorem rngStartupTest : ∀ a0, Statement (.rngStartupTest a0) := fun _ _ _ h => nomatch h
theorem rngRetest : Statement .rngRetest := fun _ _ h => nomatch h
theorem drbgReseed : Statement .drbgReseed := fun _ _ h => nomatch h
theorem debugNonceRead : Statement .debugNonceRead := fun _ _ h => nomatch h
theorem debugUnlocked : ∀ a0 a1, Statement (.debugUnlocked a0 a1) := fun _ _ _ _ h => nomatch h
theorem bridgeTrainDone : ∀ a0, Statement (.bridgeTrainDone a0) := fun _ _ _ h => nomatch h
theorem hello : ∀ a0 a1 a2 a3, Statement (.hello a0 a1 a2 a3) := fun _ _ _ _ _ _ h => nomatch h
theorem pairTimeout : Statement .pairTimeout := fun _ _ h => nomatch h
theorem groupRetired : ∀ a0, Statement (.groupRetired a0) := fun _ _ _ h => nomatch h
theorem heartbeat : Statement .heartbeat := fun _ _ h => nomatch h
theorem partnerSilence : ∀ a0, Statement (.partnerSilence a0) := fun _ _ _ h => nomatch h
theorem takeover : Statement .takeover := fun _ _ h => nomatch h
theorem commitRecord : ∀ a0, Statement (.commitRecord a0) := fun _ _ _ h => nomatch h
theorem commitAck : ∀ a0, Statement (.commitAck a0) := fun _ _ _ h => nomatch h
theorem shadowWaitExpiry : ∀ a0 a1, Statement (.shadowWaitExpiry a0 a1) := fun _ _ _ _ h => nomatch h
theorem controlTransaction : ∀ a0 a1 a2, Statement (.controlTransaction a0 a1 a2) := fun _ _ _ _ _ h => nomatch h
theorem shadowStream : ∀ a0, Statement (.shadowStream a0) := fun _ _ _ h => nomatch h
theorem handback : Statement .handback := fun _ _ h => nomatch h
theorem coatWrite : ∀ a0, Statement (.coatWrite a0) := fun _ _ _ h => nomatch h
theorem coatSubmit : ∀ a0, Statement (.coatSubmit a0) := fun _ _ _ h => nomatch h
theorem coatAssemblyTimeout : Statement .coatAssemblyTimeout := fun _ _ h => nomatch h
theorem journalStaged : Statement .journalStaged := fun _ _ h => nomatch h
theorem patchApply : Statement .patchApply := fun _ _ h => nomatch h
theorem cure : ∀ a0, Statement (.cure a0) := fun _ _ _ h => nomatch h
theorem healthCheckFail : ∀ a0, Statement (.healthCheckFail a0) := fun _ _ _ h => nomatch h
theorem cureEnd : Statement .cureEnd := fun _ _ h => nomatch h
theorem strip : Statement .strip := fun _ _ h => nomatch h
theorem unitReturn : ∀ a0 a1, Statement (.unitReturn a0 a1) := fun _ _ _ _ h => nomatch h
theorem selftestStart : ∀ a0 a1, Statement (.selftestStart a0 a1) := fun _ _ _ _ h => nomatch h
theorem selftestEnd : ∀ a0 a1 a2, Statement (.selftestEnd a0 a1 a2) := fun _ _ _ _ _ h => nomatch h
theorem selftestWaitExpiry : ∀ a0 a1, Statement (.selftestWaitExpiry a0 a1) := fun _ _ _ _ h => nomatch h
theorem unitFault : ∀ a0 a1, Statement (.unitFault a0 a1) := fun _ _ _ _ h => nomatch h
theorem hbmUe : ∀ a0 a1 a2, Statement (.hbmUe a0 a1 a2) := fun _ _ _ _ _ h => nomatch h
theorem hbmCeWindow : ∀ a0 a1 a2 a3, Statement (.hbmCeWindow a0 a1 a2 a3) := fun _ _ _ _ _ _ h => nomatch h
theorem hbmRowRepaired : ∀ a0 a1, Statement (.hbmRowRepaired a0 a1) := fun _ _ _ _ h => nomatch h
theorem pcMoveDone : ∀ a0, Statement (.pcMoveDone a0) := fun _ _ _ h => nomatch h
theorem frostNotice : ∀ a0, Statement (.frostNotice a0) := fun _ _ _ h => nomatch h
theorem thaw : ∀ a0, Statement (.thaw a0) := fun _ _ _ h => nomatch h
theorem thawApply : ∀ a0, Statement (.thawApply a0) := fun _ _ _ h => nomatch h
theorem calibration : ∀ a0, Statement (.calibration a0) := fun _ _ _ h => nomatch h
theorem snapshot : Statement .snapshot := fun _ _ h => nomatch h
theorem snapshotSend : Statement .snapshotSend := fun _ _ h => nomatch h
theorem regRead : ∀ a0, Statement (.regRead a0) := fun _ _ _ h => nomatch h
theorem regWrite : ∀ a0, Statement (.regWrite a0) := fun _ _ _ h => nomatch h
theorem registerWrite : ∀ a0 a1 a2, Statement (.registerWrite a0 a1 a2) := fun _ _ _ _ _ h => nomatch h
theorem mbxDoorbell : ∀ a0 a1 a2 a3, Statement (.mbxDoorbell a0 a1 a2 a3) := fun _ _ _ _ _ _ h => nomatch h
theorem loReadLatch : ∀ a0 a1, Statement (.loReadLatch a0 a1) := fun _ _ _ _ h => nomatch h
theorem fuseProgram : ∀ a0, Statement (.fuseProgram a0) := fun _ _ _ h => nomatch h
theorem fuseProgramDone : ∀ a0, Statement (.fuseProgramDone a0) := fun _ _ _ h => nomatch h
theorem powerWindow : ∀ a0 a1, Statement (.powerWindow a0 a1) := fun _ _ _ _ h => nomatch h
theorem thermalCheck : ∀ a0 a1, Statement (.thermalCheck a0 a1) := fun _ _ _ _ h => nomatch h
theorem throttleNChange : ∀ a0, Statement (.throttleNChange a0) := fun _ _ _ h => nomatch h
theorem hostSlowed : Statement .hostSlowed := fun _ _ h => nomatch h
theorem powerUncontrolled : ∀ a0, Statement (.powerUncontrolled a0) := fun _ _ _ h => nomatch h
theorem resetNAsserted : Statement .resetNAsserted := fun _ _ h => nomatch h
theorem extRefLost : Statement .extRefLost := fun _ _ h => nomatch h
theorem lossOfSignal : ∀ a0, Statement (.lossOfSignal a0) := fun _ _ _ h => nomatch h
theorem laneLockRegained : ∀ a0, Statement (.laneLockRegained a0) := fun _ _ _ h => nomatch h
theorem firmwareCoreUpdateDone : ∀ a0, Statement (.firmwareCoreUpdateDone a0) := fun _ _ _ h => nomatch h

end Sys2Proof.Laws.NoWord
end

