-- ==== Sys2Proof/Tests/Slice0.lean ====
section
/-! SUPPORT. Small tests of the model, and witnesses: for each statement with hypotheses, states and operands that meet them, clause by
clause. -/

namespace Sys2Proof.Tests

open Sys2Proof Sys2Proof.Machine Sys2Proof.Safety

set_option Elab.async false

/-! ### Builders -/

/-- A device out of reset that runs a coat and does nothing else. -/
def device (c : Coat) : State :=
  { pwr := { inReset := false, resetLow := false }, cfg := { st := .cured, active := some c, forwarding := true, poolReady := true } }

/-- A record of a coat's REGISTERS section. -/
def rg (addr sel val : Nat) : RegRec := { addr, sel, val := BitVec.ofNat 32 val }

/-- A message with its CRC right. -/
def remsg (op : Nat) (m : Msg) : Msg := { m with crc := crc32c (headerBytes op m ++ m.payload) }

/-- A message from endpoint 2 to the device, whose endpoint ID is 0, with a key of tenant 1 and job 1. -/
def bare (address : Nat) (payload : List Byte) : Msg :=
  { port := 0, version := 1, cls := 0, flags := 0, source := 2, dest := 0, tag := 7, seq := 0, length := BitVec.ofNat 16 payload.length, wt := 1,
    job := 1, epoch := 0, address := BitVec.ofNat 64 address, payload, crc := 0 }

/-- The same with its CRC right. -/
def msg (op address : Nat) (payload : List Byte) : Msg := remsg op (bare address payload)

/-- A message of version 1 from an endpoint ID of 20 bits with its CRC right is received well. -/
theorem received (op : Nat) (m : Msg) (h : (m.version == 1 && decide (m.source.toNat < 1048576)) = true) : wellReceived op (remsg op m) = true := by
  have hc : crcOk op (remsg op m) = true := by simp [crcOk, remsg, headerBytes]
  simp only [Bool.and_eq_true] at h
  simp only [wellReceived, Bool.and_eq_true]
  exact ⟨⟨h.1, h.2⟩, hc⟩

/-- A frame with nothing in it. -/
def plainFrame : Frame :=
  { dst := 0xA, src := 0xB, len := 100, fcs := .good, tag := none, inner := none, etherType := 0x0800, ip := none, pmt := none, body := [] }

/-- A PAUSE frame. -/
def pauseFrame : Frame := { plainFrame with etherType := 0x8808, body := [0, 1] }

/-! ### Commands that cannot arise (WellFormed) -/

/-- One command out of range for each kind of range; each is refused. -/
def illFormed : List Instr :=
  [.railFault 14 true, .refclkSdsFail 8, .claimRx 1024 ⟨1, 1, 0, 0, false, false, 0, 0, 0, 0, 0, 0⟩, .pdelayMeasure 1024 0,
   .synceSelect [(1024, 0)], .forecastEntryStart 16384 0, .forecastEntryEnd 0 4096, .forecastPeriodBoundary 16384, .slotAllowanceSet 1024,
   .policerRefill 16384, .portTrainDone 1024 true, .llrDataRx 0 ⟨1, 0, false, false, 0, 0, 0⟩ { plainFrame with len := 65536 },
   .losHoldExpiry 1152, .linkErrorWindow 0 [⟨1152, 0, 0, 0⟩] 0 false, .spareReqRx 0 ⟨1, 4, false, false, 0, 0, 0⟩ 1048576, .spareLost 64,
   .cageProbe 64 true .silent, .macAgeOut 4096 0, .pfcRx 0 0 [0], .pfcWdExpiry 0 8, .reseqTimeout 0 0 4096 0, .reseqTimeout 0 0 0 4,
   .read { msg 1 0 [] with port := 1025 }, .poolTimeout 1048576 0, .poolTimeout 0 65536, .unitMigrate (2 ^ 40), .mirrorResyncStep 16384,
   .recallTimeout 0 (2 ^ 49), .lineFreeGrant (2 ^ 49), .mediaTimeout 48 0, .lateExpiry 16384 0 0, .lateExpiry 0 65536 0,
   .lateExpiry 0 0 (2 ^ 41), .unitRetired 64, .gatherUnitRetired true 16, .rubUpdate 0 80, .lowerDone 1024, .partDispatch 80, .hostOpRun 24,
   .residentStart 64, .exit 24, .poolRead 0 0 0 65536 false false, .poolWrite 0 0 0 (List.replicate 65536 0) false,
   .ecallTileInvoke 0 65536 [], .ecallUnknown 0 9, .firmwareCoreRetired 4, .hostCoreFault 3, .keyApplied 4096, .groupRetired 8,
   .healthCheckFail 6, .unitReturn 9 3, .unitReturn 12 0, .selftestStart 2 80, .hbmUe 512 0 [], .thawApply 65536, .powerWindow 4096 false,
   .thermalCheck [] [], .lossOfSignal 1152, .firmwareCoreUpdateDone 4]

theorem test_ill_formed_are_refused : (illFormed.all fun c => !c.wf) = true := by decide +kernel

/-- Each of them at the last value of its range can arise. -/
theorem test_bounds_arise :
    ([Instr.railFault 13 true, .refclkSdsFail 7, .pdelayMeasure 1023 0, .forecastEntryStart 16383 4095, .losHoldExpiry 1151, .spareLost 63,
      .pfcWdExpiry 1023 7, .reseqTimeout 1023 1023 4095 3, .poolTimeout 1048575 65535, .unitMigrate (2 ^ 40 - 1), .recallTimeout 0 (2 ^ 49 - 1),
      .mediaTimeout 47 0, .lateExpiry 16383 65535 (2 ^ 41 - 1), .partDispatch 79, .residentStart 63, .ecallUnknown 23 10, .hostCoreFault 4,
      .unitReturn 9 23, .selftestStart 9 0, .healthCheckFail 5].all Instr.wf) = true := by decide +kernel

/-- A command that cannot arise changes nothing. -/
theorem test_ill_formed_changes_nothing : exec (.lossOfSignal 1152) (device {}) = .next (device {}) := rfl

/-! ### The step and the gates of every command -/

/-- Two commands waiting. -/
def sQueue : State := { device {} with pending := [.snapshot, .tapReset] }

theorem witness_StepRunsFront : sQueue.pending = .snapshot :: [.tapReset] := rfl
theorem witness_IdleStep_held : State.reset.pending = [] ∧ State.reset.pwr.inReset = true := ⟨rfl, rfl⟩
theorem witness_IdleStep_awake : (device {}).pending = [] ∧ Awake (device {}) ∧ (device {}).scr.ctlAgain = none := ⟨rfl, rfl, rfl⟩

/-- A twin whose control transaction backed off. -/
def sAgain : State := { device {} with scr := { ctlAgain := some .handback } }

theorem witness_IdleStep_again : sAgain.pending = [] ∧ Awake sAgain ∧ sAgain.scr.ctlAgain = some .handback := ⟨rfl, rfl, rfl⟩
theorem witness_CommandsGoOn : State.reset.pwr.inReset = true ∧ Instr.snapshot.wf = true ∧ (Instr.losHoldExpiry 1152).wf = false := by decide
theorem witness_ResetHolds : Held State.reset ∧ exec .clockLost State.reset = .next State.reset :=
  ⟨⟨rfl, rfl, rfl, rfl, rfl, rfl, rfl, rfl, rfl, rfl, rfl, rfl, rfl, rfl, rfl, rfl, rfl, rfl, rfl, rfl, rfl, rfl⟩, rfl⟩
theorem witness_RestStays : Rest (device {}) := by
  refine ⟨⟨rfl, rfl, rfl, rfl, rfl, ?_, .inl rfl, rfl, ?_⟩, ?_⟩ <;> decide +kernel
theorem witness_HeaderRoundTrip : Op.read < 256 := by decide
theorem witness_MemoryKeepsWrites : Memory.wf [(3, (1 : Byte))] := by decide
theorem witness_EventsAreLogged : 31 < 32 ∧ (blockOf Reg.almEventStatus).isSome = true ∧ (device {}).tel.log.length ≤ 65536 := by decide +kernel

/-! ### Power, reset, fuses -/

/-- A device that a fault stopped, RESET_N low. -/
def sStopped : State := { pwr := { stopped := true, cause := [2] } }

theorem witness_ResetsAndStops_release :
    (State.reset.pwr.inReset = true ∧ State.reset.pwr.resetLow = true ∧ State.reset.pwr.stopped = false) ∧
      (sStopped.pwr.inReset = true ∧ sStopped.pwr.resetLow = true ∧ sStopped.pwr.stopped = true) := by decide
theorem witness_ResetsAndStops_fault : Awake (device {}) ∧ 13 < 14 := ⟨rfl, by decide⟩

/-- A retired lane. -/
def sRetiredLane : State := { device {} with lnk := { lanes := [(0, { role := .retired })] } }

theorem witness_ResetsAndStops_lanes : Awake sRetiredLane ∧ 7 < 8 ∧ 63 < 64 ∧ (laneOf sRetiredLane 511).role ≠ .retired ∧
    (laneOf sRetiredLane 575).role ≠ .retired ∧ (laneOf sRetiredLane 0).role = .retired := by
  refine ⟨rfl, ?_⟩; decide +kernel

/-- A coat with PWR_LIMIT_W 100 and a junction limit of 90 °C. -/
def cPwr : Coat := { regs := [rg Reg.pwrCfg 0 (100 + 90 * 4096)] }

/-- A device at effective step 1. -/
def sSlow (half : Bool) : State := { device cPwr with pwr := { inReset := false, resetLow := false, powerStep := 1, hostHalf := half, watts := 101 } }

theorem witness_ThrottleFalls_power : Awake (device cPwr) ∧ 4095 < 4096 ∧ coatFld (device cPwr) Reg.pwrCfg 0 0 12 < 4095 ∧
    (device cPwr).pwr.powerStep = 16 := by refine ⟨rfl, ?_⟩; decide +kernel
theorem witness_ThrottleFalls_heat : Awake (device cPwr) ∧ (90 :: List.replicate 31 (20 : Int)).length = 32 ∧
    (List.replicate 8 (20 : Int)).length = 8 ∧ (∃ x ∈ 90 :: List.replicate 31 (20 : Int), (coatFld (device cPwr) Reg.pwrCfg 0 12 7 : Int) ≤ x) := by
  refine ⟨rfl, ?_⟩; decide +kernel
theorem witness_ThrottleFalls_host : Awake (sSlow false) ∧ effStep (sSlow false) = 1 ∧ callsLower (sSlow false) = true ∧ (sSlow false).pwr.hostHalf = false := by
  refine ⟨rfl, ?_⟩; decide +kernel
theorem witness_ThrottleFalls_uncontrolled : (sSlow true).pwr.hostHalf = true ∧ coatFld (sSlow true) Reg.pwrCfg 0 0 12 < 101 ∧
    100 ≤ coatFld (sSlow true) Reg.pwrCfg 0 0 12 := by decide +kernel

/-- A device in bring-up: no owner key is programmed. -/
def sBringup : State := { device {} with pwr := { inReset := false, resetLow := false, straps := 15 } }

theorem witness_FusesBurn_go : Awake sBringup ∧ bringup sBringup = true ∧ sBringup.scr.role = 0 ∧ sBringup.pwr.fuseBusy = false ∧
    (0x80000003 : BitVec 32).msb = true ∧ alGet sBringup.nv.ownerKeys ((0x80000003 : BitVec 32).toNat % 4) = none := by
  refine ⟨rfl, ?_⟩; decide +kernel

/-- Key 1 is being programmed. -/
def sFusing : State := { device {} with pwr := { inReset := false, resetLow := false, fuseBusy := true, fuseProg := 1, fuseDigest := 5 } }

theorem witness_FusesBurn_done : Awake sFusing ∧ sFusing.pwr.fuseBusy = true := ⟨rfl, rfl⟩

/-! ### Almanac time -/

/-- A coat of a designated device whose ports 1 and 2 are Almanac-enabled, port 3 faces an endpoint, 8 and 16 serve PTP. -/
def cAlm : Coat :=
  { regs := [rg Reg.almConfig 0 0x0A0503, rg Reg.almStartTimeLo 0 5, rg (lnkPort Reg.lnkPortCfg 8) 0 0x18, rg (lnkPort Reg.lnkPortCfg 16) 0 8],
    almanac := { roles := [{ port := 1, almanac := true }, { port := 2, almanac := true }, { port := 3, facing := true },
                           { port := 8, ptp := .boundary }, { port := 16, ptp := .transparent true false }], ptpOffset := 37 } }

/-- The device of that coat with an Almanac state. -/
def sAlm (a : Alm) : State := { device cAlm with alm := a }

/-- A beacon of its interval. -/
def bcn : Beacon :=
  { version := 1, typ := 0, priority := 4, clockClass := 6, holdover := false, island := false, domain := 0, gmEui := Config.eui64 + 1,
    origin := 256000, correction := 0, steps := 1, seq := 0 }

/-- A claim. -/
def claim : Beacon := { bcn with typ := 1 }

theorem witness_TimeIsSet_start : Awake (sAlm {}) ∧ buildingGmCfg (sAlm {}) = true ∧ (sAlm {}).alm.started = false ∧
    (sAlm {}).alm.st = .unset ∧ (sAlm {}).alm.noTime = true := by refine ⟨rfl, ?_⟩; decide +kernel

/-- A step of the time is due, and a calendar runs. -/
def sStep : State := { sAlm { time := 100, pendingStep := some (-101) } with fc := [(3, { active := [0] })] }

theorem witness_TimeIsSet_step : Awake sStep ∧ sStep.alm.pendingStep = some (-101) := ⟨rfl, rfl⟩

/-- The right twin of a pair. -/
def sRight : State := { device {} with scr := { role := 2, st := .paired } }

theorem witness_TimeIsSet_twin : Awake sRight ∧ sRight.scr.role = 2 ∧ sRight.scr.st = .paired := ⟨rfl, rfl, rfl⟩
theorem witness_TimeIsSet_edges : Awake (sAlm { extEdges := 2 }) ∧ true = true ∧ 999999900 ≤ 1000000100 ∧ (sAlm { extEdges := 2 }).alm.extValid = false ∧
    2 ≤ (sAlm { extEdges := 2 }).alm.extEdges := by refine ⟨rfl, ?_⟩; decide
theorem witness_BeaconsAreJudged_malformed : Awake (sAlm {}) ∧ 3 < 1024 ∧ (portOf (sAlm {}) 3).st ≠ .awaitingKey ∧ (portRole (sAlm {}) 3).facing = true ∧
    (portRole (sAlm {}) 1).almanac = true ∧ beaconOk (sAlm {}) { bcn with version := 2 } = false := by refine ⟨rfl, ?_⟩; decide +kernel

/-- LOCKED, two beacons missed. -/
def sLocked (miss : Nat) : State := sAlm { time := 256000, st := .locked, missRun := miss, expect := 256000, upPort := some 1, noTime := false }

theorem witness_BeaconsAreJudged_judged : Awake (sLocked 2) ∧ 1 < 1024 ∧ (portRole (sLocked 2) 1).facing = false ∧
    (portRole (sLocked 2) 1).almanac = true ∧ beaconOk (sLocked 2) bcn = true ∧ timeFromLeft (sLocked 2) = false ∧ bcn.typ = 0 ∧
    bcn.island = false ∧ (sLocked 2).alm.building = false ∧ (sLocked 2).alm.st = .locked ∧ (sLocked 2).alm.missRun ≤ 2 ∧
    (portOf (sLocked 2) 1).st ≠ .awaitingKey ∧ (hear (sLocked 2) 1 bcn).alm.upPort = some 1 ∧ bcn.origin.toNat = (sLocked 2).alm.expect := by refine ⟨rfl, ?_⟩; decide +kernel

/-- 8 ns early and 8 ns late are within the window, 1/16 ns more is not. -/
theorem witness_BeaconsAreJudged_offsets : beaconOffset (sLocked 2) 1 (16 * 256000 - 128) bcn = -524288 ∧
    beaconOffset (sLocked 2) 1 (16 * 256000 - 129) bcn < -524288 ∧ beaconOffset (sLocked 2) 1 (16 * 256000 + 128) bcn = 524288 ∧
    524288 < beaconOffset (sLocked 2) 1 (16 * 256000 + 129) bcn := by decide +kernel

/-- A building grandmaster. -/
def sBuilding : State := sAlm { st := .locked, building := true, claiming := true, gm := true, noTime := false }

theorem eui_succ_ne (x : BitVec 64) : x + 1 ≠ x := by
  intro h
  have h2 : x + 1 - x = x - x := by rw [h]
  rw [BitVec.sub_self, BitVec.add_comm, BitVec.add_sub_cancel] at h2
  exact absurd h2 (by decide)

theorem witness_BeaconsAreJudged_displaced : Awake sBuilding ∧ 1 < 1024 ∧ (portRole sBuilding 1).facing = false ∧
    (portRole sBuilding 1).almanac = true ∧ beaconOk sBuilding claim = true ∧ timeFromLeft sBuilding = false ∧ claim.typ = 1 ∧
    claim.island = false ∧ claim.gmEui ≠ Config.eui64 ∧ sBuilding.alm.building = true ∧ sBuilding.alm.claiming = true ∧
    claim.priority.toNat < almPriority sBuilding ∧ (portOf sBuilding 1).st ≠ .awaitingKey := by
  refine ⟨rfl, by decide, by decide +kernel, by decide +kernel, by decide +kernel, by decide +kernel, rfl, rfl, eui_succ_ne _, rfl, rfl, ?_⟩
  decide +kernel


/-- The same, 8 ns past the time of its interval. -/
def sWaited : State := { sLocked 2 with alm := { (sLocked 2).alm with time := 256008 } }

theorem witness_AlmanacTimers_window : Awake sWaited ∧ awaitsBeacons sWaited = true ∧ sWaited.alm.st = .locked ∧
    windowEnd sWaited ≤ (sWaited.alm.time * 65536 : Nat) ∧ ((sLocked 2).alm.time * 65536 : Nat) < windowEnd (sLocked 2) := by
  refine ⟨rfl, ?_⟩; decide +kernel

/-- HOLDOVER, with a calendar. -/
def sHoldover : State :=
  { sAlm { st := .holdover, noTime := false } with fc := [(3, { cal := { group := 3, period := 10, entries := [0] } })] }

theorem witness_AlmanacTimers_holdover : Awake sHoldover ∧ sHoldover.alm.st = .holdover := ⟨rfl, rfl⟩
theorem witness_AlmanacTimers_start : Awake (sAlm {}) ∧ (sAlm {}).alm.st = .unset ∧ (sAlm {}).alm.heardClear = false := ⟨rfl, rfl, rfl⟩
theorem witness_AlmanacTimers_island : Awake (sAlm { st := .island }) ∧ (sAlm { st := .island }).alm.st = .island ∧
    buildingGmCfg (sAlm { st := .island }) = true ∧ (sAlm { st := .island }).alm.clearTick ≠ some (sAlm { st := .island }).pwr.uptime := by refine ⟨rfl, ?_⟩; decide +kernel
theorem witness_AlmanacTimers_send : Awake sBuilding ∧ sBuilding.alm.building = true := ⟨rfl, rfl⟩
theorem witness_PortTimeServices_delay : Awake (sAlm {}) ∧ 1 < 1024 ∧ (portOf (sAlm {}) 1).st ≠ .awaitingKey ∧ (portRole (sAlm {}) 1).almanac = true := by refine ⟨rfl, ?_⟩; decide +kernel
theorem witness_PortTimeServices_boundary : ptpEn (sAlm {}) 8 = true ∧ (portRole (sAlm {}) 8).ptp = .boundary := by decide +kernel
theorem witness_PortTimeServices_transparent : ptpEn (sAlm {}) 16 = true ∧ (portRole (sAlm {}) 16).ptp = .transparent true false ∧
    ptpOthers (sAlm {}) 16 = [8] ∧ (portOf (sAlm {}) 8).st ≠ .awaitingKey := by decide +kernel

/-- The same device with a two-step, peer-to-peer clock. -/
def sTwoStep : State :=
  { sAlm {} with cfg := { (sAlm {}).cfg with active := some { cAlm with almanac := { roles := [{ port := 8, ptp := .boundary }, { port := 16, ptp := .transparent false true }] } } } }

theorem witness_PortTimeServices_twoStep : Awake sTwoStep ∧ ptpEn sTwoStep 16 = true ∧ (portRole sTwoStep 16).ptp = .transparent false true ∧
    ptpOthers sTwoStep 16 = [8] ∧ (portOf sTwoStep 8).st ≠ .awaitingKey := by refine ⟨rfl, ?_⟩; decide +kernel

/-- Port 8 is UP. -/
def sUp8 : State := { sAlm {} with lnk := { ports := [(8, { st := .up })] } }

/-- A boundary clock whose next tick begins a second, at an odd count. -/
def sSecond : State := { sUp8 with alm := { time := 999999999 } }

theorem witness_IdleStep_second : sSecond.pending = [] ∧ Awake sSecond ∧ sSecond.scr.ctlAgain = none ∧ boundaryPorts sSecond = [8] ∧
    (999999999 / 2 * 2 + 2) % two64 / 1000000000 ≠ 999999999 / 1000000000 := by refine ⟨rfl, rfl, rfl, ?_⟩; decide +kernel
theorem witness_PortTimeServices_synce : bit (coatReg sUp8 (lnkPort Reg.lnkPortCfg 8) 0) 4 = true ∧ (portOf sUp8 8).st = .up := by decide +kernel

/-! ### Calendars, slots, shapers, policers -/

/-- Group 3 has a calendar of one entry and a replacement. -/
def sCal : State :=
  { device {} with fc := [(3, { cal := { group := 3, period := 10, entries := [0x2000000000] }, next := some (some { group := 3, period := 20 }),
                                unsync := true, active := [0] })] }

/-- Its calendar. -/
def cal3 : Cal := { group := 3, period := 10, entries := [0x2000000000] }

theorem witness_CalendarsRun : Awake sCal ∧ 3 < 16384 ∧ 0 < 4096 ∧ (alGet sCal.fc 3).map FcGrp.cal = some cal3 ∧
    (alGet sCal.fc 3).map FcGrp.restart = some false ∧ inForce cal3 0 (slotNow sCal) = true ∧ atBoundary cal3 (slotNow sCal) = true ∧
    inForce cal3 0 (slotNow { sCal with alm := { time := 2048 } }) = false ∧ atBoundary cal3 (slotNow { sCal with alm := { time := 2048 } }) = false := by
  refine ⟨rfl, ?_⟩; decide +kernel

/-- A coat whose port 8 has strict shares and a shaped node, and whose policer 5 is in use. -/
def cSch : Coat :=
  { regs := [rg Reg.almConfig 0 4, rg Reg.schPortCfg (schPort 8) 0x102030, rg Reg.schNodeCfg (nodeSel (.port 8)) 0x100, rg Reg.schNodeRate (nodeSel (.port 8)) 1000,
             rg Reg.schNodeBurst (nodeSel (.port 8)) 50, rg Reg.schPolCfg 16383 1, rg Reg.schPolCir 16383 7, rg Reg.schPolPir 16383 9] }

theorem witness_CalendarsRun_slots : portHere (device cSch) 8 = true ∧ portExists (device cSch) 8 = true ∧ 8 < 1024 ∧
    calendarsOff { device cSch with alm := { st := .island } } = true ∧ calendarsOff (device cSch) = false ∧ bit (nodeCfg (device cSch) (.port 8)) 8 = true := by decide +kernel
theorem witness_CalendarsRun_policer : 16383 < 16384 ∧ bit (coatReg (device cSch) Reg.schPolCfg 16383) 0 = true := by decide +kernel

/-! ### Ports, lanes and links -/

/-- A coat whose port 0 runs link-level replay and owns its group's spare lane; port 8 is an Ethernet port. -/
def cLnk : Coat :=
  { regs := [rg (lnkPort Reg.lnkPortCfg 0) 0 1, rg (lnkPort Reg.lnkGrpCfg 0) 0 4, rg (lnkPort Reg.lnkLlrCfg 0) 0 (3 * 64)] }

theorem witness_PortsTrain_ethernet : Awake (device cLnk) ∧ 8 < 1024 ∧ mayTrain (device cLnk) 8 = true ∧ (portOf (device cLnk) 8).st = .training ∧
    (portOf (device cLnk) 8).llr.initSent = false ∧ outOfRack (device cLnk) 8 = false ∧
    (portOf (device cLnk) 8).mask.length = (portOf (device cLnk) 8).lanes.length ∧ hasLlr (device cLnk) 8 = false ∧
    (portOf (device cLnk) 8).attempts < 2 := by refine ⟨rfl, ?_⟩; decide +kernel
theorem witness_PortsTrain_replay : mayTrain (device cLnk) 0 = true ∧ (portOf (device cLnk) 0).st = .training ∧
    (portOf (device cLnk) 0).llr.initSent = false ∧ hasLlr (device cLnk) 0 = true := by decide +kernel

/-- One port in a state of its own. -/
def onePort (p : Nat) (x : Port) : State := { device cLnk with lnk := { ports := [(p, x)] } }

/-- Port 8 retrains on seven lanes. -/
def sDegrading : State := onePort 8 { st := .training, lanes := (List.range 8).map (8 + ·), mask := List.range 7, degrading := true }

theorem witness_PortsTrain_degrading : Awake sDegrading ∧ (portOf sDegrading 8).st = .training ∧ (portOf sDegrading 8).degrading = true ∧
    (portOf sDegrading 8).faultTick ≠ some sDegrading.pwr.uptime := by refine ⟨rfl, rfl, rfl, ?_⟩; decide

/-- Port 0 with a replay state. -/
def sLlr (st : PortSt) (l : Llr) (x : Option Sparing) : State := onePort 0 { st, lanes := List.range 8, mask := List.range 8, llr := l, sparing := x }

/-- INIT was sent. -/
def sInit : State := sLlr .training { initSent := true } none

theorem witness_PortsTrain_init : Awake sInit ∧ hasLlr sInit 0 = true ∧ (portOf sInit 0).st = .training ∧ (portOf sInit 0).llr.initSent = true ∧
    llrHdrOk sInit 0 3 initHdr = true ∧ outOfRack sInit 0 = false ∧ (portOf sInit 0).mask.length = (portOf sInit 0).lanes.length ∧
    llrHdrOk sInit 0 3 { initHdr with version := 2 } = false ∧ (portOf sInit 0).llr.initRcvd = false := by refine ⟨rfl, ?_⟩; decide +kernel

/-- Replay runs, sequence 65,535 is expected, `u` is unacknowledged and `due` frames are not acknowledged yet. -/
def sRun (u : List Unacked) (due : Nat) : State := sLlr .up { initSent := true, initRcvd := true, unacked := u, rxExpect := 65535, ackDue := due } none

/-- A replay header. -/
def hdr (typ seq ack : Nat) : LlrHdr :=
  { version := 1, typ := BitVec.ofNat 4 typ, ackValid := typ != 0, retx := false, seq := BitVec.ofNat 16 seq, ackSeq := BitVec.ofNat 16 ack, lane := 3 }

theorem witness_DataInSequence : Awake (sRun [] 62) ∧ llrActive (sRun [] 62) 0 = true ∧ llrHdrOk (sRun [] 62) 0 0 (hdr 0 65535 0) = true ∧
    (hdr 0 65535 0).ackValid = false ∧ (portOf (sRun [] 62) 0).llr.ackDue < 63 ∧ 64 ≤ pauseFrame.len ∧ pauseFrame.len ≤ 9216 ∧
    (hdr 0 65535 0).seq.toNat = (portOf (sRun [] 62) 0).llr.rxExpect ∧ pauseFrame.fcs = .good ∧ pauseFrame.etherType = 0x8808 ∧
    beAt pauseFrame.body 0 2 = 1 ∧ (portOf (sRun [] 62) 0).st ≠ .awaitingKey := by refine ⟨rfl, ?_⟩; decide +kernel
theorem witness_DataInSequence_others : (hdr 0 0 0).seq.toNat ≠ (portOf (sRun [] 62) 0).llr.rxExpect ∧
    llrHdrOk (sRun [] 62) 0 0 (hdr 0 0 0) = true ∧ (portOf (sRun [] 62) 0).llr.nakSent = false ∧
    ({ pauseFrame with fcs := .stomped } : Frame).fcs = .stomped := by decide +kernel

/-- Two frames, 65,535 and 0, wait for their acknowledgement. -/
def two : List Unacked := [{ seq := 65535, resends := 2, frame := plainFrame }, { seq := 0, resends := 0, frame := pauseFrame }]

theorem witness_Replays : Awake (sRun two 1) ∧ llrActive (sRun two 1) 0 = true ∧ (portOf (sRun two 1) 0).llr.ackDue ≠ 0 ∧
    llrHdrOk (sRun two 1) 0 1 (hdr 1 0 65535) = true ∧ (hdr 1 0 65535).ackValid = true ∧ llrHdrOk (sRun two 1) 0 2 (hdr 2 0 65534) = true ∧
    (portOf (sRun two 1) 0).llr.unacked = two ∧ 1 = ((hdr 1 0 65535).ackSeq.toNat + 65537 - 65535) % 65536 ∧
    0 = ((hdr 2 0 65534).ackSeq.toNat + 65537 - 65535) % 65536 ∧ (∀ x ∈ two, x.resends < llrBudget (sRun two 1) 0) ∧
    (portOf (sRun two 1) 0).sparing = none ∧ (portOf (sRun two 1) 0).llr.unacked ≠ [] ∧
    (portOf (sRun two 1) 0).llr.ackTick ≠ some (sRun two 1).pwr.uptime := by refine ⟨rfl, ?_⟩; decide +kernel

/-- One lane in a state of its own. -/
def oneLane (n : Nat) (x : Lane) : State := { device cLnk with lnk := { lanes := [(n, x)] } }

theorem witness_LanesFail : Awake (oneLane 1151 { losArmed := true }) ∧ 1151 < 1152 ∧
    (laneOf (oneLane 1151 { losArmed := true }) 1151).role ≠ .retired ∧ (laneOf (oneLane 1151 { losArmed := true }) 1151).losArmed = true ∧
    (laneOf (device cLnk) 1151).losArmed = false := by refine ⟨rfl, ?_⟩; decide +kernel

/-- A window of lane 3. -/
def win3 (symbols errors : Nat) : LaneWin := { lane := 3, symbols, errors, corrected := 5 }

theorem witness_LanesFail_window : (win3 100 0).lane < 1152 ∧ 1 ≤ uncorrLimit (device cLnk) 0 ∧
    (win3 100 0).errors * 2 ^ coatFld (device cLnk) (lnkPort Reg.lnkFaultCfg 0) 0 4 5 ≤ (win3 100 0).symbols ∧
    (laneOf (device cLnk) 3).serRun = 0 := by decide +kernel
theorem witness_LanesFail_third : (win3 1 100).symbols < (win3 1 100).errors * 2 ^ coatFld (oneLane 3 { serRun := 2 }) (lnkPort Reg.lnkFaultCfg 0) 0 4 5 ∧
    (laneOf (oneLane 3 { serRun := 2 }) 3).serRun = 2 ∧ (laneOf (oneLane 3 { serRun := 2 }) 3).role ≠ .retired := by decide +kernel

theorem witness_LanesAreSpared_asked : Awake (sRun [] 0) ∧ 5 < 1048576 ∧ llrActive (sRun [] 0) 0 = true ∧ llrHdrOk (sRun [] 0) 0 4 (hdr 4 0 0) = true ∧
    (portOf (sRun [] 0) 0).sparing = none ∧ spareIdle (sRun [] 0) 0 = true ∧ portUp (sRun [] 0) 0 = true ∧
    (portOf (sRun [] 0) 0).lanes.getD (hdr 4 0 0).lane.toNat 0 ≠ groupSpare (sRun [] 0) 0 := by refine ⟨rfl, ?_⟩; decide +kernel

/-- Sparing of logical lane 3 under way. -/
def sSpare (x : Sparing) : State := sLlr .sparing { initSent := true, initRcvd := true, unacked := two } (some x)

theorem witness_LanesAreSpared_acked : llrActive (sSpare ⟨3, 3, true, false, false⟩) 0 = true ∧
    llrHdrOk (sSpare ⟨3, 3, true, false, false⟩) 0 5 (hdr 5 0 0) = true ∧ (hdr 5 0 0).lane.toNat = 3 := by decide +kernel
theorem witness_LanesAreSpared_moved : llrActive (sSpare ⟨3, 3, true, true, false⟩) 0 = true ∧
    (portOf (sSpare ⟨3, 3, true, true, false⟩) 0).sparing = some ⟨3, 3, true, true, false⟩ := by decide +kernel
theorem witness_LanesAreSpared_done : llrHdrOk (sSpare ⟨3, 3, true, true, true⟩) 0 6 (hdr 6 0 65534) = true ∧
    (portOf (sSpare ⟨3, 3, true, true, true⟩) 0).llr.unacked = two ∧ 0 = ((hdr 6 0 65534).ackSeq.toNat + 65537 - 65535) % 65536 ∧
    keyless (sSpare ⟨3, 3, true, true, true⟩) 0 = false ∧
    (∀ y ∈ two, y.resends < llrBudget (sSpare ⟨3, 3, true, true, true⟩) 0) := by decide +kernel
theorem witness_LanesAreSpared_lost : 63 < 64 ∧ (laneOf (device cLnk) (groupSpare (device cLnk) (basePort (device cLnk) + 8 * 63))).role = .idleSpare := by
  decide +kernel

/-- One cage in a state of its own. -/
def oneCage (x : Cage) : State := { device cLnk with lnk := { cages := [((63, false), x)] } }

theorem witness_CagesAreWatched : Awake (oneCage { st := 2, retrying := true, tries := 1 }) ∧ 63 < 64 ∧
    (cage (oneCage { st := 2, retrying := true, tries := 1 }) 63 false).retrying = true ∧
    (cage (oneCage { st := 2, retrying := true, tries := 1 }) 63 false).tries < 2 ∧ 2 ≤ (cage (oneCage { st := 2, retrying := true, tries := 2 }) 63 false).tries ∧
    busUsed (device cLnk) 63 false = true ∧ (cage (oneCage { st := 3 }) 63 false).st = 3 := by refine ⟨rfl, ?_⟩; decide +kernel

/-! ### The switch core -/

/-- A coat with VLAN 1 on ports 8 and 16 and a static address behind port 16, whose queue has a guaranteed minimum. -/
def cSw : Coat :=
  { regs := [rg Reg.swcQCfg (qSel 16 0) 10, rg Reg.swcPortPfc 8 8, rg Reg.swcPortPfc 16 8],
    switch := { vlans := [{ vid := 1, members := [8, 16] }], macs := [{ vlan := 1, mac := 0xA, target := .port 16 }] } }

/-- Its ports 8 and 16 are UP. -/
def sSw : State :=
  { device cSw with lnk := { ports := [(8, { st := .up, lanes := (List.range 8).map (8 + ·), mask := List.range 8 }),
                                        (16, { st := .up, lanes := (List.range 8).map (16 + ·), mask := List.range 8 })] } }

/-- Port 16 of a switch with room for class 8 has a beacon to send. -/
def sHand : State :=
  { sSw with out := [.pin .faultN true, .beacon 16 bcn], swc := { handed := 1 },
             cfg := { sSw.cfg with active := some { cSw with regs := rg Reg.swcQCfg (qSel 16 8) 10 :: cSw.regs } } }

theorem witness_RestStays_handed : sHand.out.drop sHand.swc.handed = [.beacon 16 bcn] ∧ portHere sHand 16 = true ∧ portExists sHand 16 = true ∧
    (portOf sHand 16).st = .up ∧ sHand.swc.frames = [] ∧ 1 ≤ minFree sHand 16 8 ∧ (device {}).out.length ≤ (device {}).swc.handed := by
  refine ⟨rfl, ?_⟩; decide +kernel
theorem witness_FramesAreForwarded_pause : Awake sSw ∧ 8 < 1024 ∧ portHere sSw 8 = true ∧ hasLlr sSw 8 = false ∧ pauseFrame.fcs = .good ∧ 64 ≤ pauseFrame.len ∧
    pauseFrame.len ≤ 9216 ∧ (portOf sSw 8).st = .up ∧ pauseFrame.etherType = 0x8808 ∧ beAt pauseFrame.body 0 2 = 1 := by
  refine ⟨rfl, ?_⟩; decide +kernel
theorem witness_FramesAreForwarded_queued : outOfRack sSw 8 = false ∧ plainFrame.etherType ≠ 0x8808 ∧ isAlmanacFrame sSw plainFrame = false ∧ plainFrame.ip = none ∧
    vlanOf sSw (ingressVlan sSw 8 plainFrame) = some { vid := 1, members := [8, 16] } ∧ (coat sSw).switch.acls = [] ∧
    (coat sSw).switch.routerMacs.contains plainFrame.dst = false ∧ (coat sSw).schedule.polPort = [] ∧
    ((coat sSw).switch.macs.find? fun x => x.vlan == ingressVlan sSw 8 plainFrame && x.mac == plainFrame.dst) =
      some { vlan := 1, mac := 0xA, target := .port 16 } ∧ portHere sSw 16 = true ∧ portExists sSw 16 = true ∧ (portOf sSw 16).st = .up ∧
    losslessAt sSw 8 16 (baseClass sSw 8 plainFrame) = false ∧
    1 ≤ minFree sSw 16 (baseClass sSw 8 plainFrame) ∧ sSw.swc.frames = [] := by decide +kernel

/-- A frame of 500 bytes waits at port 16 since the tick before. -/
def sOut : State :=
  { sSw with swc := { frames := [{ id := 0, frame := { plainFrame with len := 500 }, inPort := 8, cls := 0, cells := 2, refs := 1 }] },
             sch := { leaves := [(.pnode 16 1, [{ frame := 0, port := 16, cls := 0 }])] }, pwr := { sSw.pwr with uptime := 1 } }

theorem witness_FramesAreForwarded_sent : Awake sOut ∧ 16 < 1024 ∧ schedView sOut = sOut ∧ (portOf sOut 16).txBusy = none ∧
    (choose (look sOut 16) 16).map Choice.leaf = some (.pnode 16 1) ∧ leafOf sOut (.pnode 16 1) = [{ frame := 0, port := 16, cls := 0 }] ∧
    (bufFrame sOut 0).isSome = true ∧ mayBegin sOut 16 500 = true := by refine ⟨rfl, by decide, rfl, ?_⟩; decide +kernel

/-- Priority 3 of port 16 in a state of its own. -/
def sPause (x : Pause) : State := { sSw with swc := { pauses := [((16, 3), x)] } }

theorem witness_PrioritiesPause : Awake (sPause { paused := true }) ∧ 16 < 1024 ∧ 3 < 8 ∧ ([0, 0, 0, 9, 0, 0, 0, 0] : List Nat).length = 8 ∧
    pfcEnabled (sPause { paused := true }) 16 3 = true ∧ (pauseOf (sPause { paused := true }) 16 3).storm = false ∧
    (pauseOf (sPause { paused := true }) 16 3).paused = true ∧ (0x08 : BitVec 8).getLsbD 3 = true ∧
    (pauseOf (sPause { storm := true }) 16 3).storm = true ∧ (pauseOf (sPause { storm := true }) 16 3).rxTick = none ∧
    privilegedOnly (sPause { paused := true }) 3 = false := by
  refine ⟨rfl, ?_⟩; decide +kernel
theorem witness_PrioritiesPause_privileged :
    privilegedOnly { device {} with cfg := { (device {}).cfg with active := some { switch := { pcpMap := [(5, 9)] } } } } 5 = true := by decide +kernel

/-- A paused account that stays full. -/
def sFull : State := { sSw with swc := { accounts := [((16, 3), { cells := 2000000, paused := true })] } }

theorem witness_PrioritiesPause_full : (accountOf sFull 16 3).paused = true ∧ xoff64 sFull 16 ≤ ((accountOf sFull 16 3).cells + 72) * 64 := by decide +kernel

/-- The crossbar of a pair of ports: frame 0 crossed as cells 4,095 and 0. -/
def xpair : XPair := { next := 1, spread := 2, runs := [{ first := 4095, cells := 2, frame := 0 }] }

/-- A learned address, and that pair; frame 0 is in the buffer. -/
def sXbar : State := { sOut with swc := { sOut.swc with learned := [⟨4095, 5, 8⟩, ⟨1, 5, 8⟩], xpairs := [((8, 16), xpair)] } }

theorem witness_SwitchFaults : Awake sXbar ∧ 4095 < 4096 ∧ alGet sXbar.swc.xpairs (8, 16) = some xpair ∧ (missingCell sXbar xpair 0).isSome = true ∧
    missingCell sXbar xpair 1 = none ∧ sXbar.swc.planeWindow = msNow sXbar ∧ alGetD sXbar.swc.planeLost 3 0 < coatFld sXbar Reg.swcCfg 0 5 8 := by
  refine ⟨rfl, ?_⟩; decide +kernel
theorem witness_SwitchFaults_cell : Awake sOut ∧ (bufFrame sOut 0).map BufFrame.cells = some 2 ∧ 1 < 2 := by refine ⟨rfl, ?_⟩; decide +kernel

/-! ### The pool home -/

/-- The records of a window of 1 MiB whose owner is endpoint 2 and whose key is tenant 1, job 1. -/
def winRegs (id base attr : Nat) : List RegRec :=
  [rg Reg.poolWinBaseLo id base, rg Reg.poolWinSizeLo id 0x100000, rg Reg.poolWinOwner id 2, rg Reg.poolWinKey id 0x1001, rg Reg.poolWinAttr id attr,
   rg Reg.poolWinMirror id 2]

/-- A coat with windows: 0 pinned and coherent, 1 pinned and a mirror's secondary, 2 primary of a mirror; endpoint 2 is a source and is
listed for slot 4. -/
def cPool : Coat :=
  { regs := [rg Reg.poolSrcCfg 2 8, rg Reg.cohEpCfg 4 0x80000002] ++ winRegs 0 0 8 ++ winRegs 1 0x100000 0x20 ++ winRegs 2 0x200000 0x10 }

/-- The device of that coat. -/
def sPool : State := { device cPool with mem := [(5, 0xAB), (300, 7)] }

theorem calm_of (s : State) (h : (s.hooks.isEmpty && s.pool.txs.isEmpty && s.pool.outs.isEmpty && s.til.invs.isEmpty && s.trw.groups.isEmpty &&
    (s.cfg.units.all fun u => !u.2.wanted) && (s.cfg.poolReady || !s.cfg.forwarding) && s.pool.bgWait.isEmpty &&
    (s.pool.before.all fun b => b.1 ≤ s.pool.nextTx)) = true) : Calm s := by
  simp only [Bool.and_eq_true, List.isEmpty_iff, Bool.not_eq_true', Bool.or_eq_true] at h
  obtain ⟨⟨⟨⟨⟨⟨⟨⟨h1, h2⟩, h3⟩, h4⟩, h5⟩, h6⟩, h7⟩, h8⟩, h9⟩ := h
  exact ⟨h1, h2, h3, h4, h5, h6, h7, h8, h9⟩

theorem inTurn_of (s : State) (op : Nat) (m : Msg) (hw : wellReceived op m = true) (h : ((s.hooks.isEmpty && s.pool.txs.isEmpty && s.pool.outs.isEmpty && s.til.invs.isEmpty &&
    s.trw.groups.isEmpty && (s.cfg.units.all fun u => !u.2.wanted) && (s.cfg.poolReady || !s.cfg.forwarding) && s.pool.bgWait.isEmpty &&
    (s.pool.before.all fun b => b.1 ≤ s.pool.nextTx)) && denseIdle s && !s.pwr.inReset && s.scr.st == .solo && creditsOf s m.src != 0 && m.seq.toNat == (srcOf s m.src).expect && (srcOf s m.src).held.isEmpty &&
    (srcOf s m.src).resetWait.isNone && s.pool.drain.isNone && opFormat s op m && (accessStatus s op m).isNone && !frostStops s op m) = true) :
    InTurn s op m := by
  simp only [and_assoc, Bool.and_eq_true] at h
  obtain ⟨h1, h2, h3, h4, h5, h6, h7, h8, h9, h⟩ := h
  have hc := calm_of s (by simp only [h1, h2, h3, h4, h5, h6, h7, h8, h9, Bool.and_self])
  simp only [List.isEmpty_iff, Option.isNone_iff_eq_none, beq_iff_eq, bne_iff_ne, Bool.not_eq_true'] at h
  obtain ⟨h8, h9, h10, h12, h13, h14, h15, h16, h17, h18, h19⟩ := h
  exact ⟨h9, ⟨hc, h8⟩, h10, hw, h12, h13, h14, h15, h16, h17, h18, h19⟩

theorem accepted_of (s : State) (op : Nat) (m : Msg) (h : InTurn s op m)
    (k : (pmtServes s && decide (m.port ≤ 1024) && !residentEp s m.src && !fromBridge s op m) = true) : Accepted s op m := by
  simp only [Bool.and_eq_true, decide_eq_true_eq, Bool.not_eq_true'] at k
  exact ⟨h, k.1.1.1, k.1.1.2, k.1.2, k.2⟩

theorem inHand_of (s : State) (g : Nat × Nat) (h : s.coh.slots = []) (k : ((rangeLines g).all fun l => inHbm s l && !isPoisoned s l) = true) : InHand s g := by
  refine ⟨h, fun l hl => ?_⟩
  have := List.all_eq_true.mp k l hl
  simp only [Bool.and_eq_true, Bool.not_eq_true'] at this
  exact this

theorem writesAlone_of (s : State) (a : Nat) (h : ((winAt s a).all fun w => mirSt s w == .none || mirSt s w == .single) = true)
    (k : tooDirty s = false) : WritesAlone s a := by
  refine fun w hw => ⟨?_, .inr k⟩
  rw [hw] at h
  simpa using h

/-- READ of 64 bytes. -/
def mRead (op address : Nat) : Msg := msg op address [0, 64, 0, 0]

theorem witness_ReadsAnswerMemory : Accepted sPool Op.read (mRead Op.read 0xFFFC0) ∧
    InHand sPool (lineRange (mRead Op.read 0xFFFC0).address.toNat (readSize (mRead Op.read 0xFFFC0))) :=
  ⟨accepted_of _ _ _ (inTurn_of _ _ _ (received _ _ (by decide)) (by decide +kernel)) (by decide +kernel), inHand_of _ _ rfl (by decide +kernel)⟩
theorem witness_ReadsAnswerMemory_mirror : Accepted sPool Op.mirrorRead (mRead Op.mirrorRead 0x100000) ∧
    InHand sPool (lineRange (mRead Op.mirrorRead 0x100000).address.toNat (readSize (mRead Op.mirrorRead 0x100000))) :=
  ⟨accepted_of _ _ _ (inTurn_of _ _ _ (received _ _ (by decide)) (by decide +kernel)) (by decide +kernel), inHand_of _ _ rfl (by decide +kernel)⟩

/-- WRITE of 64 bytes. -/
def mWrite (op address : Nat) : Msg := msg op address (List.replicate 64 0x5A)

theorem witness_WritesReachMemory : Accepted sPool Op.write (mWrite Op.write 0) ∧
    InHand sPool (lineRange (mWrite Op.write 0).address.toNat (mWrite Op.write 0).body.length) ∧ WritesAlone sPool (mWrite Op.write 0).address.toNat :=
  ⟨accepted_of _ _ _ (inTurn_of _ _ _ (received _ _ (by decide)) (by decide +kernel)) (by decide +kernel), inHand_of _ _ rfl (by decide +kernel),
   writesAlone_of _ _ (by decide +kernel) (by decide +kernel)⟩
theorem witness_WritesReachMemory_mirror : Accepted sPool Op.mirrorWrite (mWrite Op.mirrorWrite 0x1FFFC0) ∧
    InHand sPool (lineRange (mWrite Op.mirrorWrite 0x1FFFC0).address.toNat (mWrite Op.mirrorWrite 0x1FFFC0).body.length) ∧
    WritesAlone sPool (mWrite Op.mirrorWrite 0x1FFFC0).address.toNat :=
  ⟨accepted_of _ _ _ (inTurn_of _ _ _ (received _ _ (by decide)) (by decide +kernel)) (by decide +kernel), inHand_of _ _ rfl (by decide +kernel),
   writesAlone_of _ _ (by decide +kernel) (by decide +kernel)⟩

theorem witness_WritesReachMemory_paired : Accepted sPool Op.write (mWrite Op.write 0x200000) ∧
    InHand sPool (lineRange (mWrite Op.write 0x200000).address.toNat (mWrite Op.write 0x200000).body.length) ∧
    winAt sPool (mWrite Op.write 0x200000).address.toNat = some (winIn cPool.regs 2) ∧ mirSt sPool (winIn cPool.regs 2) = .paired ∧ tooDirty sPool = false :=
  ⟨accepted_of _ _ _ (inTurn_of _ _ _ (received _ _ (by decide)) (by decide +kernel)) (by decide +kernel), inHand_of _ _ rfl (by decide +kernel),
   by decide +kernel, by decide +kernel, by decide +kernel⟩

/-- WRITE_MASKED of bytes 0 and 127. -/
def mMasked (op address : Nat) : Msg := msg op address ([1] ++ List.replicate 14 0 ++ [0x80] ++ List.replicate 128 0x5A)

theorem witness_WritesReachMemory_masked : Accepted sPool Op.writeMasked (mMasked Op.writeMasked 0) ∧
    InHand sPool ((mMasked Op.writeMasked 0).address.toNat / 128, 1) ∧ WritesAlone sPool (mMasked Op.writeMasked 0).address.toNat :=
  ⟨accepted_of _ _ _ (inTurn_of _ _ _ (received _ _ (by decide)) (by decide +kernel)) (by decide +kernel), inHand_of _ _ rfl (by decide +kernel),
   writesAlone_of _ _ (by decide +kernel) (by decide +kernel)⟩
theorem witness_WritesReachMemory_maskedMirror : Accepted sPool Op.mirrorMasked (mMasked Op.mirrorMasked 0x100000) ∧
    InHand sPool ((mMasked Op.mirrorMasked 0x100000).address.toNat / 128, 1) ∧ WritesAlone sPool (mMasked Op.mirrorMasked 0x100000).address.toNat :=
  ⟨accepted_of _ _ _ (inTurn_of _ _ _ (received _ _ (by decide)) (by decide +kernel)) (by decide +kernel), inHand_of _ _ rfl (by decide +kernel),
   writesAlone_of _ _ (by decide +kernel) (by decide +kernel)⟩

/-- FETCH_ADD of 3 on four bytes. -/
def mAtomic (address : Nat) : Msg := msg Op.atomic address ([0, 4, 0, 0, 0, 0, 0, 0] ++ beBytes 8 3 ++ beBytes 8 0)

theorem witness_AtomicsReadAndWrite : Accepted sPool Op.atomic (mAtomic 4) ∧ InHand sPool ((mAtomic 4).address.toNat / 128, 1) ∧
    WritesAlone sPool (128 * ((mAtomic 4).address.toNat / 128)) ∧ aopOf (beAt (mAtomic 4).body 0 1) = some .fetchAdd ∧ sPool.pool.holds = [] ∧
    sPool.pool.retries = [] :=
  ⟨accepted_of _ _ _ (inTurn_of _ _ _ (received _ _ (by decide)) (by decide +kernel)) (by decide +kernel), inHand_of _ _ rfl (by decide +kernel),
   writesAlone_of _ _ (by decide +kernel) (by decide +kernel), by decide +kernel, rfl, rfl⟩

/-- FLUSH or DISCARD of `n` bytes. -/
def mCount (op address n : Nat) : Msg := msg op address (beBytes 8 n)

theorem witness_FlushesAndDiscards_flush : sPool.coh.slots = [] ∧ WritesAlone sPool (mCount Op.flush 0x80 256).address.toNat ∧
    dirtyLines sPool [lineRange (mCount Op.flush 0x80 256).address.toNat (byteCount (mCount Op.flush 0x80 256))] = [] ∧
    (sPool.pool.cache.all fun c => !c.2.staged) = true ∧ Accepted sPool Op.flush (mCount Op.flush 0x80 256) ∧
    Accepted sPool Op.mirrorFlush (mCount Op.mirrorFlush 0x100000 256) :=
  ⟨rfl, writesAlone_of _ _ (by decide +kernel) (by decide +kernel), by decide +kernel, rfl,
   accepted_of _ _ _ (inTurn_of _ _ _ (received _ _ (by decide)) (by decide +kernel)) (by decide +kernel),
   accepted_of _ _ _ (inTurn_of _ _ _ (received _ _ (by decide)) (by decide +kernel)) (by decide +kernel)⟩

/-- A coat with one window, CAPACITY. -/
def cCap (attr : Nat) : Coat := { regs := [rg Reg.poolSrcCfg 2 8] ++ winRegs 0 0 attr, pool := { trays := [(0, 50), (1, 51)] } }

/-- Its device; both trays have answered. -/
def sCap (attr : Nat) : State :=
  { device (cCap attr) with pool := { capTrays := [(0, { st := 2, bytes := 2 ^ 40, maxOut := 4 }), (1, { st := 2, bytes := 2 ^ 40, maxOut := 4 })] } }

theorem capacity_range (attr : Nat) (w : Win) (h : wins (sCap attr) = [w]) (hb : w.base = 0) (hs : w.size = 0x100000) (hp : w.policy = 1) :
    ∀ l, inRange (lineRange 0 65536) l = true → ∃ w, winOfLine (sCap attr) l = some w ∧ w.policy = 1 := by
  intro l hl
  refine ⟨w, ?_, hp⟩
  have hr : lineRange 0 65536 = (0, 512) := by decide
  rw [hr] at hl
  simp only [inRange, Bool.and_eq_true, decide_eq_true_eq] at hl
  have h2 : 128 * l < 0x100000 := by omega
  have h3 : formerRegs (sCap attr) l = none := rfl
  simp [winOfLine, winAt, h, hb, hs, h2, h3]

theorem witness_FlushesAndDiscards_discard : (sCap 1).coh.slots = [] ∧ WritesAlone (sCap 1) (mCount Op.discard 0 65536).address.toNat ∧
    (∃ w, winAt (sCap 1) (mCount Op.discard 0 65536).address.toNat = some w ∧ w.policy = 1) ∧
    (∀ l, inRange (lineRange 0 65536) l = true → ∃ w, winOfLine (sCap 1) l = some w ∧ w.policy = 1) ∧
    Accepted (sCap 1) Op.discard (mCount Op.discard 0 65536) :=
  ⟨rfl, writesAlone_of _ _ (by decide +kernel) (by decide +kernel), ⟨winIn (cCap 1).regs 0, by decide +kernel, by decide +kernel⟩,
   capacity_range 1 (winIn (cCap 1).regs 0) (by decide +kernel) (by decide +kernel) (by decide +kernel) (by decide +kernel),
   accepted_of _ _ _ (inTurn_of _ _ _ (received _ _ (by decide)) (by decide +kernel)) (by decide +kernel)⟩
theorem witness_FlushesAndDiscards_mirror : (∀ l, inRange (lineRange 0 65536) l = true → ∃ w, winOfLine (sCap 0x21) l = some w ∧ w.policy = 1) ∧
    Accepted (sCap 0x21) Op.mirrorDiscard (mCount Op.mirrorDiscard 0 65536) :=
  ⟨capacity_range 0x21 (winIn (cCap 0x21).regs 0) (by decide +kernel) (by decide +kernel) (by decide +kernel) (by decide +kernel),
   accepted_of _ _ _ (inTurn_of _ _ _ (received _ _ (by decide)) (by decide +kernel)) (by decide +kernel)⟩

/-- PAIR_RESET. -/
def mReset : Msg := remsg Op.pairReset { bare 0 [] with wt := 0, job := 0, seq := 0xFFFFFFFF }

theorem witness_OwnRequestsEnd_reset : Awake (sCap 1) ∧ Rest (sCap 1) ∧ pmtServes (sCap 1) = true ∧ (sCap 1).scr.st = .solo ∧ mReset.port ≤ 1024 ∧
    wellReceived Op.pairReset mReset = true ∧ creditsOf (sCap 1) mReset.src ≠ 0 ∧ residentEp (sCap 1) mReset.src = false ∧ mReset.length = 0 ∧
    mReset.payload = [] ∧ mReset.address = 0 ∧ mReset.flags = 0 ∧ mReset.epoch = 0 ∧ mReset.wt.toNat / 4096 % 8 = 0 ∧
    mReset.dest.toNat = selfEp (sCap 1) ∧ (srcOf (sCap 1) mReset.src).lastReset ≠ some (mReset.tag.toNat, mReset.seq.toNat) ∧
    slotOfEp (sCap 1) mReset.src = none := by
  refine ⟨rfl, ⟨calm_of _ ?_, ?_⟩, ?_⟩ <;> decide +kernel

/-- TRAY_IDENT waits for its answer from tray 1. -/
def oIdent : OutReq := { target := 51, tag := 65535, seq := 9, opcode := Op.trayIdent, sent := true, purpose := .trayIdent 1 }

/-- A device with one request of its own. -/
def sOwn (o : OutReq) : State := { sCap 1 with pool := { (sCap 1).pool with outs := [o] } }

/-- Its completion, with a status. -/
def mIdent (status : Nat) : Msg :=
  remsg Op.completion { bare 0 (beBytes 8 (2 ^ 44) ++ beBytes 2 128 ++ beBytes 2 64 ++ [0, 0, 0, 0]) with
    source := 51, tag := 65535, seq := 9, flags := BitVec.ofNat 16 (cplFlags false false status) }

theorem witness_OwnRequestsEnd_ident : Waits (sOwn oIdent) oIdent ∧ oIdent.target < 1048576 ∧ oIdent.tag < 65536 ∧ pmtServes (sOwn oIdent) = true ∧
    (mIdent St.ok).port ≤ 1024 ∧ wellReceived Op.completion (mIdent St.ok) = true ∧ (mIdent St.ok).src = oIdent.target ∧
    (mIdent St.ok).tag.toNat = oIdent.tag ∧ (mIdent St.ok).seq.toNat = oIdent.seq ∧ statusOf (mIdent St.ok).flags.toNat = St.ok ∧
    beAt (mIdent St.ok).body 8 2 = 128 ∧ beAt (mIdent St.ok).body 0 8 ≤ 2 ^ 44 ∧ statusOf (mIdent St.busy).flags.toNat = St.busy ∧
    wellReceived Op.completion (mIdent St.busy) = true := by
  refine ⟨⟨rfl, List.mem_cons_self .., by decide +kernel⟩, ?_⟩; decide +kernel
theorem witness_OwnRequestsEnd_timers : Waits (sOwn { oIdent with busyWait := true }) { oIdent with busyWait := true } ∧
    oIdent.busyWait = false ∧ oIdent.resends < coatFld (sOwn oIdent) Reg.poolTimeout 0 10 3 := by
  refine ⟨⟨rfl, List.mem_cons_self .., by decide +kernel⟩, ?_⟩; decide +kernel

/-- A coat with a tiered window, a background entry, two capacity trays and ten dense trays. -/
def cTier : Coat :=
  { regs := [rg Reg.poolSrcCfg 2 8, rg Reg.poolTrkCfg 0 1, rg Reg.poolTierCfg 0 0] ++ winRegs 0 0 2 ++ winRegs 1 0x100000 0x10,
    pool := { trays := [(0, 50), (1, 51)] }, dense := { trays := (List.range 10).map fun i => { index := i, ep := 60 + i } } }

/-- A device with that coat, its trays up and the map recovered, whose unit 0 is landed and was last written long ago. -/
def sTier : State :=
  { device cTier with
    pool := { capTrays := [(0, { st := 2 }), (1, { st := 2 })], capUnits := [(0, { copies := some [0] })] },
    dns := { st := 2, trays := (List.range 10).map fun i => (i, { st := 1 }), map := [(0, { st := .landed })] } }

theorem witness_UnitsMove_migrate : Awake sTier ∧ 0 < 2 ^ 40 ∧ sTier.pool.txs = [] ∧ 0 < bgReserve sTier ∧ (mapOf sTier 0).st = .landed ∧
    (winOfLine sTier (512 * 0)).map Win.policy = some 2 ∧ sTier.dns.st = 2 ∧ 10 ≤ (denseUp sTier).length ∧
    coldTicks sTier ≤ sTier.pwr.uptime - (capUnitOf sTier 0).lastWrite ∧ sTier.pool.cache = [] ∧ unitMoving sTier 0 = false := by
  refine ⟨rfl, ?_⟩; decide +kernel
theorem witness_UnitsMove_restore : ((capTraysUp sTier).find? fun i => !(goodCopies sTier 0).contains i) = some 1 ∧ capPair sTier = true ∧
    (goodCopies sTier 0).length = 1 ∧ (unitPlace sTier 0).isSome = true := by decide +kernel

/-- Window 1 resynchronises: unit 16 is marked, or nothing is left. -/
def sResync (l : List Nat) : State := { sTier with pool := { sTier.pool with wins := [(1, { mirror := .resync, marked := l })] } }

theorem witness_UnitsMove_resync : Awake (sResync [16]) ∧ (sResync [16]).pool.txs = [] ∧ 0 < bgReserve (sResync [16]) ∧ 1 < 16384 ∧
    (winSt (sResync [16]) 1).mirror = .resync ∧ (winSt (sResync [16]) 1).marked = [16] ∧ (winSt (sResync []) 1).marked = [] := by
  refine ⟨rfl, ?_⟩; decide +kernel
theorem witness_UnitsMove_single : (winSt { sTier with pool := { sTier.pool with wins := [(1, { mirror := .single })] } } 1).mirror = .single ∧
    ((wins sTier).find? fun w => w.id == 1) = some (winIn cTier.regs 1) ∧ sTier.pool.outs = [] ∧ sTier.pool.bgWait = [] := by decide +kernel

/-! ### Coherence -/

/-- A coat with window 0 coherent whose slot 4 lists endpoint 2. -/
def cCoh : Coat := { regs := [rg Reg.poolSrcCfg 2 8, rg Reg.cohEpCfg 4 0x80000002] ++ winRegs 0 0 8 }

/-- Its device, endpoint 2 registered with 64 sets of two ways and with records. -/
def sCoh (recs : List ((Nat × Nat) × SfRec)) : State :=
  { device cCoh with coh := { slots := [(4, { st := .registered, ep := 2, setsLog2 := 6, ways := 2, recs })] } }

/-- A request on line 3, way 1. -/
def mLine (op : Nat) (data : List Byte) : Msg := msg op 384 ([1, 0, 0, 0, 0, 0, 0, 0] ++ data)

theorem witness_LinesAreGranted_fill : slotOfEp (sCoh []) 2 = some 4 ∧ (slotOf (sCoh []) 4).st = .registered ∧ listedSlot (sCoh []) 2 = some 4 ∧
    allRecs (sCoh []) = [] ∧ (winAt (sCoh []) 384).map Win.readOnly = some false ∧ (sCoh []).pool.holds = [] ∧ (sCoh []).pool.retries = [] ∧
    inHbm (sCoh []) (384 / 128) = true ∧ isPoisoned (sCoh []) (384 / 128) = false ∧ (mLine Op.rdShared []).address.toNat = 384 ∧
    (mLine Op.rdShared []).src = 2 := by decide +kernel
theorem witness_LinesAreGranted_requests : Accepted (sCoh []) Op.rdShared (mLine Op.rdShared []) ∧ Accepted (sCoh []) Op.rdAny (mLine Op.rdAny []) ∧
    Accepted (sCoh []) Op.rdOwn (mLine Op.rdOwn []) :=
  ⟨accepted_of _ _ _ (inTurn_of _ _ _ (received _ _ (by decide)) (by decide +kernel)) (by decide +kernel),
   accepted_of _ _ _ (inTurn_of _ _ _ (received _ _ (by decide)) (by decide +kernel)) (by decide +kernel),
   accepted_of _ _ _ (inTurn_of _ _ _ (received _ _ (by decide)) (by decide +kernel)) (by decide +kernel)⟩

/-- Endpoint 2 holds line 3 in a state. -/
def sHolds (st : Nat) : State := sCoh [((3, 1), { line := 3, state := st, stale := false })]

theorem witness_LinesAreGranted_upgrade : Accepted (sHolds 1) Op.upgrade (mLine Op.upgrade []) ∧ slotOfEp (sHolds 1) 2 = some 4 ∧
    (slotOf (sHolds 1) 4).st = .registered ∧ (sHolds 1).coh.slots = [(4, slotOf (sHolds 1) 4)] ∧
    setOfLine (slotOf (sHolds 1) 4) ((mLine Op.upgrade []).address.toNat / 128) = 3 ∧ wayOf (mLine Op.upgrade []) = 1 ∧
    isPoisoned (sHolds 1) 3 = false ∧ inHbm (sHolds 1) 3 = true :=
  ⟨accepted_of _ _ _ (inTurn_of _ _ _ (received _ _ (by decide)) (by decide +kernel)) (by decide +kernel), by decide +kernel, by decide +kernel, rfl, by decide +kernel,
   by decide +kernel, by decide +kernel, by decide +kernel⟩
theorem witness_LinesComeBack_dirty : Accepted (sHolds 3) Op.wbDirty (mLine Op.wbDirty (List.replicate 128 9)) ∧
    slotOfEp (sHolds 3) 2 = some 4 ∧ inHbm (sHolds 3) 3 = true ∧ isPoisoned (sHolds 3) 3 = false ∧ WritesAlone (sHolds 3) (128 * 3) ∧
    3 = (mLine Op.wbDirty (List.replicate 128 9)).address.toNat / 128 :=
  ⟨accepted_of _ _ _ (inTurn_of _ _ _ (received _ _ (by decide)) (by decide +kernel)) (by decide +kernel), by decide +kernel, by decide +kernel, by decide +kernel,
   writesAlone_of _ _ (by decide +kernel) (by decide +kernel), by decide +kernel⟩

/-- EVICT_CLEAN of line 3, way 1. -/
def mEvict : Msg := msg Op.evictClean 384 (beBytes 8 385)

theorem witness_LinesComeBack_evict : Accepted (sHolds 1) Op.evictClean mEvict ∧ evictItems mEvict = [385] ∧ 385 / 2 ^ 56 = 0 ∧ 385 / 16 % 8 = 0 ∧
    3 = 385 / 128 ∧ 385 % 16 = 1 ∧ (winAt (sHolds 1) (128 * 3)).map (fun w => (mayReach (sHolds 1) w 2, decide (w.key = mEvict.key), w.secondary, w.coherent)) =
      some (true, true, false, true) :=
  ⟨accepted_of _ _ _ (inTurn_of _ _ _ (received _ _ (by decide)) (by decide +kernel)) (by decide +kernel), by decide +kernel, by decide, by decide, by decide, by decide,
   by decide +kernel⟩

/-- REGISTER with 64 sets of two ways. -/
def mRegister : Msg := msg Op.register 0 [0x61, 0, 0, 0, 0, 0, 0, 0]

theorem witness_LinesComeBack_register : listedSlot (device cCoh) 2 = some 4 ∧ Accepted (device cCoh) Op.register mRegister ∧
    (slotOf (device cCoh) 4).st = .unregistered :=
  ⟨by decide +kernel, accepted_of _ _ _ (inTurn_of _ _ _ (received _ _ (by decide)) (by decide +kernel)) (by decide +kernel), by decide +kernel⟩
theorem witness_LinesComeBack_deregister : Accepted (sCoh []) Op.deregister (msg Op.deregister 0 []) ∧ slotOfEp (sCoh []) 2 = some 4 ∧
    (slotOf (sCoh []) 4).st = .registered ∧ (slotOf (sCoh []) 4).recs = [] ∧ allRecs (sCoh []) = [] ∧ (slotOf (sCoh []) 4).ep = 2 :=
  ⟨accepted_of _ _ _ (inTurn_of _ _ _ (received _ _ (by decide)) (by decide +kernel)) (by decide +kernel), by decide +kernel, by decide +kernel, by decide +kernel,
   by decide +kernel, by decide +kernel⟩

/-- A transaction with a snoop out to endpoint 2 for line 3. -/
def xSnoop : Snoop := { ep := 2, slot := 4, set := 3, way := 1, line := 3, opcode := Op.snpInv, tag := 1, seq := 5 }

/-- A device with one transaction. -/
def oneTx (s : State) (t : Tx) : State := { s with pool := { s.pool with txs := [t], nextTx := t.id + 1 } }

/-- RD_OWN of another endpoint waits for the snoop. -/
def sSnoop : State :=
  oneTx (sHolds 2) { id := 0, source := 3, tag := 8, work := .req Op.rdOwn (mLine Op.rdOwn []), stage := .snooping, snoops := [xSnoop] }

/-- The snoop's answer, without data. -/
def mSnooped : Msg := remsg Op.completion { bare 384 (List.replicate 8 0) with tag := 1, seq := 5 }

theorem witness_SnoopsAreAnswered_answer : Awake sSnoop ∧ pmtServes sSnoop = true ∧ mSnooped.port ≤ 1024 ∧ wellReceived Op.completion mSnooped = true ∧
    (snoopFor? sSnoop mSnooped).map Prod.snd = some xSnoop ∧ statusOf mSnooped.flags.toNat = St.ok ∧ mSnooped.length = 8 ∧
    mSnooped.payload = List.replicate 8 0 ∧ xSnoop.opcode = Op.snpInv ∧
    alGet (slotOf sSnoop xSnoop.slot).recs (xSnoop.set, xSnoop.way) = some { line := 3, state := 2, stale := false } ∧ paired sSnoop = false := by
  refine ⟨rfl, ?_⟩; decide +kernel
theorem witness_SnoopsAreAnswered_recall : 2 < 1048576 ∧ 3 < 2 ^ 49 ∧ xSnoop.resends < coatFld sSnoop Reg.cohCfg 0 10 3 := by decide +kernel

/-- A transaction answered RETRY, first in the queue of line 3. -/
def sRetried (granted : Bool) : State :=
  let s := oneTx (sCoh []) { id := 0, source := 2, tag := 7, work := .req Op.rdOwn (mLine Op.rdOwn []), stage := .reserved granted }
  { s with pool := { s.pool with retries := [(3, [0])] } }

theorem witness_SnoopsAreAnswered_grant : alGet (sRetried false).pool.retries 3 = some [0] ∧ alGet (sRetried false).pool.holds 3 = none ∧
    residentEp (sRetried false) (mLine Op.rdOwn []).src = false := by decide +kernel

/-- A granted reservation of endpoint 2 that touches no line. -/
theorem witness_WaitsEndBusy_hold : Awake (sRetried true) ∧ 2 < 1048576 ∧ 7 < 65536 ∧ ((sRetried true).pool.txs.map touches) = [[]] := by
  refine ⟨rfl, ?_⟩; decide +kernel

/-- A write to a dense-backed window is held: a dirty line exceeds DIRTY_MAX of zero sixteenths. -/
def sDirty : State :=
  let s := oneTx (sCap 2) { id := 0, source := 2, tag := 7, work := .req Op.write (mWrite Op.write 0), writes := [(0, 1)] }
  { s with cfg := { s.cfg with active := some { cCap 2 with regs := (cCap 2).regs ++ [rg Reg.poolTierCfg 0 0] } },
           pool := { s.pool with cache := [(9, { dirty := true })] } }

theorem witness_WaitsEndBusy_dirty : Awake sDirty ∧ (sDirty.pool.txs.map fun t => (t.stage, heldDirty sDirty t)) = [(.waiting, true)] := by
  refine ⟨rfl, ?_⟩; decide +kernel

/-- A twin whose partner's dirty shadow has no space. -/
def sShadow : State :=
  let s := oneTx (sCap 1) { id := 0, source := 2, tag := 7, work := .req Op.write (mWrite Op.write 0), writes := [(0, 1)] }
  { s with scr := { role := 1, st := .paired }, cfg := { s.cfg with active := some { cCap 1 with regs := (cCap 1).regs ++ [rg Reg.scrCfg 0 0] } } }

theorem witness_WaitsEndBusy_shadow : Awake sShadow ∧ (sShadow.pool.txs.map fun t => (t.stage, heldShadow sShadow t)) = [(.waiting, true)] ∧
    residentEp sShadow 2 = false := by refine ⟨rfl, ?_⟩; decide +kernel

/-! ### The dense tier -/

/-- Tray 3's own message: BR_DONE or BR_NOTIFY. -/
def mTray (op : Nat) (payload : List Byte) : Msg := remsg op { bare 0 payload with source := 63, wt := 0, job := 0 }

/-- BR_DONE of the erase with tag 9, failed. -/
def mErased : Msg := mTray Op.brDone [BitVec.ofNat 8 Op.brErase, 1, 0, 9, 0, 0, 0, 0]

/-- An erase of tray 3's unit 5 is under way. -/
def sErase : State := { device cTier with dns := { st := 2, jobs := [(0, .erase 3 5 0 0 0 9)] } }

theorem fromTray_of (s : State) (op : Nat) (m : Msg) (tray : Nat) (hw : wellReceived op m = true) (h : ((s.hooks.isEmpty && s.pool.txs.isEmpty &&
    s.pool.outs.isEmpty && s.til.invs.isEmpty && s.trw.groups.isEmpty && (s.cfg.units.all fun u => !u.2.wanted) &&
    (s.cfg.poolReady || !s.cfg.forwarding) && s.pool.bgWait.isEmpty && (s.pool.before.all fun b => b.1 ≤ s.pool.nextTx)) && !s.pwr.inReset && pmtServes s && s.scr.st == .solo && decide (m.port ≤ 1024) &&
    denseTrayAt s m.src == some tray && denseTrayEp s tray == some m.src && !residentEp s m.src && m.seq.toNat == (srcOf s m.src).expect &&
    (srcOf s m.src).held.isEmpty && (srcOf s m.src).resetWait.isNone && s.pool.drain.isNone && opFormat s op m) = true) : FromTray s op m tray := by
  simp only [and_assoc, Bool.and_eq_true] at h
  obtain ⟨h1, h2, h3, h4, h5, h6, h7, h8, h9, h⟩ := h
  have hc := calm_of s (by simp only [h1, h2, h3, h4, h5, h6, h7, h8, h9, Bool.and_self])
  simp only [List.isEmpty_iff, Option.isNone_iff_eq_none, beq_iff_eq, Bool.not_eq_true', decide_eq_true_eq] at h
  obtain ⟨h8, h9, h10, h11, h12, h13, h14, h15, h16, h17, h18, h19⟩ := h
  exact ⟨h8, hc, h9, h10, h11, hw, h12, h13, h14, h15, h16, h17, h18, h19⟩

theorem witness_DenseTraysAnswer_erase : Awake sErase ∧ 3 < 48 ∧ FromTray sErase Op.brDone mErased 3 ∧ (∀ p ∈ sErase.dns.rows, p.2 = []) ∧
    sErase.dns.rootDue = false ∧ (dTrayOf sErase 3).st ≠ 5 ∧ outWith sErase (.brHealth 3 0) = none ∧
    beAt mErased.body 0 1 = Op.brErase ∧ beAt mErased.body 1 1 = 1 ∧ beAt mErased.body 2 2 = 9 ∧ (euOf sErase 3 5).st ≠ 3 := by
  refine ⟨rfl, by decide, fromTray_of _ _ _ _ (received _ _ (by decide)) (by decide +kernel), ?_⟩; decide +kernel

/-- A recovered dense tier with nothing under way. -/
def sDense : State := { device cTier with dns := { st := 2, trays := (List.range 10).map fun i => (i, { st := 1 }) } }

theorem rest_dense : Rest sDense := by refine ⟨calm_of _ ?_, ?_⟩ <;> decide +kernel
theorem witness_DenseTraysAnswer_idle : Awake sDense ∧ FromTray sDense Op.brDone mErased 3 ∧ Rest sDense :=
  ⟨rfl, fromTray_of _ _ _ _ (received _ _ (by decide)) (by decide +kernel), rest_dense⟩

/-- BR_NOTIFY of a kind, for die 2. -/
def mNotify (kind : Byte) : Msg := mTray Op.brNotify [kind, 2, 0, 0]

theorem witness_DenseTraysAnswer_power : FromTray sDense Op.brNotify (mNotify 0) 3 ∧ Rest sDense ∧ beAt (mNotify 0).body 0 1 = 0 :=
  ⟨fromTray_of _ _ _ _ (received _ _ (by decide)) (by decide +kernel), rest_dense, by decide +kernel⟩
theorem witness_DenseTraysAnswer_die : FromTray sDense Op.brNotify (mNotify 1) 3 ∧ Rest sDense ∧ beAt (mNotify 1).body 0 1 = 1 ∧
    sDense.dns.stripes = [] :=
  ⟨fromTray_of _ _ _ _ (received _ _ (by decide)) (by decide +kernel), rest_dense, by decide +kernel, rfl⟩
theorem witness_DenseTraysAnswer_timer : 9 < 65536 ∧ mediaWaits sErase 3 9 = some (0, .erase 3 5 0 0 0 9) ∧ outWith sErase (.brHealth 3 0) = none ∧
    denseTrayEp sErase 3 = some 63 := by decide +kernel

/-- A refused BR_IDENT of tray 3, refused first in a tick. -/
def oRefused (since : Option Nat) : OutReq :=
  { target := 63, tag := 4, seq := 1, opcode := Op.brIdent, sent := true, busyWait := true, busySince := since, purpose := .brIdent 3 }

/-- The device that waits with it. -/
def sRefused (since : Option Nat) (tick : Nat) : State :=
  { sDense with pool := { outs := [oRefused since] }, pwr := { sDense.pwr with uptime := tick } }

theorem witness_DenseTraysAnswer_busy : denseTrayEp (sRefused (some 1) 500000) 3 = some 63 ∧
    outOf (sRefused (some 1) 500000) 63 4 = some (oRefused (some 1)) ∧ (oRefused (some 1)).busyWait = true ∧ 500000 - 1 < 500000 ∧
    500000 ≤ (sRefused (some 1) 500001).pwr.uptime - 1 := by decide +kernel

/-- Ten members, one on each tray. -/
def tenMembers : List (Nat × Nat) := (List.range 10).map fun i => (i, 5)

/-- A dense tier with a stripe and a map. -/
def sStripe (x : Stripe) (map : List (Nat × MapEnt)) : State := { sDense with dns := { sDense.dns with stripes := [(0, x)], map } }

/-- The same stripe, closed and empty, when erase unit 5 of tray 3 is retired. -/
def sVictim : State :=
  let s := sStripe { members := tenMembers, stream := 0, closed := some 1 } []
  { s with dns := { s.dns with trays := alSet s.dns.trays 3 { st := 1, eus := [(5, { st := 3 })] } } }

theorem witness_MediaIsCaredFor_victim : Awake sVictim ∧ sVictim.dns.st = 2 ∧ 10 ≤ (denseUp sVictim).length ∧ sVictim.dns.victim = none ∧
    pickVictim sVictim = some 0 ∧ (sVictim.dns.stripes.map Prod.snd).all (fun x => stripeUnits sVictim x == []) = true := by
  refine ⟨rfl, ?_⟩; decide +kernel

/-- Unit 7 is to be refreshed. -/
def sRefresh : State := { sDense with dns := { sDense.dns with map := [(7, { st := .dense, serial := 3 })], refreshDue := [7] } }

theorem witness_MediaIsCaredFor_refresh : Awake sRefresh ∧ sRefresh.dns.st = 2 ∧ 7 < 2 ^ 40 ∧ 7 ∈ sRefresh.dns.refreshDue ∧ (mapOf sRefresh 7).st = .dense := by
  refine ⟨rfl, ?_⟩; decide +kernel

/-- A stripe of two rows, and a pass of patrol that is due to be done. -/
def sPatrol : State :=
  let s := sStripe { members := tenMembers, stream := 0, rows := 2 } []
  { s with pwr := { s.pwr with uptime := 32 * dayTicks } }

theorem witness_MediaIsCaredFor_patrol : Awake sPatrol ∧ sPatrol.dns.st = 2 ∧ patrolSpots sPatrol ≠ [] ∧
    patrolTarget sPatrol (patrolSpots sPatrol).length = (patrolSpots sPatrol).length := by refine ⟨rfl, ?_⟩; decide +kernel

/-- A stripe whose member 4 is being rebuilt. -/
def sRebuild : State := sStripe { members := tenMembers, stream := 0, rows := 2, closed := some 1, missing := [4], rebuild := some (4, 4, 6, 1) } []

theorem witness_MediaIsCaredFor_rebuild : (rebuildNext sRebuild).map Prod.fst = some 0 ∧ rebuilding sRebuild 0 = false ∧
    (rebuildNext sRebuild).map (fun p => (p.2.rebuild, p.2.rows)) = some (some (4, 4, 6, 1), 2) := by decide +kernel
theorem witness_MediaIsCaredFor_checkpoint : Awake sRefresh ∧ sRefresh.dns.st = 2 := ⟨rfl, rfl⟩
theorem witness_MediaIsCaredFor_recovery : (coat sDense).dense.trays ≠ [] ∧ (coat (device {})).dense.trays = [] := by decide +kernel

/-- A recovery under way. -/
def sRecovers : State := { device cTier with dns := { st := 1 }, nv := { media := { map := [(7, { st := .dense })] } } }

theorem witness_MediaIsCaredFor_recovered : Awake sRecovers ∧ sRecovers.dns.st = 1 ∧ sRecovers.nv.media.stripes = [] := ⟨rfl, rfl, rfl⟩

/-! ### Reduction -/

/-- A coat with group 3: 32 FP32 elements, one chunk, with contributors; gauge 5. -/
def cRed (flags : Nat) (table : List ContribEnt) : Coat :=
  { regs := [rg Reg.poolSrcCfg 2 8, rg Reg.trwGrpCfg 3 (2 ^ 28 + 2 ^ 12 + 5 * 2 ^ 14 + flags), rg Reg.trwGrpOp 3 (2 ^ 17), rg Reg.trwGrpElemsLo 3 32,
             rg Reg.trwGrpKey 3 0x1001, rg Reg.trwGrpDown 3 (1 + 7 * 8), rg Reg.trwGrpMcast 3 9, rg Reg.trwGaugeTarget 5 10,
             rg Reg.trwGaugeKey 5 0x1001],
    reduction := { tables := [(3, table)] } }

/-- The device of a group of two ranks, and of one rank. -/
def sRed (n : Nat) : State := device (cRed 0 ((List.range n).map fun i => { ep := 2 + i }))

/-- A contribution of 32 ones. -/
def mContrib : Msg := remsg Op.redContrib { bare (3 * 2 ^ 42) (List.replicate 32 [0, 0, 0x80, 0x3F]).flatten with cls := 11 }

theorem witness_ContributionsAreReduced_stays : Accepted (sRed 2) Op.redContrib mContrib ∧ 3 = grpOfAddr mContrib.address.toNat ∧
    (grpIn (coat (sRed 2)) 3).map (fun x => (rankOf x mContrib.src, (stagePlace (sRed 2) x (contribInSlot (sRed 2) 3)).isSome, x.table.length)) =
      some (some 0, true, 2) ∧ mContrib.epoch = 0 ∧ elemOfAddr mContrib.address.toNat = 0 ∧ mContrib.address.toNat.testBit 41 = false := by
  refine ⟨accepted_of _ _ _ (inTurn_of _ _ _ (received _ _ (by decide)) (by decide +kernel)) (by decide +kernel), ?_⟩; decide +kernel
theorem witness_ContributionsAreReduced_emits : Accepted (sRed 1) Op.redContrib mContrib ∧
    (grpIn (coat (sRed 1)) 3).map (fun x => (rankOf x mContrib.src, (stagePlace (sRed 1) x (contribInSlot (sRed 1) 3)).isSome, x.table.length)) =
      some (some 0, true, 1) ∧
    (grpIn (coat (sRed 1)) 3).map (fun x => (x.root, x.dest, x.chunks,
      decide ((gaugeOf (sRed 1) x.gauge).value + 1 < gaugeTarget (sRed 1) x.gauge))) = some (true, 1, 1, true) := by
  refine ⟨accepted_of _ _ _ (inTurn_of _ _ _ (received _ _ (by decide)) (by decide +kernel)) (by decide +kernel), ?_⟩; decide +kernel

/-- An increment of gauge 5. -/
def mInc (epoch amount : Nat) : Msg :=
  remsg Op.gaugeInc { bare (5 * 2 ^ 42) (beBytes 4 amount ++ [0, 0, 0, 0]) with epoch := BitVec.ofNat 16 epoch }

theorem witness_GaugesCount : 5 = grpOfAddr (mInc 0 9).address.toNat ∧ Accepted (sRed 1) Op.gaugeInc (mInc 0 9) ∧
    (mInc 0 9).epoch.toNat = (gaugeOf (sRed 1) 5).epoch ∧ (gaugeOf (sRed 1) 5).value + beAt (mInc 0 9).body 0 4 < gaugeTarget (sRed 1) 5 :=
  ⟨by decide +kernel, accepted_of _ _ _ (inTurn_of _ _ _ (received _ _ (by decide)) (by decide +kernel)) (by decide +kernel), by decide +kernel,
   by decide +kernel⟩
theorem witness_GaugesCount_fires : Accepted (sRed 1) Op.gaugeInc (mInc 0 10) ∧
    (gaugeOf (sRed 1) 5).value + beAt (mInc 0 10).body 0 4 = gaugeTarget (sRed 1) 5 ∧ (gaugeOf (sRed 1) 5).next < gaugeTarget (sRed 1) 5 ∧
    bit (coatReg (sRed 1) Reg.trwGaugeCfg 5) 16 = false ∧ bit (coatReg (sRed 1) Reg.trwGaugeCfg 5) 17 = false :=
  ⟨accepted_of _ _ _ (inTurn_of _ _ _ (received _ _ (by decide)) (by decide +kernel)) (by decide +kernel), by decide +kernel, by decide +kernel,
   by decide +kernel, by decide +kernel⟩

/-- Gauge 5 in its last epoch. -/
def sLastEpoch : State := { sRed 1 with trw := { gauges := [(5, { epoch := 65535 })] } }

theorem witness_GaugesCount_next : Accepted sLastEpoch Op.gaugeInc (mInc 0 9) ∧ (gaugeOf sLastEpoch 5).epoch < 65536 ∧
    (mInc 0 9).epoch.toNat = ((gaugeOf sLastEpoch 5).epoch + 1) % two16 :=
  ⟨accepted_of _ _ _ (inTurn_of _ _ _ (received _ _ (by decide)) (by decide +kernel)) (by decide +kernel), by decide +kernel, by decide +kernel⟩
theorem witness_GaugesCount_read : Accepted sLastEpoch Op.gaugeRead (remsg Op.gaugeRead { bare (5 * 2 ^ 42) [] with epoch := 0 }) :=
  accepted_of _ _ _ (inTurn_of _ _ _ (received _ _ (by decide)) (by decide +kernel)) (by decide +kernel)

/-- A group of two ranks whose first chunk is in staging; rank 0 has contributed. -/
def gStage (exclude : Bool) : Grp := { id := 16383, exclude, key := { tenant := 1, job := 1 }, elems := 32, table := [{ ep := 2 }, { ep := 3 }] }

/-- That chunk. -/
def kStage (readback : Nat) : Chunk := { idx := 0, got := [0], readback }

/-- Its device, with the contributions that wait. -/
def sStage (exclude : Bool) (readback : Nat) (wait : List CWait) : State :=
  { sRed 2 with trw := { groups := [(16383, { epochs := [{ num := 65535, grp := gStage exclude, chunks := [kStage readback] }], wait })] },
                pool := { txs := wait.map fun w => { id := w.tx, source := w.source, tag := w.tag, work := .req Op.redContrib mContrib } } }

theorem witness_StagingIsWatched : Awake (sStage false 1 []) ∧ 16383 < 16384 ∧ 65535 < 65536 ∧ 0 < 2 ^ 41 ∧
    (epochOf (sStage false 1 []) 16383 65535).map (fun x => (x.grp.id, x.grp.exclude, notArrived (sStage false 1 []) x (kStage 1))) = some (16383, false, [1]) ∧
    chunkOf (sStage false 1 []) 16383 65535 0 = some (kStage 1) ∧ (kStage 1).readback = 1 ∧ (kStage 1).atInput = none := by
  refine ⟨rfl, ?_⟩; decide +kernel
theorem witness_StagingIsWatched_wait : (grpSt (sStage false 0 [⟨4, 2, 7, 0, 65535, 1, false⟩]) 16383).wait = [⟨4, 2, 7, 0, 65535, 1, false⟩] ∧
    2 < 1048576 ∧ 7 < 65536 ∧ (kStage 0).full = false := by decide +kernel
theorem witness_StagingIsWatched_excludes : (epochOf (sStage true 0 []) 16383 65535).map (fun x => (x.grp.exclude, notArrived (sStage true 0 []) x (kStage 0))) =
    some (true, [1]) := by decide +kernel
theorem witness_StagingIsWatched_units : 63 < 64 ∧ (unitOf (sStage true 0 []) 3 63).st ≠ 3 ∧
    (unitOf { sStage true 0 [] with cfg := { (sStage true 0 []).cfg with units := [((3, 63), { st := 3 })] } } 3 63).st = 3 := by decide +kernel

/-! ### Gather, Sieve, RUB and the tiles -/

/-- A coat with window 0 pinned and a host-op core. -/
def cGth : Coat := { regs := [rg Reg.poolSrcCfg 2 8] ++ winRegs 0 0 0 }

/-- Its device; row 1 of the table and record 2 are not zero. -/
def sGth : State := { device cGth with mem := [(0x2100, 5), (0x3020, 9)] }

/-- GATHER of rows 1 and 9 of a table of 8 rows of 64 bytes, 256 apart: the second is out of range. -/
def mGather : Msg :=
  msg Op.gather 0x2000 ([0, 0] ++ beBytes 2 64 ++ beBytes 4 8 ++ beBytes 4 256 ++ beBytes 4 2 ++ List.replicate 32 0 ++ beBytes 4 1 ++ beBytes 4 9)

theorem witness_RowsAndRecordsAreDelivered_gather : sGth.coh.slots = [] ∧ Accepted sGth Op.gather mGather ∧ pickUnit sGth Op.gather = some 0 ∧
    (gReq mGather.body mGather.address.toNat).listBase = 0 ∧ (gReq mGather.body mGather.address.toNat).dest = 0 ∧
    (gReq mGather.body mGather.address.toNat).fmt ≤ 1 ∧
    (gReq mGather.body mGather.address.toNat).count * (gReq mGather.body mGather.address.toNat).rowBytes ≤ 4088 ∧
    (∀ k, k < (gReq mGather.body mGather.address.toNat).rows →
      some k ∈ (listRows (gReq mGather.body mGather.address.toNat) (gReq mGather.body mGather.address.toNat).inl true).1 →
      InHand sGth (lineRange ((gReq mGather.body mGather.address.toNat).rowAddr k) (gReq mGather.body mGather.address.toNat).rowBytes)) := by
  have hl : (listRows (gReq mGather.body mGather.address.toNat) (gReq mGather.body mGather.address.toNat).inl true).1 = [some 1, none] := by decide +kernel
  refine ⟨rfl, accepted_of _ _ _ (inTurn_of _ _ _ (received _ _ (by decide)) (by decide +kernel)) (by decide +kernel), by decide +kernel, by decide +kernel,
    by decide +kernel, by decide +kernel, by decide +kernel, ?_⟩
  intro k _ hk
  rw [hl] at hk
  have : k = 1 := by simpa using hk
  subst this
  exact inHand_of _ _ rfl (by decide +kernel)

/-- SIEVE of eight records of 16 bytes at 0x3000 for I32 keys greater than 0, all of them. -/
def mSieve (p : Byte) : Msg :=
  msg Op.sieve 0x3000 ([0, 10] ++ beBytes 2 16 ++ beBytes 2 0 ++ [0, 0] ++ beBytes 4 8 ++ beBytes 4 0 ++ [p] ++ List.replicate 31 0)

theorem witness_RowsAndRecordsAreDelivered_sieve : Accepted sGth Op.sieve (mSieve 5) ∧ pickUnit sGth Op.sieve = some 0 ∧
    (sReq (mSieve 5).body (mSieve 5).address.toNat).dest = 0 ∧
    InHand sGth (lineRange (sReq (mSieve 5).body (mSieve 5).address.toNat).base
      ((sReq (mSieve 5).body (mSieve 5).address.toNat).records * (sReq (mSieve 5).body (mSieve 5).address.toNat).recBytes)) ∧
    (let q := sReq (mSieve 5).body (mSieve 5).address.toNat
     let data := memRead sGth.mem q.base (q.records * q.recBytes)
     let keys := (List.range q.records).map fun i => leAt data (i * q.recBytes + q.keyOff) ((fmtOf q.key).bits / 8)
     (sieveFind q keys).1 ≠ [] ∧ (sieveFind q keys).1.length * q.item ≤ 4088) :=
  ⟨accepted_of _ _ _ (inTurn_of _ _ _ (received _ _ (by decide)) (by decide +kernel)) (by decide +kernel), by decide +kernel, by decide +kernel,
   inHand_of _ _ rfl (by decide +kernel), by decide +kernel⟩
theorem witness_RowsAndRecordsAreDelivered_unit : Awake sGth ∧ 15 < 16 ∧ (unitOf sGth 5 15).st ≠ 3 ∧ (unitOf sGth 4 15).st ≠ 3 ∧
    (sGth.pool.txs.map Tx.id).Nodup := by refine ⟨rfl, ?_⟩; decide +kernel

/-- The gradient ring of a group holds one chunk of an epoch that is being updated. -/
def sRing : State :=
  { device cGth with trw := { groups := [(3, { epochs := [{ num := 0, grp := { id := 3, dest := 4, root := true, tileFirst := 79, tileCount := 1 } }],
                                               ring := [{ epoch := 0, chunk := 0, grads := [1] }] })] } }

theorem witness_RowsAndRecordsAreDelivered_ring : Awake sRing ∧ 3 < 16384 ∧ 79 < 80 ∧ ringNext sRing 3 = some { epoch := 0, chunk := 0, grads := [1] } ∧
    ((grpSt sRing 3).epochs.find? fun x => x.num == 0).bind (fun x => rubTile sRing x.grp) = some 79 := by refine ⟨rfl, ?_⟩; decide +kernel

/-- A Fresco image with one op, which runs on tiles, or on a host core (0x60), on at most two tiles. -/
def image (op : Byte) : List Byte :=
  List.replicate 8 0 ++ [1, 0, 0, 0, 0, 2] ++ List.replicate 114 0 ++ [op, 0, 0, 0] ++ List.replicate 12 0

/-- A program on tiles 78 and 79. -/
def prog (op : Byte) : ProgEnt := { slot := 5, key := { tenant := 1, job := 1 }, first := 78, count := 2, conc := 1, image := image op }

/-- A device whose program slot 5 is READY. -/
def sProg : State := { device cGth with til := { progs := [(5, { cur := some (prog 0x10) })] } }

/-- TILE_INVOKE of slot 5 without arguments. -/
def mInvoke : Msg := msg Op.tileInvoke 0 (beBytes 2 5 ++ List.replicate 6 0)

theorem witness_InvocationsRun_invoke : Awake sProg ∧ Accepted sProg Op.tileInvoke mInvoke ∧ (progSt sProg (invSlot mInvoke)).cur = some (prog 0x10) ∧
    0 < frOps (prog 0x10).image ∧ frOnHost (prog 0x10).image 0 = false ∧ (frOp (prog 0x10).image 0).code ≠ 0x7F :=
  ⟨rfl, accepted_of _ _ _ (inTurn_of _ _ _ (received _ _ (by decide)) (by decide +kernel)) (by decide +kernel), by decide +kernel, by decide +kernel,
   by decide +kernel, by decide +kernel⟩

/-- A slot whose new program is being lowered. -/
def sLower (applied : Bool) : State := { device cGth with til := { progs := [(1023, { new := some (prog 0x10), applied })] } }

theorem witness_InvocationsRun_lowered : 1023 < 1024 ∧ (progSt (sLower true) 1023).new = some (prog 0x10) ∧ (progSt (sLower true) 1023).lowered = none ∧
    (progSt (sLower false) 1023).applied = false := by decide +kernel

/-- An invocation. -/
def inv (op : Byte) (parts : List PartSt) : Inv := { tx := 0, source := 2, tag := 7, slot := 5, prog := prog op, bases := [], started := some 0, parts }

/-- A device that executes it. -/
def sInv (op : Byte) (parts : List PartSt) : State :=
  { oneTx (device { cGth with regs := cGth.regs ++ [rg Reg.tilCfg 0 (2 ^ 14 + 2 ^ 9)] }) { id := 0, source := 2, tag := 7, work := .req Op.tileInvoke mInvoke } with
    til := { invs := [inv op parts] } }

theorem witness_InvocationsRun_host : Awake (sInv 0x60 []) ∧ (hostOpCores (sInv 0x60 [])).head? = some 5 ∧ 5 < 24 ∧ coreRunsOp (sInv 0x60 []) 5 = false ∧
    invOf (sInv 0x60 []) 0 = some (inv 0x60 []) ∧
    (oldestInv (sInv 0x60 []) fun v => runsHere (sInv 0x60 []) v.prog.twin && !v.dma && v.core.isNone && v.pc < frOps v.prog.image && frOnHost v.prog.image v.pc) = some (inv 0x60 []) := by
  refine ⟨rfl, ?_⟩; decide +kernel

/-- No tile of the program's set serves. -/
def sNoTile : State :=
  { sInv 0x10 [.waiting, .ended] with cfg := { (sInv 0x10 []).cfg with units := [((2, 78), { st := 3 }), ((2, 79), { st := 1 })] } }

theorem witness_InvocationsRun_noTile : Awake sNoTile ∧ 2 < 1048576 ∧ 7 < 65536 ∧
    (sNoTile.til.invs.find? fun v => v.source == 2 && v.tag == 7 && v.started.isSome) = some (inv 0x10 [.waiting, .ended]) ∧
    (inv 0x10 [.waiting, .ended]).pc < frOps (prog 0x10).image ∧ frOnHost (prog 0x10).image 0 = false ∧
    (∀ i, i < 80 → ¬(inSet (prog 0x10) i = true ∧ inService sNoTile 2 i = true)) := by
  refine ⟨rfl, by decide, by decide, by decide +kernel, by decide +kernel, by decide +kernel, ?_⟩
  have h : ((List.range 80).all fun i => !(inSet (prog 0x10) i && inService sNoTile 2 i)) = true := by decide +kernel
  intro i hi hc
  have := List.all_eq_true.mp h i (List.mem_range.mpr hi)
  rw [hc.1, hc.2] at this
  exact absurd this (by decide)
theorem witness_InvocationsRun_dispatch : invOf (sInv 0x10 [.ended, .waiting]) 0 = some (inv 0x10 [.ended, .waiting]) ∧ 79 < 80 ∧
    (inv 0x10 [.ended, .waiting]).fenced = false ∧ inService (sInv 0x10 [.ended, .waiting]) 2 79 = true ∧
    (unitOf (sInv 0x10 [.ended, .waiting]) 2 79).wanted = false ∧ tileBusy (sInv 0x10 [.ended, .waiting]) 79 = false ∧
    (rubTiles (coat (sInv 0x10 [.ended, .waiting]))).contains 79 = false ∧
    (oldestInv (sInv 0x10 [.ended, .waiting]) fun v => runsHere (sInv 0x10 [.ended, .waiting]) v.prog.twin && v.parts.contains .waiting && inSet v.prog 79) = some (inv 0x10 [.ended, .waiting]) := by
  decide +kernel
theorem witness_InvocationsRun_end : ((sInv 0x10 [.running 79, .waiting]).til.invs.find? fun v => v.on 79) = some (inv 0x10 [.running 79, .waiting]) ∧
    ((sInv 0x10 [.ended, .running 79]).til.invs.find? fun v => v.on 79) = some (inv 0x10 [.ended, .running 79]) ∧
    (unitOf (sInv 0x10 [.ended, .running 79]) 2 79).wanted = false ∧ (unitOf (sInv 0x10 [.ended, .running 79]) 2 79).st ≠ 3 := by decide +kernel

/-! ### Host cores -/

/-- A program of slot 3, endpoint 9. -/
def resEnt3 : ResEnt := { slot := 3, key := { tenant := 1, job := 1 }, ep := 9, cores := 2, memMib := 1 }

/-- A coat with window 0 pinned, one lowering core, two host-op cores and that program. -/
def cCor : Coat :=
  { regs := [rg Reg.poolSrcCfg 2 8, rg Reg.poolSrcCfg 9 8, rg Reg.tilCfg 0 (2 ^ 14 + 2 * 2 ^ 9)] ++
      ((winRegs 0 0 0).map fun r => if r.addr = Reg.poolWinOwner then { r with val := 9 } else r),
    resident := { slots := [resEnt3] } }

/-- Its device: the program in a state, on cores, with messages. -/
def sCor (r : Res) : State :=
  { device cCor with cor := { res := [(3, r)] }, mem := [(5, 0xAB)], til := { progs := [(5, { cur := some (prog 0x10) })] } }

/-- The program runs on cores 22 and 23. -/
def resRuns : Res := { st := 2, cores := [22, 23] }

theorem coreTag_of (s : State) (ep : Nat) (h : tagInUse s ep 0 = false) : coreTag s ep = 0 := by
  have : List.range 65536 = 0 :: (List.range 65535).map Nat.succ := List.range_succ_eq_map
  simp [coreTag, this, h]

theorem calls_of (s : State) (core : Nat) (e : ResEnt) (op flags tag address : Nat) (payload : List Byte) (he : e.ep < 1048576)
    (ht : tag = 0) (hi : wellReceived op (coreMsg s e op flags 0 address payload) = true → InTurn s op (coreMsg s e op flags 0 address payload))
    (hc : core < 24) (hs : callSlot s core = some e) (hw : s.cor.waits = [])
    (hf : ((coat s).resident.slots.find? fun r => r.ep == e.ep) = some e) : Calls s core e op (coreMsg s e op flags tag address payload) := by
  subst ht
  refine ⟨hi ?_, hc, hs, hw, ?_, hf⟩
  · refine received op { coreMsg s e op flags 0 address payload with crc := 0 } ?_
    simp [coreMsg]
    omega
  · simp [coreMsg, Msg.src]
    omega

theorem slot_of_call : callSlot (sCor resRuns) 22 = some resEnt3 := by decide +kernel

/-- A call of the program on core 22. -/
theorem called (op flags address : Nat) (payload : List Byte)
    (hi : wellReceived op (coreMsg (sCor resRuns) resEnt3 op flags 0 address payload) = true → InTurn (sCor resRuns) op (coreMsg (sCor resRuns) resEnt3 op flags 0 address payload)) :
    Calls (sCor resRuns) 22 resEnt3 op (coreMsg (sCor resRuns) resEnt3 op flags (coreTag (sCor resRuns) 9) address payload) :=
  calls_of _ _ _ _ _ _ _ _ (by decide) (coreTag_of _ _ (by decide +kernel)) hi (by decide) slot_of_call rfl (by decide +kernel)

theorem witness_ProgramsReachThePool_read : (sCor resRuns).coh.slots = [] ∧ 64 < 65536 ∧
    Calls (sCor resRuns) 22 resEnt3 Op.read (coreMsg (sCor resRuns) resEnt3 Op.read (readFlags true false) (coreTag (sCor resRuns) 9) 0 (beBytes 2 64 ++ [0, 0])) ∧
    InHand (sCor resRuns) (lineRange 0 64) :=
  ⟨rfl, by decide, called _ _ _ _ (fun h => inTurn_of _ _ _ h (by decide +kernel)), inHand_of _ _ rfl (by decide +kernel)⟩
theorem witness_ProgramsReachThePool_write :
    Calls (sCor resRuns) 22 resEnt3 Op.write (coreMsg (sCor resRuns) resEnt3 Op.write (2 ^ flagRel) (coreTag (sCor resRuns) 9) 0x1000 (List.replicate 64 0x5A)) ∧
    InHand (sCor resRuns) (lineRange 0x1000 64) ∧ WritesAlone (sCor resRuns) 0x1000 :=
  ⟨called _ _ _ _ (fun h => inTurn_of _ _ _ h (by decide +kernel)), inHand_of _ _ rfl (by decide +kernel), writesAlone_of _ _ (by decide +kernel) (by decide +kernel)⟩

/-- The payload of an add of 3 to four bytes. -/
def addThree : List Byte := [0, 4, 0, 0, 0, 0, 0, 0] ++ beBytes 8 3 ++ beBytes 8 0

theorem witness_ProgramsReachThePool_atomic :
    Calls (sCor resRuns) 22 resEnt3 Op.atomic (coreMsg (sCor resRuns) resEnt3 Op.atomic 0 (coreTag (sCor resRuns) 9) 4 addThree) ∧
    addThree.length = 24 ∧ (aopOf (beAt addThree 0 1)).isSome = true ∧ InHand (sCor resRuns) (4 / 128, 1) ∧ WritesAlone (sCor resRuns) (128 * (4 / 128)) ∧
    (sCor resRuns).pool.holds = [] ∧ (sCor resRuns).pool.retries = [] :=
  ⟨called _ _ _ _ (fun h => inTurn_of _ _ _ h (by decide +kernel)), rfl, by decide, inHand_of _ _ rfl (by decide +kernel),
   writesAlone_of _ _ (by decide +kernel) (by decide +kernel), rfl, rfl⟩
theorem witness_ProgramsReachThePool_flush :
    Calls (sCor resRuns) 22 resEnt3 Op.flush (coreMsg (sCor resRuns) resEnt3 Op.flush 0 (coreTag (sCor resRuns) 9) 0 (beBytes 8 256)) ∧
    WritesAlone (sCor resRuns) 0 ∧ dirtyLines (sCor resRuns) [lineRange 0 256] = [] :=
  ⟨called _ _ _ _ (fun h => inTurn_of _ _ _ h (by decide +kernel)), writesAlone_of _ _ (by decide +kernel) (by decide +kernel), by decide +kernel⟩

/-- The payload of a message to mailbox 3. -/
def post : List Byte := beBytes 2 3 ++ [0, 0] ++ beBytes 4 99 ++ [1, 2, 3]

theorem witness_ProgramsReachThePool_send : 9 < 1048576 ∧ residentEp (sCor resRuns) 9 = true ∧
    Calls (sCor resRuns) 22 resEnt3 Op.mbxPost (coreMsg (sCor resRuns) resEnt3 Op.mbxPost 0 (coreTag (sCor resRuns) 9) 0 post) ∧
    (resOf (sCor resRuns) 3).st = 2 ∧ (resOf (sCor resRuns) 3).mail.length < 64 :=
  ⟨by decide, by decide +kernel, called _ _ _ _ (fun h => inTurn_of _ _ _ h (by decide +kernel)), by decide +kernel, by decide +kernel⟩
theorem witness_ProgramsReachThePool_invoke : (progSt (sCor resRuns) 5).cur = some (prog 0x10) ∧ (prog 0x10).key = resEnt3.key ∧
    Calls (sCor resRuns) 22 resEnt3 Op.tileInvoke (coreMsg (sCor resRuns) resEnt3 Op.tileInvoke 0 (coreTag (sCor resRuns) 9) 0
      (beBytes 2 5 ++ beBytes 1 0 ++ List.replicate 5 0 ++ [])) :=
  ⟨by decide +kernel, rfl, called _ _ _ _ (fun h => inTurn_of _ _ _ h (by decide +kernel))⟩
theorem witness_ProgramsReachOtherHomes : Awake (sCor resRuns) ∧ 23 < 24 ∧ callSlot (sCor resRuns) 23 = some resEnt3 ∧ 1048575 < 1048576 ∧
    1048575 ≠ selfEp (sCor resRuns) ∧ residentEp (sCor resRuns) 1048575 = false ∧
    ((progSt (sCor resRuns) 0).serving.any fun p => p.key == resEnt3.key) = false := by refine ⟨rfl, ?_⟩; decide +kernel

/-- A message. -/
def mail : Mail := { cookie := 7, message := [1] }

theorem witness_ProgramsCall : Awake (sCor resRuns) ∧ 23 < 24 ∧ callSlot (sCor resRuns) 23 = some resEnt3 ∧ rngServes (sCor resRuns) = false ∧
    (resOf (sCor resRuns) 3).mail = [] ∧ without (resOf (sCor resRuns) 3).cores 23 ≠ [] := by refine ⟨rfl, ?_⟩; decide +kernel
theorem witness_ProgramsCall_random : rngServes { sCor resRuns with sec := { rng := .ready } } = true ∧
    callSlot { sCor resRuns with sec := { rng := .ready } } 22 = some resEnt3 := by decide +kernel
theorem witness_ProgramsCall_message : callSlot (sCor { resRuns with mail := [mail] }) 22 = some resEnt3 ∧
    (resOf (sCor { resRuns with mail := [mail] }) resEnt3.slot).mail = mail :: [] := by decide +kernel
theorem witness_ProgramsCall_exit : callSlot (sCor { resRuns with cores := [22] }) 22 = some resEnt3 ∧
    without (resOf (sCor { resRuns with cores := [22] }) resEnt3.slot).cores 22 = [] := by decide +kernel

/-- MBX_POST to slot 3, by endpoint 2. -/
def mPost : Msg := msg Op.mbxPost 0 post

theorem witness_CoresServe_post : Awake (sCor resRuns) ∧ Accepted (sCor resRuns) Op.mbxPost mPost ∧ beAt mPost.body 0 2 = 3 ∧ (sCor resRuns).cor.waits = [] :=
  ⟨rfl, accepted_of _ _ _ (inTurn_of _ _ _ (received _ _ (by decide)) (by decide +kernel)) (by decide +kernel), by decide, rfl⟩
theorem witness_CoresServe_start : 3 < 64 ∧ resEnt (sCor { st := 1 }) 3 = some resEnt3 ∧ (resOf (sCor { st := 1 }) 3).st = 1 := by decide +kernel
theorem witness_CoresServe_fault : 23 < 24 ∧ ((sCor resRuns).cor.res.find? fun p => p.2.cores.contains 23) = some (3, resRuns) := by decide +kernel
theorem witness_CoresServe_retired : 3 < 4 ∧ (unitOf (sCor resRuns) 9 3).st ≠ 3 ∧ (hostOpCores (sCor resRuns)).getLast? = some 6 := by decide +kernel
theorem witness_CoresServe_coreFault : 4 ≤ 22 ∧ 22 < 24 ∧ (unitOf (sCor resRuns) 9 22).st = 0 ∧ (idleResident (sCor resRuns)).head? = some 7 := by decide +kernel

/-- Firmware cores are updated, core 1 first. -/
def sUpdating (l : List Nat) : State := { device cCor with cfg := { (device cCor).cfg with fwUpdate := l, units := [((9, 1), { st := 1 })] } }

theorem witness_CoresServe_updated : 1 < 4 ∧ (sUpdating [1]).cfg.fwUpdate = [1] ∧ (unitOf (sUpdating [1]) 9 1).st = 1 ∧ 1 ≠ 2 ∧
    (sUpdating [1, 2]).cfg.fwUpdate = [1, 2] ∧ (unitOf (sUpdating [1, 2]) 9 2).st = 0 := by decide +kernel

/-! ### Security -/

/-- A coat with an out-of-rack port 8, and window 0 encrypted under slot 4095. -/
def cSec : Coat :=
  { regs := [rg Reg.poolSrcCfg 2 8, rg (lnkPort Reg.lnkPortCfg 8) 0 4, rg Reg.secCfg 0 (4 + 2 * 4), rg Reg.poolTrkCfg 0 4] ++
      winRegs 0 0x100000 (256 + 65536 * 4095),
    security := { mkaPriority := 5 } }

/-- Its device: session 1 is the fleet manager's, session 2 tenant 5's; slot 4095 holds a key. -/
def sSec (k : KeySlot) : State :=
  { device cSec with sec := { rng := .ready, sessions := [(1, .fm), (2, .tenant 5)], nextSession := 3, keys := [(4095, k)] } }

/-- A KEY_LOAD of a tenant's pair under a slot, for tenant 5, to apply at slot 99. -/
def bLoad (slot : Nat) : List Byte :=
  [1, 0] ++ beBytes 2 slot ++ beBytes 2 5 ++ [0, 0] ++ beBytes 8 99 ++ List.replicate 48 0 ++ List.replicate 32 1 ++ List.replicate 32 2

/-- A KEY_ERASE. -/
def bErase (slot : Nat) : List Byte := [2, 0] ++ beBytes 2 slot

/-- A LINK_CAK of a port. -/
def bCak (port : Nat) : List Byte :=
  [3, 0] ++ beBytes 2 port ++ List.replicate 12 0 ++ List.replicate 16 9 ++ List.replicate 32 0 ++ List.replicate 32 7 ++ List.replicate 32 0

/-- A pair in use, of tenant 5. -/
def kActive : KeySlot := { st := .active, owner := 5, gen := 65535, pair := some [1] }

/-- The next pair waits beside it. -/
def kPending : KeySlot := { kActive with st := .pending, next := some [2] }

/-- Its windows are being re-keyed. -/
def kRotating (off : Nat) : KeySlot := { kActive with st := .rotating, pair := some [2], old := some [1], curOff := off }

theorem witness_KeysAreCommanded_load : Awake (sSec kActive) ∧ keyCmdOk (bLoad 4095) = true ∧ keyCmdOk (bLoad 0) = true ∧
    keyRefused (sSec kActive) (roleOf (sSec kActive) 1) (keyCmd (bLoad 4095)) = false ∧ (keyCmd (bLoad 4095)).cmd = 1 ∧
    (keyCmd (bLoad 4095)).slot = 4095 ∧ (keyCmd (bLoad 4095)).owner = 5 ∧ keySlotOf (sSec kActive) 4095 = kActive ∧
    (keySlotOf (sSec kActive) 0).st = .empty ∧ (keySlotOf (sSec kPending) 4095).st = .pending := by refine ⟨rfl, ?_⟩; decide +kernel
theorem witness_KeysAreCommanded_erase : keyCmdOk (bErase 4095) = true ∧ (keyCmd (bErase 4095)).cmd = 2 ∧
    keyRefused (sSec kActive) (roleOf (sSec kActive) 1) (keyCmd (bErase 4095)) = false ∧ keyNamed (sSec kActive) 4095 = true ∧
    keyNamed { sSec kActive with cfg := (device {}).cfg } 4095 = false := by decide +kernel
theorem witness_KeysAreCommanded_slots : ¬((keySlotOf (sSec { kActive with owner := 6 }) 4095).kind = (keyCmd (bLoad 4095)).kind ∧
    (keySlotOf (sSec { kActive with owner := 6 }) 4095).owner = (keyCmd (bLoad 4095)).owner) ∧
    keyRefused (sSec { kActive with owner := 6 }) (roleOf (sSec kActive) 1) (keyCmd (bLoad 4095)) = false ∧
    (keySlotOf (sSec kActive) (keyCmd (bErase 0)).slot).st = .empty ∧ (keySlotOf (sSec kPending) (keyCmd (bErase 4095)).slot).st = .pending ∧
    keyRefused (sSec kPending) (roleOf (sSec kPending) 1) (keyCmd (bErase 4095)) = false := by decide +kernel
theorem witness_KeysAreCommanded_cak : keyCmdOk (bCak 8) = true ∧ (keyCmd (bCak 8)).cmd = 3 ∧ (keyCmd (bCak 8)).slot = 8 ∧
    keyRefused (sSec kActive) (roleOf (sSec kActive) 1) (keyCmd (bCak 8)) = false ∧ outOfRack (sSec kActive) 8 = true ∧
    keyCmdOk (bCak 1023) = true ∧ outOfRack (sSec kActive) 1023 = false := by decide +kernel
theorem witness_KeysAreCommanded_refused : keyRefused (sSec kActive) (roleOf (sSec kActive) 2) (keyCmd (bCak 8)) = true ∧
    keyRefused (sSec kActive) (roleOf (sSec kActive) 7) (keyCmd (bErase 0)) = true := by decide +kernel
theorem witness_KeysRotate : 4095 < 4096 ∧ (keySlotOf (sSec { kPending with pair := none }) 4095).pair = none ∧
    (keySlotOf (sSec kPending) 4095).st = .pending ∧ (keySlotOf (sSec kPending) 4095).pair.isSome = true ∧
    (keyWins (sSec kPending) 4095).map (fun w => (w.id, w.size)) = [(0, 0x100000)] := by decide +kernel
theorem witness_KeysRotate_early : (keySlotOf (sSec { kPending with due := 1 }) 4095).st = .pending ∧
    slotNow (sSec { kPending with due := 1 }) < (keySlotOf (sSec { kPending with due := 1 }) 4095).due := by decide +kernel
theorem witness_KeysRotate_step : (keySlotOf (sSec (kRotating 0xF0000)) 4095).st = .rotating ∧ (sSec (kRotating 0xF0000)).pool.txs = [] ∧
    0 < bgReserve (sSec (kRotating 0xF0000)) ∧ (rekeyNext (sSec (kRotating 0xF0000)) 4095).map (fun p => (p.1.id, p.2)) = some (0, 0xF0000) ∧
    ((rekeyNext (sSec (kRotating 0xF0000)) 4095).map fun p => rekeySkips (sSec (kRotating 0xF0000)) p.1 ((p.1.base + p.2) / 65536)) = some false ∧
    rekeyNext (sSec (kRotating 0x100000)) 4095 = none := by decide +kernel

/-- The source of randomness in a state. -/
def sRng (r : Rng) (n : Nat) : State := { device cSec with sec := { rng := r, attempts := n } }

theorem witness_RandomnessAndDebug : Awake (sRng .testing 9) ∧ (sRng .testing 9).sec.rng = .testing ∧ 9 ≤ (sRng .testing 9).sec.attempts ∧
    (sRng .testing 8).sec.attempts < 9 ∧ (sRng .ready 0).sec.rng = .ready ∧ rngServes (sRng .ready 0) = true ∧ rngServes (sRng .testing 0) = false ∧
    (sRng .retesting 0).sec.rng = .retesting ∧ (sRng .failed 0).sec.rng ≠ .retesting := by refine ⟨rfl, ?_⟩; decide +kernel
theorem witness_RandomnessAndDebug_unlock : ({ sRng .ready 0 with sec := { nonce := some 5 } } : State).sec.nonce = some 5 := rfl

/-- SPDM_MSG by endpoint 2. -/
def mSpdm : Msg := msg Op.spdmMsg 0 [0x12, 0xE0, 0, 0]

theorem witness_PeersAreAnswered_spdm : Awake (sRng .testing 0) ∧ Accepted (sRng .testing 0) Op.spdmMsg mSpdm ∧ rngServes (sRng .testing 0) = false ∧
    Accepted (sSec kActive) Op.spdmMsg mSpdm ∧ rngServes (sSec kActive) = true ∧ ((sSec kActive).sec.signDisabled && true) = false ∧
    (sSec kActive).sec.sessions.length < maxSessions (sSec kActive) :=
  ⟨rfl, accepted_of _ _ _ (inTurn_of _ _ _ (received _ _ (by decide)) (by decide +kernel)) (by decide +kernel), by decide +kernel,
   accepted_of _ _ _ (inTurn_of _ _ _ (received _ _ (by decide)) (by decide +kernel)) (by decide +kernel), by decide +kernel, by decide +kernel, by decide +kernel⟩

/-- An MKA frame of a peer with a priority. -/
def peer (priority : Byte) : Mka := { ckn := 9, serverPriority := priority, serverId := 3, live := [1, 2], sak := some 77 }

/-- A device whose port 8 is keyed. -/
def sMka (r : Rng) : State := { sRng r 0 with lnk := { macsec := [(8, { cak := some (9, 7) })] } }

theorem witness_PeersAreAnswered_mka : 8 < 1024 ∧ outOfRack (sMka .ready) 8 = true ∧ (macOf (sMka .ready) 8).cak = some (9, 7) ∧ 9 = (peer 4).ckn ∧
    (portOf (sMka .ready) 8).st ≠ .awaitingKey ∧ mkaWins (sMka .ready) (peer 4) = false ∧ mkaWins (sMka .ready) (peer 6) = true ∧
    (macOf (sMka .ready) 8).keyServer = false ∧ rngServes (sMka .ready) = true ∧ rngServes (sMka .failed) = false := by decide +kernel

/-! ### Twins -/

/-- A coat of twins. -/
def cTwin : Coat := { serial := 4, headerDigest := 6, regs := [rg Reg.poolTrkCfg 0 4], twin := some [⟨11, 101, 1⟩, ⟨12, 102, 2⟩] }

/-- A twin's device. -/
def sTwin (x : Scr) : State := { device cTwin with scr := x }

theorem witness_TwinsPair_trained : Awake (sTwin { role := 1, st := .training }) ∧ (sTwin { role := 1, st := .training }).scr.st = .training ∧
    ((List.range 8).filter fun i => (0xF0 : BitVec 8).getLsbD i && inService (sTwin { role := 1, st := .training }) 11 i) = [4, 5, 6, 7] ∧
    ((List.range 8).filter fun i => (0x70 : BitVec 8).getLsbD i && inService (sTwin { role := 1, st := .training }) 11 i).length < 4 := by
  refine ⟨rfl, ?_⟩; decide +kernel
theorem witness_TwinsPair_hello : helloOk (sTwin { role := 1, st := .training }) 2 12 4 6 = true ∧
    helloOk (sTwin { role := 2, st := .training, wasReset := true }) 1 11 4 6 = true ∧
    helloOk (sTwin { role := 2, st := .training }) 1 11 5 6 = false ∧ 7 < 8 ∧ (unitOf (sTwin {}) 11 7).st ≠ 3 := by decide +kernel
theorem witness_SurvivorsTakeOver_silence : Awake (sTwin { role := 2, st := .paired }) ∧ (sTwin { role := 2, st := .paired }).scr.st = .paired ∧
    ¬((sTwin { role := 1, st := .paired }).scr.role = 2 ∧ true = true) := ⟨rfl, rfl, by decide⟩

/-- The left twin alone, with a line and a pair in its shadows. -/
def sAlone : State := sTwin { role := 1, st := .alone, dirtyShadow := [(1, List.replicate 128 0x33)], shadowE := [(2, 9)] }

theorem witness_SurvivorsTakeOver_takeover : sAlone.scr.st = .alone ∧ sAlone.scr.took = false ∧ sAlone.scr.role = 1 ∧
    sAlone.scr.dirtyShadow = [(1, List.replicate 128 0x33)] ∧ (List.replicate 128 (0x33 : Byte)).length = 128 ∧ sAlone.scr.pinnedMirror = [] ∧
    sAlone.scr.shadowE = [(2, 9)] ∧ sAlone.scr.shadowKept = [] ∧ sAlone.trw.groups = [] ∧ (coat sAlone).resident.slots = [] ∧ sAlone.pool.txs = [] ∧
    Memory.wf sAlone.mem := by decide +kernel

/-- The survivor streams to its partner. -/
def sStreams : State := { sTwin { role := 1, st := .alone, rejoin := true, took := true } with pool := { cache := [(1, { dirty := true }), (3, { dirty := true })] } }

theorem witness_SurvivorsTakeOver_stream : sStreams.scr.st = .alone ∧ sStreams.scr.rejoin = true ∧ (streamLines sStreams).length = 1 ∧
    (sTwin { role := 2, st := .rejoining }).scr.st = .rejoining ∧ (sTwin { role := 2, st := .rejoining }).scr.role = 2 := by decide +kernel

/-- A commit record of one line. -/
def record1 : Commit :=
  { id := 5, lines := [(1, List.replicate 128 0x44)], pinned := [], records := [], poison := [], pairE := [], kept := [], gauges := [], freed := [], slots := [] }

theorem witness_TwinsCommit : Awake (sTwin { role := 2, st := .paired }) ∧ (sTwin { role := 2, st := .paired }).scr.role ≠ 0 ∧
    record1.lines = [(1, List.replicate 128 0x44)] ∧ record1.freed = [] ∧ record1.kept = [] ∧
    ¬(true = true ∧ (sTwin { role := 1, st := .paired }).scr.role = 2) := by refine ⟨rfl, ?_⟩; decide +kernel

/-- A transaction waits for the acknowledgement of record 5. -/
def sCommitted : State :=
  oneTx (sTwin { role := 1, st := .paired }) { id := 0, source := 2, tag := 7, work := .req Op.write (mWrite Op.write 0), commit := some 5 }

theorem witness_TwinsCommit_ack : ∃ z ∈ sCommitted.pool.txs, z.commit = some 5 := ⟨_, List.mem_singleton.mpr rfl, rfl⟩

/-! ### Coats -/

/-- A coat that a source may manage, and whose cures need ports and the confirmation. -/
def cCfg (checks : Nat) : Coat :=
  { serial := 4, regs := [rg Reg.poolSrcCfg 2 8, rg Reg.glbMgmtCfg 0 3, rg Reg.cfgCfg 0 (4096 * checks)],
    security := { mgmtList := [2] } }

/-- A device whose CFG state is `f` of one that runs that coat. -/
def sCfg (checks : Nat) (f : Cfg → Cfg) : State := { device (cCfg checks) with cfg := f (device (cCfg checks)).cfg }

/-- COAT_WRITE of four bytes at offset 0. -/
def mCoat : Msg := msg Op.coatWrite 0 (beBytes 4 0 ++ [0, 0, 0, 0] ++ [1, 2, 3, 4])

/-- COAT_SUBMIT of four bytes. -/
def mSubmit : Msg := msg Op.coatSubmit 0 (beBytes 4 4 ++ [0, 0, 0, 0])

/-- An assembly in progress. -/
def assembly (p : Path) : Cfg → Cfg := fun c => { c with staging := some { source := p, chunks := [(0, [9])] } }

theorem witness_CoatsAreDelivered_write : Awake (sCfg 0 id) ∧ Accepted (sCfg 0 id) Op.coatWrite mCoat ∧ (sCfg 0 id).cfg.staging = none ∧
    Accepted (sCfg 0 (assembly (.source 2))) Op.coatWrite mCoat ∧ Accepted (sCfg 0 (assembly .pcie)) Op.coatWrite mCoat ∧
    Path.pcie ≠ Path.source mCoat.src :=
  ⟨rfl, accepted_of _ _ _ (inTurn_of _ _ _ (received _ _ (by decide)) (by decide +kernel)) (by decide +kernel), rfl,
   accepted_of _ _ _ (inTurn_of _ _ _ (received _ _ (by decide)) (by decide +kernel)) (by decide +kernel),
   accepted_of _ _ _ (inTurn_of _ _ _ (received _ _ (by decide)) (by decide +kernel)) (by decide +kernel), by decide⟩
theorem witness_CoatsAreDelivered_submit : Accepted (sCfg 0 (assembly (.source 2))) Op.coatSubmit mSubmit ∧
    (sCfg 0 (assembly (.source 2))).cfg.staging = some { source := .source mSubmit.src, chunks := [(0, [9])] } ∧ beAt mSubmit.body 0 4 ≤ imageMax ∧
    Accepted (sCfg 0 id) Op.coatSubmit mSubmit :=
  ⟨accepted_of _ _ _ (inTurn_of _ _ _ (received _ _ (by decide)) (by decide +kernel)) (by decide +kernel), by decide, by decide,
   accepted_of _ _ _ (inTurn_of _ _ _ (received _ _ (by decide)) (by decide +kernel)) (by decide +kernel)⟩

/-- A patch of the coat with a serial, on a base. -/
def patchOn (base : Nat) (staged : Bool) : Patch :=
  { image := { patch := true, base, coat := { serial := 9, regs := (cCfg 0).regs } }, bytes := [1], staged }

/-- It is pending. -/
def waiting (base : Nat) (staged : Bool) : Cfg → Cfg :=
  fun c => { c with pending := some (patchOn base staged), writing := if staged then [] else [.entry 9] }

theorem witness_PatchesApply_staged : Awake (sCfg 0 (waiting 4 false)) ∧
    (sCfg 0 (waiting 4 false)).cfg.writing = [.entry (patchOn 4 false).image.coat.serial] ∧
    (sCfg 0 (waiting 4 false)).cfg.pending = some (patchOn 4 false) := ⟨rfl, rfl, rfl⟩

/-- A full coat is being programmed into slot 3. -/
def programs : Cfg → Cfg := fun c => { c with writing := [.full 3 65536 65536 (List.replicate 20 7) none] }

theorem witness_PatchesApply_full : 3 < 4 ∧ (sCfg 0 programs).cfg.dir.slots.length = 4 ∧
    (sCfg 0 programs).cfg.writing = [.full 3 65536 65536 (List.replicate 20 7) none] := ⟨by decide, rfl, rfl⟩
/-- A device whose slot a pending patch on a base has come to. -/
def sDue (base : Nat) : State := { sCfg 0 (waiting base true) with alm := { st := .locked } }

theorem witness_PatchesApply_early : (sCfg 0 (waiting 4 true)).cfg.pending = some (patchOn 4 true) ∧ (sCfg 0 (waiting 4 true)).alm.st = .unset := ⟨rfl, rfl⟩
theorem witness_PatchesApply_applies : (sDue 4).cfg.pending = some (patchOn 4 true) ∧ slotCome (sDue 4) (patchOn 4 true).image = true ∧ (patchOn 4 true).staged = true ∧
    (patchOn 4 true).image.base = (coat (sDue 4)).serial ∧ (sDue 4).cfg.st = .cured ∧
    (patchOn 4 true).image.sheet = [] ∧ (patchOn 4 true).image.scrub = [] := ⟨rfl, rfl, rfl, rfl, rfl, rfl, rfl⟩
theorem witness_PatchesApply_dropped : (sDue 5).cfg.pending = some (patchOn 5 true) ∧ slotCome (sDue 5) (patchOn 5 true).image = true ∧
    ¬((patchOn 5 true).staged = true ∧ (patchOn 5 true).image.base = (coat (sDue 5)).serial ∧ (sDue 5).cfg.st = .cured) := by decide

/-- CURE of a serial with a verdict. -/
def mCure (serial : Nat) (verdict : Byte) : Msg := msg Op.cure 0 (beBytes 4 serial ++ [verdict, 0, 0, 0] ++ List.replicate 96 1)

/-- A cure in progress. -/
def curing (due : Bool) (passed : List Nat) (previous : Option Coat) : Cfg → Cfg :=
  fun c => { c with st := .curing, stripDue := due, passed, previous }

theorem witness_CoatsCure_cure : Accepted (sCfg 0 id) Op.cure (mCure 4 1) ∧ (sCfg 0 id).cfg.st ≠ .curing ∧
    Accepted (sCfg 0 (curing false [] none)) Op.cure (mCure 4 0) ∧ beAt (mCure 4 0).body 0 4 = (coat (sCfg 0 (curing false [] none))).serial ∧
    beAt (mCure 5 0).body 0 4 ≠ (coat (sCfg 0 (curing false [] none))).serial :=
  ⟨accepted_of _ _ _ (inTurn_of _ _ _ (received _ _ (by decide)) (by decide +kernel)) (by decide +kernel), by decide,
   accepted_of _ _ _ (inTurn_of _ _ _ (received _ _ (by decide)) (by decide +kernel)) (by decide +kernel), by decide, by decide⟩
theorem witness_CoatsCure_fails : 2 < 6 ∧ (sCfg 4 (curing false [] none)).cfg.st = .curing ∧ bit (checksOf (sCfg 4 (curing false [] none))) 2 = true ∧
    checkMet (sCfg 4 (curing false [] none)) 2 = true ∧ bit (checksOf (sCfg 0 (curing false [] none))) 2 = false := by decide +kernel
theorem witness_CoatsCure_ends : (sCfg 2 (curing false [1] none)).cfg.stripDue = false ∧ allLowered (sCfg 2 (curing false [1] none)) = true ∧
    bit (checksOf (sCfg 2 (curing false [1] none))) 1 = true ∧ 1 ∈ (sCfg 2 (curing false [1] none)).cfg.passed ∧
    1 ∉ (sCfg 2 (curing false [] none)).cfg.passed := by decide +kernel
theorem witness_CoatsAreRestored_strip : (sCfg 0 (curing true [] (some { serial := 3 }))).cfg.st = .curing ∧
    (sCfg 0 (curing true [] (some { serial := 3 }))).cfg.stripDue = true ∧
    (sCfg 0 (curing true [] (some { serial := 3 }))).cfg.previous = some { serial := 3 } ∧ (sCfg 0 (curing true [] none)).cfg.previous = none :=
  ⟨rfl, rfl, rfl, rfl⟩

/-- The pool drains after a strip, since tick 1. -/
def sDrain : State := { sCfg 0 (fun c => { c with st := .draining }) with pool := { drain := some 1 } }

/-- A read that began before still goes on. -/
def sDrains : State := oneTx sDrain { id := 0, source := 2, tag := 7, work := .req Op.read (mRead Op.read 0) }

theorem witness_CoatsAreRestored_drain : sDrain.pool.drain = some 1 ∧ drainLeft sDrain 1 = false ∧ (∀ x ∈ sDrain.pool.srcs, x.2.held = []) ∧
    sDrains.pool.drain = some 1 ∧ drainLeft sDrains 1 = true := by
  refine ⟨rfl, rfl, ?_, rfl, by decide +kernel⟩
  intro x hx
  exact absurd hx (by simp [sDrain])

/-- Tile 79 is sheeted for a test. -/
def sSheeted : State := sCfg 0 fun c => { c with units := [((2, 79), { st := 1, reason := 3 })] }

theorem witness_CoatsAreRestored_return : okUnit 2 79 = true ∧ (unitOf sSheeted 2 79).st = 1 ∧ (unitOf sSheeted 2 79).reason = 3 := by decide +kernel

/-- A device that boots with an empty flash. -/
def sBoot : State := { device {} with cfg := {} }

theorem witness_CoatsAreRestored_boot : Awake sBoot ∧ sBoot.cfg.st = .booting ∧ (bootDir sBoot).isNone = true := ⟨rfl, rfl, rfl⟩

/-! ### Faults, frost, snapshots -/

/-- A coat that tests units in the background. -/
def cRas : Coat :=
  { regs := [rg Reg.poolSrcCfg 2 8, rg Reg.rasSelftestCfg 0 256, rg Reg.rasCfg 0 (100 + 4096 * 8), rg Reg.telCfg 0 (2 ^ 20)] ++ winRegs 0 0 0,
    pool := { homes := [(1, [2])], trays := [(0, 50)] } }

/-- Its device with a unit's state. -/
def sUnits (l : List ((Nat × Nat) × UnitSt)) : State := { device cRas with cfg := { (device cRas).cfg with units := l } }

theorem witness_UnitsAreTested_start : Awake (sUnits []) ∧ okTestUnit 2 79 = true ∧ mayTest (sUnits []) 2 = true ∧
    (servingUnits (sUnits []) 2).contains 79 = true ∧ (unitOf (sUnits []) 2 79).wanted = false ∧ (sUnits []).pool.txs = [] ∧
    unitBusy (sUnits []) 2 79 = false := by refine ⟨rfl, ?_⟩; decide +kernel

/-- Tile 79 works. -/
def sWorks : State := { sUnits [] with til := { invs := [inv 0x10 [.running 79, .waiting]] } }

theorem witness_UnitsAreTested_busy : mayTest sWorks 2 = true ∧ (servingUnits sWorks 2).contains 79 = true ∧ unitBusy sWorks 2 79 = true := by decide +kernel
theorem witness_UnitsAreTested_end : (unitOf (sUnits [((5, 15), { st := 2 })]) 5 15).st = 2 ∧ okTestUnit 5 15 = true ∧
    (unitOf (sUnits [((5, 15), { st := 2 })]) 5 15).faulty = false ∧ faultKinds.contains 5 = true ∧ (unitOf (sUnits []) 5 15).st = 0 ∧
    (unitOf (sUnits [((5, 15), { st := 3 })]) 5 15).st = 3 := by decide +kernel

/-- Every Gather unit is out of service, unit 0 in a test, and a GATHER waits. -/
def sGWait : State :=
  oneTx (sUnits (((4, 0), { st := 2 }) :: (List.range 15).map fun i => ((4, i + 1), { st := 3 })))
    { id := 0, source := 2, tag := 7, work := .req Op.gather mGather }

theorem witness_UnitsAreTested_waits : (sGWait.pool.txs.map needsUnit) = [true] ∧ (sGWait.pool.txs.map Tx.unit) = [none] ∧
    servingUnits sGWait (unitKind Op.gather) = [] ∧ sGWait.til.invs = [] ∧
    (sGWait.cfg.units.any fun u => u.1.1 == unitKind Op.gather && u.2.st == 2) = true := by decide +kernel
theorem witness_MemoryIsRepaired : Awake (sUnits []) ∧ 511 < 512 ∧ pcServes (sUnits []) 511 = true ∧ (pcOf (sUnits []) 511).spare ≠ 0 ∧
    4095 ∉ (pcOf (sUnits []) 511).repairing ∧ (pcOf (sUnits []) 511).ueRows = [] ∧ 1 ≤ coatFld (sUnits []) Reg.rasCfg 0 12 6 ∧
    isPinned (sUnits []) 5 = true ∧ (sUnits []).coh.slots = [] ∧ coatFld (sUnits []) Reg.rasCfg 0 0 12 < 101 ∧
    ¬(pcServes (sUnits []) 511 = true ∧ coatFld (sUnits []) Reg.rasCfg 0 0 12 < 100) ∧ (coat (sUnits [])).pool.trays ≠ [] ∧
    (coat (device {})).pool.trays = [] := by refine ⟨rfl, ?_⟩; decide +kernel

/-- A row of pseudo-channel 511 is in repair. -/
def sRepair : State := { sUnits [] with ras := { pcs := [(511, { repairing := [9] })] } }

theorem witness_MemoryIsRepaired_repaired : 9 ∈ (pcOf sRepair 511).repairing := by decide +kernel

/-- FROST_NOTICE of a job from endpoint 2. -/
def mNotice (job : Nat) : Msg := msg Op.frostNotice 0 (beBytes 2 job ++ [1, 0])

/-- THAW of job 1 at a serial. -/
def mThaw (serial : Nat) : Msg := msg Op.thaw 0 (beBytes 2 1 ++ [0, 0] ++ beBytes 4 serial ++ List.replicate 96 1)

/-- A device with job 1 in a state; its own endpoint is 0. -/
def sJob (j : Job) : State := { sUnits [] with ras := { jobs := [(1, j)] } }

theorem witness_JobsFreezeAndThaw_notice : Awake (sJob {}) ∧ Accepted (sJob {}) Op.frostNotice (mNotice 1) ∧
    (((coat (sJob {})).pool.homes.lookup 1).getD []).contains (mNotice 1).src = true ∧ (jobSt (sJob {}) 1).frost = false ∧
    (sJob {}).coh.slots = [] ∧ (mNotice 1).src ≠ selfEp (sJob {}) ∧ Accepted (sJob {}) Op.frostNotice (mNotice 7) ∧
    (((coat (sJob {})).pool.homes.lookup 7).getD []).contains (mNotice 7).src = false :=
  ⟨rfl, accepted_of _ _ _ (inTurn_of _ _ _ (received _ _ (by decide)) (by decide +kernel)) (by decide +kernel), by decide +kernel, by decide +kernel, rfl,
   by decide +kernel, accepted_of _ _ _ (inTurn_of _ _ _ (received _ _ (by decide)) (by decide +kernel)) (by decide +kernel), by decide +kernel⟩
theorem witness_JobsFreezeAndThaw_thaw : Accepted (sJob {}) Op.thaw (mThaw 6) ∧ Accepted (sJob { frost := true, swept := true, serial := 6 }) Op.thaw (mThaw 6) ∧
    (jobSt (sJob { frost := true, swept := true, serial := 6 }) 1).frost = true :=
  ⟨accepted_of _ _ _ (inTurn_of _ _ _ (received _ _ (by decide)) (by decide +kernel)) (by decide +kernel),
   accepted_of _ _ _ (inTurn_of _ _ _ (received _ _ (by decide)) (by decide +kernel)) (by decide +kernel), by decide +kernel⟩
theorem witness_JobsFreezeAndThaw_apply : 1 < 65536 ∧ (jobSt (sJob { frost := true, serial := 6, thaw := some 6 }) 1).thaw = some 6 ∧
    (jobSt (sJob { frost := true, serial := 6, thaw := some 6 }) 1).frost = true ∧ 5 ≠ (jobSt (sJob { frost := true, serial := 6, thaw := some 5 }) 1).serial := by
  decide +kernel

/-- A device in the middle of a snapshot. -/
def sSnap (x : Option (Nat × Nat × Nat × List (Nat × Nat))) : State := { device cRas with tel := { snap := x } }

theorem witness_SnapshotsAreSent : Awake (sSnap none) ∧ snapDueNow (sSnap none) = true ∧ (sSnap none).tel.snap = none ∧
    (sSnap (some (1, 2, 0, [(3, 4)]))).tel.snap.isSome = true ∧ bit (coatReg (device {}) Reg.telCfg 0) 20 = false := by refine ⟨rfl, ?_⟩; decide +kernel

/-! ### Registers -/

/-- A manageable device. -/
def sReg : State := sCfg 0 id

/-- REG_READ of one word, and REG_WRITE of one. -/
def mRegRead (a : Nat) : Msg := msg Op.regRead a [0, 1, 0, 0]
def mRegWrite (a v : Nat) : Msg := msg Op.regWrite a (beBytes 4 v)

theorem witness_RegistersAreAccessed_word : Awake sReg ∧ Accepted sReg Op.regRead (mRegRead 0) ∧ beAt (mRegRead 0).body 0 2 = 1 ∧ regSecure (seen sReg) 0 = false ∧
    (seen sReg).scr.role = 0 ∧ (∀ u, Only [.pool, .out, .ctr] sReg u → ownVal (seen u) (.source (mRegRead 0).src) 0 = ownVal (seen sReg) (.source (mRegRead 0).src) 0) ∧
    regAccess (seen sReg) 0 ≠ none ∧ (ownVal (seen sReg) (.source 2) 0).isSome = true ∧ 0 ≠ Reg.glbEventSummary :=
  ⟨rfl, accepted_of _ _ _ (inTurn_of _ _ _ (received _ _ (by decide)) (by decide +kernel)) (by decide +kernel), by decide, by decide +kernel, rfl,
   fun u _ => rfl, by decide +kernel, by decide +kernel, by decide⟩
theorem witness_RegistersAreAccessed_wide : Accepted sReg Op.regRead (mRegRead Reg.glbUptimeLo) ∧ regSecure (seen sReg) Reg.glbUptimeLo = false ∧
    (∀ u, Only [.pool, .out, .ctr] sReg u → ownVal (seen u) (.source 2) Reg.glbUptimeLo = ownVal (seen sReg) (.source 2) Reg.glbUptimeLo) ∧
    regAccess (seen sReg) Reg.glbUptimeLo ≠ none ∧ ownVal (seen sReg) (.source 2) Reg.glbUptimeLo = some (.wide 0) := by
  refine ⟨accepted_of _ _ _ (inTurn_of _ _ _ (received _ _ (by decide)) (by decide +kernel)) (by decide +kernel), by decide +kernel, ?_, by decide +kernel,
    by decide +kernel⟩
  intro u hu
  have h : u.pwr = sReg.pwr := hu .pwr (by decide)
  rw [seen_now (hu .shot (by decide)), seen_now rfl]
  have e : ∀ v : State, ownVal v (.source 2) Reg.glbUptimeLo = some (.wide v.pwr.uptime) := fun v => rfl
  rw [e, e, h]
theorem witness_RegistersAreAccessed_nothing : Accepted sReg Op.regRead (mRegRead 0xFFFFFFFC) ∧ regAccess (seen sReg) 0xFFFFFFFC = none ∧ regAccess sReg 0xFFFFFFFC = none ∧
    regSecure (seen sReg) 0xFFFFFFFC = false ∧ underOld sReg = sReg ∧ regSecure sReg 0xFFFFFFFC = false ∧ Accepted sReg Op.regWrite (mRegWrite 0xFFFFFFFC 1) ∧ (mRegWrite 0 1).body.length = 4 :=
  ⟨accepted_of _ _ _ (inTurn_of _ _ _ (received _ _ (by decide)) (by decide +kernel)) (by decide +kernel), by decide +kernel, by decide +kernel, by decide +kernel, rfl,
   by decide +kernel, accepted_of _ _ _ (inTurn_of _ _ _ (received _ _ (by decide)) (by decide +kernel)) (by decide +kernel), by decide⟩
theorem witness_RegistersAreAccessed_select : Accepted sReg Op.regWrite (mRegWrite Reg.poolWinSel 0xFFFFFFFF) ∧
    regAccess sReg Reg.poolWinSel = some (.rw 0x3FFF) ∧ regSecure sReg Reg.poolWinSel = false :=
  ⟨accepted_of _ _ _ (inTurn_of _ _ _ (received _ _ (by decide)) (by decide +kernel)) (by decide +kernel), by decide +kernel, by decide +kernel⟩
theorem witness_RegistersAreAccessed_path : pathOpen sReg (.source 2) = true ∧ pathOpen sReg .firmware = true ∧
    (regSecure sReg Reg.almEventStatus && !pathSecure (.source 2)) = false ∧
    (regAccess sReg Reg.almEventStatus matches some (.rw1c _)) = true ∧ (regAccess sReg Reg.glbUptimeLo matches some .ro) = true := by decide +kernel

/-- PCIe is up. -/
def sPcie (latch : List ((Path × Nat) × Word)) : State := { sReg with mgmt := { pcieUp := true, latches := latch } }

theorem witness_PcieIsServed_read : Awake (sPcie []) ∧ underOld (sPcie []) = sPcie [] ∧ pathOpen (sPcie []) .pcie = true ∧ regAccess (seen (sPcie [])) Reg.glbUptimeLo ≠ none ∧
    (regSecure (seen (sPcie [])) Reg.glbUptimeLo && !pathSecure .pcie) = false ∧ farReg (seen (sPcie [])) .pcie Reg.glbUptimeLo = false ∧
    ownVal (seen (sPcie [])) .pcie Reg.glbUptimeLo = some (.wide 0) := by refine ⟨rfl, rfl, ?_⟩; decide +kernel
theorem witness_PcieIsServed_high : regAccess (seen (sPcie [((.pcie, Reg.glbUptimeLo), 7)])) (Reg.glbUptimeLo + 4) ≠ none ∧
    ownVal (seen (sPcie [((.pcie, Reg.glbUptimeLo), 7)])) .pcie (Reg.glbUptimeLo + 4) = none ∧
    alGet (sPcie [((.pcie, Reg.glbUptimeLo), 7)]).mgmt.latches (.pcie, Reg.glbUptimeLo + 4 - 4) = some 7 ∧
    farReg (seen (sPcie [((.pcie, Reg.glbUptimeLo), 7)])) .pcie (Reg.glbUptimeLo + 4) = false := by decide +kernel
/-- PCIe is up, and the coat turns BAR0 off. -/
def sBarOff : State := { device { regs := [rg Reg.glbMgmtCfg 0 1] } with mgmt := { pcieUp := true } }

theorem witness_PcieIsServed_off : Awake sBarOff ∧ sBarOff.mgmt.pcieUp = true ∧ underOld sBarOff = sBarOff ∧ barOn sBarOff = false := by refine ⟨rfl, rfl, rfl, ?_⟩; decide +kernel
theorem witness_PcieIsServed_doorbell : mCoat.port ≤ 1024 ∧ (sPcie []).mgmt.pcieUp = true ∧ (sPcie []).mgmt.mbxBusy = false ∧ mailboxHeader mCoat = true ∧
    (0xC1 : BitVec 8).toNat = Op.coatWrite ∧ coatFormat Op.coatWrite mCoat = true ∧ (sPcie []).cfg.staging = none ∧
    mailboxHeader { mCoat with version := 2 } = false ∧ (0 : BitVec 32) ≠ 1 := by decide +kernel

/-! ### The spec's worked examples -/

/-- What a command leaves, seen through `f`. -/
def after {α : Type} (c : Instr) (s : State) (f : State → α) : Option α :=
  match exec c s with
  | .next t => some (f t)
  | _ => none

/-- CRC-32C of the nine digits, the algorithm's published check value. -/
theorem test_crc32c : crc32c [0x31, 0x32, 0x33, 0x34, 0x35, 0x36, 0x37, 0x38, 0x39] = 0xE3069283 := by decide +kernel

/-- spec/13, an activation group in MXFP8: 5.0 and 0.3 in block 0, block 1 of zeros, 0.02 in block 2, 1.7 in block 3. -/
theorem test_mx_block_0 : mxEncode 4 [decodeNum fp32 0x40A00000, decodeNum fp32 0, decodeNum fp32 0, decodeNum fp32 0x3E99999A] =
    (0x79, [0x7A, 0, 0, 0x5A]) := by decide +kernel
theorem test_mx_blocks : mxEncode 4 [decodeNum fp32 0] = (0, [0]) ∧ mxEncode 4 [decodeNum fp32 0x3CA3D70A] = (0x71, [0x7A]) ∧
    (mxEncode 4 [decodeNum fp32 0x3FD9999A]).1 = 0x77 := by decide +kernel

/-- spec/13, that group's COB header. -/
theorem test_cob_header : cobHeader 4 true false 40 [0x79, 0, 0x71, 0x77] = [0x14, 0x28, 0, 0, 0x79, 0, 0x71, 0x77] := by decide +kernel
theorem test_cob_sizes : cobSparse 4 40 = 64 ∧ cobRaw 4 = 144 := by decide +kernel

/-- spec/05, three children on one port: the tag steps of frames of 4,220 bytes at weights 96, 32 and 64. -/
theorem test_tag_steps : ceilDiv (4220 * 256) 96 = 11254 ∧ ceilDiv (4220 * 256) 32 = 33760 ∧ ceilDiv (4220 * 256) 64 = 16880 := by decide

/-- spec/22, a leaf capped at 2,200 W: POWER_STEP after windows of 2,477 W and, at step 11, of 2,164 W. -/
def capped (step : Nat) : State :=
  { device { regs := [rg Reg.pwrCfg 0 2200] } with pwr := { inReset := false, resetLow := false, powerStep := step } }

theorem test_power_cap : after (.powerWindow 2477 false) (capped 16) (fun t => t.pwr.powerStep) = some 15 ∧
    after (.powerWindow 2164 false) (capped 11) (fun t => t.pwr.powerStep) = some 11 := by decide +kernel

/-- spec/21 R615: a selection of this tick is not yet what a read of it sees; an event of this tick neither (R592). -/
def sLate : State :=
  { sReg with shot := some (shotOf sReg), mgmt := { sels := [((.firmware, Reg.telLogSel), 5)] }, evt := [(Reg.almEventStatus, 1)] }

theorem test_read_sees_tick_before :
    after (.loReadLatch .firmware (BitVec.ofNat 32 Reg.telLogSel)) sLate (fun t => t.out) = some [.regValue .firmware Reg.telLogSel 0] ∧
    after (.loReadLatch .firmware (BitVec.ofNat 32 Reg.almEventStatus)) sLate (fun t => t.out) = some [.regValue .firmware Reg.almEventStatus 0] := by
  decide +kernel

end Sys2Proof.Tests
end

section
/-! SUPPORT. Every meaning stands behind one of the two gates, and what that says of all commands at once (O3). -/

namespace Sys2Proof.Machine

/-- The gate that a command's meaning stands behind: `always` for power, reset and their pins (R626, R628), `live` for every other. -/
def gate (c : Instr) : Bool → State → (State → State) → Host.Outcome State Fault Refusal :=
  match c with
  | .resetRelease _ | .resetNAsserted | .pcieReset | .tapReset | .railFault _ _ | .clockLost | .thermtrip => always
  | _ => live

theorem gate_eq_always_or_live (c : Instr) : gate c = always ∨ gate c = live := by
  unfold gate
  split
  case h_8 => exact .inr rfl
  all_goals exact .inl rfl

/-- Every arm of `exec` is the command's own gate, asked about `Instr.wf` of the command, before some effect. -/
theorem exec_eq_gate (c : Instr) : ∃ f, ∀ s, exec c s = gate c c.wf s f := by
  cases c <;> exact ⟨_, fun _ => rfl⟩

theorem always_next (ok : Bool) (s : State) (f : State → State) : ∃ t, always ok s f = .next t := by
  cases ok
  · exact ⟨s, always_illFormed s f⟩
  · exact ⟨handOver (f s), always_wf s f⟩

theorem live_next (ok : Bool) (s : State) (f : State → State) : ∃ t, live ok s f = .next t := by
  obtain ⟨-, -, h⟩ | ⟨-, h⟩ := live_cases ok s f
  · exact ⟨handOver (f s), h⟩
  · exact ⟨s, h⟩

/-- No command is refused and none faults. -/
theorem exec_next (c : Instr) (s : State) : ∃ t, exec c s = .next t := by
  obtain ⟨f, hf⟩ := exec_eq_gate c
  rw [hf]
  obtain h | h := gate_eq_always_or_live c <;> rw [h]
  · exact always_next c.wf s f
  · exact live_next c.wf s f

theorem exec_illFormed {c : Instr} (hc : c.wf = false) (s : State) : exec c s = .next s := by
  obtain ⟨f, hf⟩ := exec_eq_gate c
  rw [hf, hc]
  obtain h | h := gate_eq_always_or_live c <;> rw [h]
  · exact always_illFormed s f
  · exact live_illFormed s f

theorem exec_inReset {c : Instr} (hc : gate c = live) {s : State} (h : s.pwr.inReset = true) : exec c s = .next s := by
  obtain ⟨f, hf⟩ := exec_eq_gate c
  rw [hf, hc]
  exact live_reset h

end Sys2Proof.Machine

open Sys2Proof Sys2Proof.Machine

/-- Settles O3: every arm of `exec` is a gate before an effect, and the gates answer for all commands at once. -/
theorem commandsGoOn : Obligations.CommandsGoOn := by
  unfold Obligations.CommandsGoOn
  refine ⟨exec_next, fun c s hc => exec_illFormed hc s, fun c s h => ?_⟩
  split
  case h_8 =>
    have hc : gate c = live := by simp only [gate]
    exact exec_inReset hc h
  all_goals trivial

end

section
/-! SUPPORT. The closing run and the hand-over of a block whose units have no work, and the boot of a device whose one chain in flash is
rejected (O55). -/

namespace Sys2Proof.Machine

open Safety

/-! ### The closing run of idle units -/

/-- Nothing is left for a round of the units to take up: no hook, transaction, invocation, group or dense work. A self-test may still wait
for its unit, and the pool for its trays, which `Safety.Rest` excludes. -/
def UnitsIdle (s : State) : Prop :=
  s.hooks = [] ∧ s.pool.txs = [] ∧ s.til.invs = [] ∧ s.trw.groups = [] ∧ denseIdle s = true

/-- The parts in which that shows carry it over. -/
theorem UnitsIdle.of_only {s t : State} (h : UnitsIdle s) (k : Only [.cfg] s t) : UnitsIdle t := by
  have hooks : t.hooks = s.hooks := k .hooks (by decide)
  have pool : t.pool = s.pool := k .pool (by decide)
  have til : t.til = s.til := k .til (by decide)
  have trw : t.trw = s.trw := k .trw (by decide)
  have dns : t.dns = s.dns := k .dns (by decide)
  simpa only [UnitsIdle, denseIdle, hooks, pool, til, trw, dns] using h

theorem pump_of_no_txs {s : State} (h : s.pool.txs = []) (n : Nat) : pump n s = s := by
  cases n <;> simp [pump, h]

theorem densePump_of_idle {s : State} (h : denseIdle s = true) (n : Nat) : densePump n s = s := by
  cases n <;> simp [densePump, h]

theorem serveAll_of_no_groups {s : State} (h : s.trw.groups = []) : serveAll s = s := by simp [serveAll, h]

theorem assignUnits_of_no_txs {s : State} (h : s.pool.txs = []) : assignUnits s = s := by simp [assignUnits, h]

theorem tilesSettle_of_no_invs {s : State} (h : s.til.invs = []) : tilesSettle s = s := by
  have same : { s with til := { s.til with invs := [] } } = s := by rw [← h]
  simp [tilesSettle, h, same]

theorem cfg_only (s : State) (c : Cfg) : Only [.cfg] s { s with cfg := c } := by
  intro p h
  cases p with
  | cfg => simp at h
  | mem => exact fun _ => rfl
  | _ => rfl

theorem beginWanted_only (s : State) (kind index : Nat) : Only [.cfg] s (beginWanted s kind index) := by
  unfold beginWanted
  split
  · exact cfg_only s _
  · exact only_refl _ s

theorem foldl_only {α : Type} {l : List Part} {f : State → α → State} (h : ∀ s x, Only l s (f s x)) (xs : List α) (s : State) :
    Only l s (xs.foldl f s) := by
  induction xs generalizing s with
  | nil => exact only_refl l s
  | cons x xs ih => exact only_trans (h s x) (ih (f s x))

theorem beginTests_only (s : State) : Only [.cfg] s (beginTests s) := by
  refine foldl_only (fun s u => ?_) _ s
  split
  · exact beginWanted_only s _ _
  · exact only_refl _ s

theorem poolMayServe_only (s : State) : Only [.cfg] s (poolMayServe s) := by
  simp only [poolMayServe]
  split
  · exact cfg_only s _
  · exact only_refl _ s

/-- A round of idle units begins the self-tests that wait and may make the pool ready. -/
theorem unitsRound_only {s : State} (h : UnitsIdle s) : Only [.cfg] s (unitsRound s) := by
  obtain ⟨-, txs, invs, groups, dense⟩ := h
  have round : unitsRound s = poolMayServe (beginTests s) := by
    rw [unitsRound, pump_of_no_txs txs, densePump_of_idle dense, serveAll_of_no_groups groups, assignUnits_of_no_txs txs,
      tilesSettle_of_no_invs invs]
  rw [round]
  exact only_trans (beginTests_only s) (poolMayServe_only _)

theorem settleFor_only {s : State} (h : UnitsIdle s) (n : Nat) : Only [.cfg] s (settleFor n s) := by
  induction n generalizing s with
  | zero => exact only_refl _ s
  | succ n ih =>
    have round := unitsRound_only h
    have idle := h.of_only round
    have noHook : nextHook (unitsRound s).hooks = none := by
      obtain ⟨hooks, -⟩ := idle
      rw [hooks]
      rfl
    simp only [settleFor, noHook]
    split
    · exact only_trans round (ih idle)
    · exact round

/-- Where the units are idle and all that was sent has been handed over, the end of a command raises no event. -/
theorem handOver_settle_evt {s : State} (h : UnitsIdle s) (sent : s.out.length ≤ s.swc.handed) : (handOver (settle s)).evt = s.evt := by
  have run : Only [.cfg] s (settle s) := settleFor_only h 65536
  have out : (settle s).out = s.out := run .out (by decide)
  have swc : (settle s).swc = s.swc := run .swc (by decide)
  rw [handOver_idle (by rw [out, swc]; exact sent)]
  exact run .evt (by decide)

/-! ### A boot that rejects the only chain -/

/-- A device out of reset whose flash has no directory, and in slot 0 a full coat of 512 zero bytes: its SIGNER names owner key 0, which
no fuse holds (R532). -/
def unsignedBoot : State :=
  { pwr := { inReset := false, resetLow := false },
    nv := { chains := [(0, { offset := 0x40000, extent := 65536, full := List.replicate 512 0, journal := [] })] } }

/-- No coat is picked (R534). -/
theorem unsignedBoot_pick :
    bootPick { unsignedBoot with cfg := { unsignedBoot.cfg with dir := (bootDir unsignedBoot).getD {} } } = .none := by decide +kernel

theorem unsignedBoot_idle : UnitsIdle unsignedBoot := ⟨rfl, rfl, rfl, rfl, rfl⟩

theorem boots_unsignedBoot_idle : UnitsIdle (boots unsignedBoot) := by
  unfold UnitsIdle
  decide +kernel

theorem boots_unsignedBoot_out : (boots unsignedBoot).out = [] := by decide +kernel

/-- COAT_REJECTED is raised (R533). -/
theorem boots_unsignedBoot_rejects : evtBit (boots unsignedBoot) Reg.cfgEventStatus 0 = true := by decide +kernel

/-- The events after BOOT of that device are those of the boot itself, with COAT_REJECTED. -/
theorem execBoot_unsignedBoot : execBoot unsignedBoot = .next (handOver (settle (boots unsignedBoot))) ∧
    (handOver (settle (boots unsignedBoot))).evt = (boots unsignedBoot).evt :=
  ⟨live_awake rfl, handOver_settle_evt boots_unsignedBoot_idle (by simp [boots_unsignedBoot_out])⟩

end Sys2Proof.Machine

open Sys2Proof Sys2Proof.Machine Sys2Proof.Safety

/-- Refutes O55: a boot that picks no coat need not leave all but the configuration alone. Where the flash holds an image that fails its
checks, the boot ends without a coat (R534) and raises COAT_REJECTED (R533), which writes the event's bit, the log and a counter. -/
theorem not_coatsAreRestored : ¬ Obligations.CoatsAreRestored := by
  unfold Obligations.CoatsAreRestored
  intro h
  obtain ⟨-, -, -, -, -, boot⟩ := h unsignedBoot rfl
  obtain ⟨t, next, noCoat, -⟩ := boot rfl
  obtain ⟨-, -, frame⟩ := noCoat unsignedBoot_pick
  obtain ⟨ran, raised⟩ := execBoot_unsignedBoot
  have ends : handOver (settle (boots unsignedBoot)) = handOver (settle t) := Host.Outcome.next.inj (ran.symm.trans next)
  have out : t.out = [] := frame .out (by decide)
  have quiet : (handOver (settle t)).evt = t.evt := handOver_settle_evt (unsignedBoot_idle.of_only frame) (by simp [out])
  have same : (boots unsignedBoot).evt = [] :=
    calc (boots unsignedBoot).evt = (handOver (settle (boots unsignedBoot))).evt := raised.symm
      _ = (handOver (settle t)).evt := congrArg State.evt ends
      _ = t.evt := quiet
      _ = [] := frame .evt (by decide)
  have rejected := boots_unsignedBoot_rejects
  rw [evtBit, same] at rejected
  exact absurd rejected (by decide)

end
